-- ==== Sys2Proof/Word.lean ====
section
/-! DEFINITION. The byte of the control link, the intake port and the picture memory. Quantities that the manual
counts, adds or compares as numbers (positions, counts, exposure values) are `Nat` or `Int`; a byte on a line is bits. -/

namespace Sys2Proof

/-- One byte on a line or in picture memory. -/
abbrev Byte := BitVec 8

/-- The low byte of a number. -/
abbrev byteOf (n : Nat) : Byte := BitVec.ofNat 8 n

end Sys2Proof
end

