-- ==== Sys2Proof/Config.lean ====
section
/-! DEFINITION. The values the manual leaves open and nothing fixes: constants without a body. -/

namespace Sys2Proof

/-- The focus step F(z, 0) of R102 when a scan falls short of its minimum contrast while the zoom is UNREFERENCED:
R47 makes no reading then and no rule gives the value. Applied to the model's own counter `State.freeCount`, a fresh
value each time. Log 18: DESIGN CHOICE, safe. -/
opaque Config.unreadFocusStep : Nat → Nat

/-- The zoom step read at while the zoom is UNREFERENCED, where a picture in hand still reads the lens (R148, R151): R47
makes no reading then and no rule gives the value. Applied to `State.freeCount`. Log 47: DESIGN CHOICE, safe. -/
opaque Config.unreadZoomStep : Nat → Nat

/-- The detail of a REFUSED TABLE_FULL, which R4 does not give, taken modulo 65536 (R202). Applied to
`State.freeCount`, a fresh value each time. Log 19: DESIGN CHOICE, safe. -/
opaque Config.tableFullDetail : Nat → Nat

/-- The bits that data line `lane` (0..3) carries of one card block, in the order sent: the encoding on the card lines
is left to the data sheet (R174, R182). Log 24: DESIGN CHOICE, safe. -/
opaque Config.laneBits : Nat → List Byte → List Bool

end Sys2Proof
end

