-- ==== Sys2Proof/Syntax.lean ====
section
/-! DEFINITION. The commands the block takes: one constructor of `Instr` per row of spec/opcode_table.json, with the
operands the row's rule gives it. Request operands stand as R203 carries them (codes as numbers, an absent operand as
`none`), so that a code outside its list can be said and is refused by the owner. -/

namespace Sys2Proof

/-- The three lens axes (R19). -/
inductive Axis where
  | zoom | focus | iris
  deriving DecidableEq, Repr

/-- Levels of ZREF, FREF and IREF (R19): `true` is high, above the reference position. -/
structure RefFlags where
  zoom : Bool
  focus : Bool
  iris : Bool
  deriving DecidableEq, Repr

/-- The seven fields of an optics table node, in field order (R39). -/
structure NodeFields where
  zoomStep : Nat
  focal : Nat
  equiv : Nat
  avOpen : Nat
  fInf : Nat
  fNear : Nat
  gain : Nat
  deriving DecidableEq, Repr

/-- The five fields of the global part, in field order (R39). -/
structure GlobalFields where
  avCap : Nat
  tvMaxElectronic : Nat
  tvMaxMechanical : Nat
  stroke : Nat
  follow : Nat
  deriving DecidableEq, Repr

/-- The fields a TABLE-LOAD carries: a node's seven (LEN 17) or the global part's five (LEN 11), R203. -/
inductive TableFields where
  | node (f : NodeFields)
  | global (f : GlobalFields)
  deriving DecidableEq, Repr

/-- METER-SET's operands, in the field order of R70. -/
structure MeterOperands where
  mode : Nat
  weights : List Nat
  target : Nat
  highlight : Nat
  compensation : Int
  convergence : Nat
  rounding : Nat
  gvMax : Nat
  knee : Nat
  tvFloor : Nat
  deriving DecidableEq, Repr

/-- AF-SET's operands, in the field order of R92. -/
structure AfOperands where
  mask : Nat
  step : Nat
  condition : Nat
  fall : Nat
  threshold : Nat
  minimum : Nat
  skip : Nat
  span : Nat
  hold : Nat
  deriving DecidableEq, Repr

/-- SCAN's operands: optional start and end, and optional overrides of fields 1 to 7 of R92 (R96). -/
structure ScanOperands where
  start : Option Nat
  stop : Option Nat
  mask : Option Nat
  step : Option Nat
  condition : Option Nat
  fall : Option Nat
  threshold : Option Nat
  minimum : Option Nat
  skip : Option Nat
  deriving DecidableEq, Repr

/-- PROGRAM-SET's operands: the index and fields 1 to 8 of R128. -/
structure ProgramOperands where
  index : Nat
  present : Nat
  kind : Nat
  mask : Nat
  count : Nat
  step : Nat
  interval : Nat
  between : Nat
  focusFirst : Nat
  deriving DecidableEq, Repr

/-- CONTEXT-SET's operands: a slot number and the contents of a slot (R133). -/
structure ContextOperands where
  slot : Nat
  kind : Nat
  zoomStep : Nat
  d : Nat
  x : Option Int
  meter : MeterOperands
  af : AfOperands
  mode : Nat
  leak : Nat
  interval : Option Nat
  deriving DecidableEq, Repr

/-- A run of card blocks (R176): start block and length in blocks. -/
structure Extent where
  start : Nat
  len : Nat
  deriving DecidableEq, Repr

/-- One fragment of a placement (R178): start block and cluster count. -/
structure Fragment where
  start : Nat
  clusters : Nat
  deriving DecidableEq, Repr

/-- One write-back entry of an edited fault record, with its relocation (R187, R202). -/
structure WriteBackOperand where
  cluster : Nat
  block : Nat
  valid : Nat
  relocation : Option Nat
  deriving DecidableEq, Repr

/-- The edited fault record a FAULT-RETURN carries, in the layout of the store fault record (R202). -/
structure FaultOperands where
  format : Nat
  picture : Nat
  written : Nat
  cluster : Option Nat
  block : Option Nat
  response : Option Nat
  continuation : Nat
  repeats : Nat
  writeBacks : List WriteBackOperand
  fragments : List Fragment
  deriving DecidableEq, Repr

/-- What one sample event reads: the rate pair in 1/256 °/s and the measured shift pair in 0.1 µm (R111). -/
structure Sample where
  yaw : Int
  pitch : Int
  shiftYaw : Int
  shiftPitch : Int
  deriving DecidableEq, Repr

/-- The payload of a STATS feed (R60, R202). -/
structure StatsFeed where
  frame : Nat
  serial : Nat
  hostMark : Nat
  zones : List Nat
  contrasts : List Nat
  deriving DecidableEq, Repr

/-- The card's response to one command on CCMD (R174). -/
inductive CardResponse where
  | ready
  | notReady
  | identity (blockSize capacity : Nat)
  | accepted
  | refused
  deriving DecidableEq, Repr

/-- The card's status token for one block (R182). -/
inductive Token where
  | accepted
  | crcError
  | writeError
  deriving DecidableEq, Repr

/-- The commands: every row of spec/opcode_table.json, in the table's order. -/
inductive Instr where
  /-- RESETn rises again: the LRATE strap (R195) and the reference flag levels of that moment. -/
  | hardwareReset (rateHigh : Bool) (flags : RefFlags)
  /-- A byte on LRX, with its stop bit read low (a framing error) or not (R195). -/
  | linkByteReceived (byte : Byte) (framingError : Bool)
  | interByteGapTimeout
  | receiveQueueTake
  | packetTransmissionStart
  | packetTransmissionEnd
  | query (tag : Nat) (part : Nat)
  | restart (tag : Nat)
  | stop (tag : Nat) (operation : Nat)
  | axisSet (tag : Nat) (axis interval energize settle hold : Nat)
  /-- HOME with the reference flag levels of the event, read where a homing begins in it (R30). -/
  | home (tag : Nat) (mask : Nat) (flags : RefFlags)
  | move (tag : Nat) (axis target : Nat)
  | zoom (tag : Nat) (target : Nat)
  | park (tag : Nat)
  | energizeTimeout (axis : Axis) (flags : RefFlags)
  | axisStepComplete (axis : Axis) (flags : RefFlags)
  | homeLimitReached (axis : Axis) (flags : RefFlags)
  | settleTimeout (axis : Axis)
  | holdReleaseTimeout (axis : Axis)
  | tableLoad (tag : Nat) (selector : Nat) (fields : TableFields)
  | tableCommit (tag : Nat)
  | frameStart
  | stats (feed : StatsFeed)
  | meterSet (tag : Nat) (ops : MeterOperands)
  | afSet (tag : Nat) (ops : AfOperands)
  | scan (tag : Nat) (ops : ScanOperands)
  | frameWaitExpiry
  | steadySet (tag : Nat) (mode leak : Nat)
  | gyroCal (tag : Nat)
  | rateSample (sample : Sample)
  | gyroCalWindowEnd (sample : Sample)
  | panningEntry (sample : Sample)
  | actuatorFault (sample : Sample)
  | recentreTimeout
  | programSet (tag : Nat) (ops : ProgramOperands)
  | programLimit (tag : Nat) (limit : Nat)
  | contextSet (tag : Nat) (ops : ContextOperands)
  | contextRead (tag : Nat) (slot : Nat)
  | switch (tag : Nat) (slot : Nat)
  | enter (tag : Nat) (slot : Nat)
  | leave (tag : Nat)
  | contextTravelBegin
  | prepare (tag : Nat)
  | release (tag : Nat)
  | shoot (tag : Nat) (program : Nat) (count : Option Nat)
  | reservationGrant
  | armed (picture : Nat)
  | armTimeout
  | exposureTimeEnd
  | bladeClosed
  | bladeTimeout
  | rechargeTimeout
  | intakeLimitExpiry
  | intervalEnd
  | intakeStrobe (byte : Byte)
  | intakeEngineByte
  | pictureRead (tag : Nat) (picture : Nat)
  | pictureDrop (tag : Nat) (picture : Nat)
  /-- CDET has stood at a new level for 20 ms; `protectLevel` is what CWP holds then (R172). -/
  | cardDetectChange (present : Bool) (protectLevel : Bool)
  | writeProtectChange (protectLevel : Bool)
  | cardOpen (tag : Nat)
  | cardResponse (response : CardResponse)
  | conditionQueryPoll
  | cardResetTimeout
  | cardCommandTimeout
  | storeSet (tag : Nat) (cluster pages : Nat)
  | extentsGive (tag : Nat) (extents : List Extent)
  | storeOn (tag : Nat)
  | storeHold (tag : Nat)
  | storeTakeRecord
  | blockStatusToken (token : Token)
  | cardBusyEnd
  | cardBusyTimeout
  | faultRead (tag : Nat)
  | faultReturn (tag : Nat) (disposition : Nat) (edited : FaultOperands)
  deriving DecidableEq, Repr

end Sys2Proof
end

