-- ==== Sys2Proof/WellFormed.lean ====
section
/-! DEFINITION. Which commands can be said: every operand fits the bytes R203 and R202 give it, a present optional
operand is not its absent form, a list has the number of values its layout has, and a line value lies in its range. -/

namespace Sys2Proof

/-- A present-or-absent operand whose absent form is `absent` (R202). -/
def fitsOption (absent : Nat) : Option Nat → Bool
  | none => true
  | some n => n < absent

def NodeFields.fits (f : NodeFields) : Bool :=
  f.zoomStep < 65536 && f.focal < 65536 && f.equiv < 65536 && f.avOpen < 65536 && f.fInf < 65536 &&
    f.fNear < 65536 && f.gain < 4294967296

def GlobalFields.fits (f : GlobalFields) : Bool :=
  f.avCap < 65536 && f.tvMaxElectronic < 65536 && f.tvMaxMechanical < 65536 && f.stroke < 65536 && f.follow < 65536

def TableFields.fits : TableFields → Bool
  | .node f => f.fits
  | .global f => f.fits

def MeterOperands.fits (m : MeterOperands) : Bool :=
  m.mode < 256 && m.weights.length == 48 && m.weights.all (· < 256) && m.target < 65536 && m.highlight < 256 &&
    -32768 ≤ m.compensation && m.compensation < 32768 && m.convergence < 256 && m.rounding < 256 && m.gvMax < 256 &&
    m.knee < 65536 && m.tvFloor < 65536

def AfOperands.fits (a : AfOperands) : Bool :=
  a.mask < 256 && a.step < 256 && a.condition < 256 && a.fall < 256 && a.threshold < 4294967296 &&
    a.minimum < 4294967296 && a.skip < 256 && a.span < 256 && a.hold < 256

def ScanOperands.fits (o : ScanOperands) : Bool :=
  fitsOption 65535 o.start && fitsOption 65535 o.stop && fitsOption 255 o.mask && fitsOption 255 o.step &&
    fitsOption 255 o.condition && fitsOption 255 o.fall && fitsOption 4294967295 o.threshold &&
    fitsOption 4294967295 o.minimum && fitsOption 255 o.skip

def ProgramOperands.fits (o : ProgramOperands) : Bool :=
  o.index < 256 && o.present < 256 && o.kind < 256 && o.mask < 256 && o.count < 256 && o.step < 256 &&
    o.interval < 256 && o.between < 256 && o.focusFirst < 256

/-- A signed 16-bit field that may hold NO-VALUE, sent as 8000 hex (R202). -/
def fitsValue : Option Int → Bool
  | none => true
  | some x => -32768 < x && x < 32768

def ContextOperands.fits (o : ContextOperands) : Bool :=
  o.slot < 256 && o.kind < 256 && o.zoomStep < 65536 && o.d < 65536 && fitsValue o.x && o.meter.fits && o.af.fits &&
    o.mode < 256 && o.leak < 256 && fitsOption 65535 o.interval

def Extent.fits (e : Extent) : Bool := e.start < 4294967296 && e.len < 4294967296

def Fragment.fits (f : Fragment) : Bool := f.start < 4294967296 && f.clusters < 65536

def WriteBackOperand.fits (w : WriteBackOperand) : Bool :=
  w.cluster < 65536 && w.block < 4294967296 && w.valid < 256 && fitsOption 4294967295 w.relocation

/-- The record fits a FAULT-RETURN of at most 240 payload bytes (R196, R202). -/
def FaultOperands.fits (f : FaultOperands) : Bool :=
  f.format < 256 && f.picture < 65536 && f.written < 65536 && fitsOption 65535 f.cluster &&
    fitsOption 4294967295 f.block && fitsOption 255 f.response && f.continuation < 256 && f.repeats < 256 &&
    17 + 11 * f.writeBacks.length + 6 * f.fragments.length ≤ 240 && f.writeBacks.all WriteBackOperand.fits &&
    f.fragments.all Fragment.fits

/-- A rate is a signed 16-bit sample (section 7.1). -/
def Sample.fits (s : Sample) : Bool :=
  -32768 ≤ s.yaw && s.yaw < 32768 && -32768 ≤ s.pitch && s.pitch < 32768

/-- The payload of STATS: 48 two-byte and 5 three-byte values (R202). -/
def StatsFeed.fits (f : StatsFeed) : Bool :=
  f.frame < 65536 && f.serial < 65536 && f.hostMark < 256 && f.zones.length == 48 && f.zones.all (· < 65536) &&
    f.contrasts.length == 5 && f.contrasts.all (· < 16777216)

def CardResponse.fits : CardResponse → Bool
  | .identity blockSize capacity => blockSize < 4294967296 && capacity < 4294967296
  | _ => true

/-- The commands that can be said. A request's TAG is one byte; TAG 0 is refused by LIF's check 3 (R198). -/
def Instr.wellFormed : Instr → Bool
  | .hardwareReset _ _ => true
  | .linkByteReceived _ _ => true
  | .interByteGapTimeout => true
  | .receiveQueueTake => true
  | .packetTransmissionStart => true
  | .packetTransmissionEnd => true
  | .query tag part => tag < 256 && part < 256
  | .restart tag => tag < 256
  | .stop tag operation => tag < 256 && operation < 256
  | .axisSet tag axis interval energize settle hold =>
    tag < 256 && axis < 256 && interval < 65536 && energize < 65536 && settle < 65536 && hold < 65536
  | .home tag mask _ => tag < 256 && mask < 256
  | .move tag axis target => tag < 256 && axis < 256 && target < 65536
  | .zoom tag target => tag < 256 && target < 65536
  | .park tag => tag < 256
  | .energizeTimeout _ _ => true
  | .axisStepComplete _ _ => true
  | .homeLimitReached _ _ => true
  | .settleTimeout _ => true
  | .holdReleaseTimeout _ => true
  | .tableLoad tag selector fields => tag < 256 && selector < 256 && fields.fits
  | .tableCommit tag => tag < 256
  | .frameStart => true
  | .stats feed => feed.fits
  | .meterSet tag ops => tag < 256 && ops.fits
  | .afSet tag ops => tag < 256 && ops.fits
  | .scan tag ops => tag < 256 && ops.fits
  | .frameWaitExpiry => true
  | .steadySet tag mode leak => tag < 256 && mode < 256 && leak < 256
  | .gyroCal tag => tag < 256
  | .rateSample sample => sample.fits
  | .gyroCalWindowEnd sample => sample.fits
  | .panningEntry sample => sample.fits
  | .actuatorFault sample => sample.fits
  | .recentreTimeout => true
  | .programSet tag ops => tag < 256 && ops.fits
  | .programLimit tag limit => tag < 256 && limit < 256
  | .contextSet tag ops => tag < 256 && ops.fits
  | .contextRead tag slot => tag < 256 && slot < 256
  | .switch tag slot => tag < 256 && slot < 256
  | .enter tag slot => tag < 256 && slot < 256
  | .leave tag => tag < 256
  | .contextTravelBegin => true
  | .prepare tag => tag < 256
  | .release tag => tag < 256
  | .shoot tag program count => tag < 256 && program < 256 && fitsOption 255 count
  | .reservationGrant => true
  | .armed picture => picture < 65536
  | .armTimeout => true
  | .exposureTimeEnd => true
  | .bladeClosed => true
  | .bladeTimeout => true
  | .rechargeTimeout => true
  | .intakeLimitExpiry => true
  | .intervalEnd => true
  | .intakeStrobe _ => true
  | .intakeEngineByte => true
  | .pictureRead tag picture => tag < 256 && picture < 65536
  | .pictureDrop tag picture => tag < 256 && picture < 65536
  | .cardDetectChange _ _ => true
  | .writeProtectChange _ => true
  | .cardOpen tag => tag < 256
  | .cardResponse response => response.fits
  | .conditionQueryPoll => true
  | .cardResetTimeout => true
  | .cardCommandTimeout => true
  | .storeSet tag cluster pages => tag < 256 && cluster < 65536 && pages < 65536
  | .extentsGive tag extents => tag < 256 && extents.length ≤ 29 && extents.all Extent.fits
  | .storeOn tag => tag < 256
  | .storeHold tag => tag < 256
  | .storeTakeRecord => true
  | .blockStatusToken _ => true
  | .cardBusyEnd => true
  | .cardBusyTimeout => true
  | .faultRead tag => tag < 256
  | .faultReturn tag disposition edited => tag < 256 && disposition < 256 && edited.fits

end Sys2Proof
end

