-- ==== Sys2Proof/Decode.lean ====
section
/-! DEFINITION. `decodeTableWord` (the table's rows give no bits, so no word spells a command), and the byte layouts of
R202 and R203: reading a request or feed from its payload, and writing one. -/

namespace Sys2Proof

/-- spec/opcode_table.json gives no row any bits: no word spells a command (log 46: DESIGN CHOICE, safe). -/
def decodeTableWord (_nbits _w : Nat) : Option Instr := none

/-! ## Fields, high byte first (R202) -/

def put1 (n : Nat) : List Byte := [byteOf n]

def put2 (n : Nat) : List Byte := [byteOf (n / 256), byteOf n]

def put3 (n : Nat) : List Byte := [byteOf (n / 65536), byteOf (n / 256), byteOf n]

def put4 (n : Nat) : List Byte := [byteOf (n / 16777216), byteOf (n / 65536), byteOf (n / 256), byteOf n]

/-- A signed 16-bit field, two's complement. -/
def putSigned (x : Int) : List Byte := put2 (x.emod 65536).toNat

/-- Absent forms: FF, FFFF, FFFFFFFF hex. -/
def putOption1 : Option Nat → List Byte
  | none => put1 255
  | some n => put1 n

def putOption2 : Option Nat → List Byte
  | none => put2 65535
  | some n => put2 n

def putOption4 : Option Nat → List Byte
  | none => put4 4294967295
  | some n => put4 n

/-- NO-VALUE in a signed 16-bit field is 8000 hex. -/
def putValue : Option Int → List Byte
  | none => put2 32768
  | some x => putSigned x

def get1 (p : List Byte) (i : Nat) : Nat := (p.getD i 0).toNat

def get2 (p : List Byte) (i : Nat) : Nat := 256 * get1 p i + get1 p (i + 1)

def get3 (p : List Byte) (i : Nat) : Nat := 256 * get2 p i + get1 p (i + 2)

def get4 (p : List Byte) (i : Nat) : Nat := 65536 * get2 p i + get2 p (i + 2)

def getSigned (p : List Byte) (i : Nat) : Int :=
  let v := get2 p i
  if v < 32768 then (v : Int) else (v : Int) - 65536

def getOption1 (p : List Byte) (i : Nat) : Option Nat := if get1 p i = 255 then none else some (get1 p i)

def getOption2 (p : List Byte) (i : Nat) : Option Nat := if get2 p i = 65535 then none else some (get2 p i)

def getOption4 (p : List Byte) (i : Nat) : Option Nat :=
  if get4 p i = 4294967295 then none else some (get4 p i)

def getValue (p : List Byte) (i : Nat) : Option Int := if get2 p i = 32768 then none else some (getSigned p i)

/-! ## Groups of operands (R203) -/

def putMeter (m : MeterOperands) : List Byte :=
  put1 m.mode ++ m.weights.map byteOf ++ put2 m.target ++ put1 m.highlight ++ putSigned m.compensation ++
    put1 m.convergence ++ put1 m.rounding ++ put1 m.gvMax ++ put2 m.knee ++ put2 m.tvFloor

/-- The 61 bytes of METER-SET's operands, from offset `i`. -/
def getMeter (p : List Byte) (i : Nat) : MeterOperands :=
  { mode := get1 p i, weights := (List.range 48).map fun z => get1 p (i + 1 + z), target := get2 p (i + 49),
    highlight := get1 p (i + 51), compensation := getSigned p (i + 52), convergence := get1 p (i + 54),
    rounding := get1 p (i + 55), gvMax := get1 p (i + 56), knee := get2 p (i + 57), tvFloor := get2 p (i + 59) }

def putAf (a : AfOperands) : List Byte :=
  put1 a.mask ++ put1 a.step ++ put1 a.condition ++ put1 a.fall ++ put4 a.threshold ++ put4 a.minimum ++ put1 a.skip ++
    put1 a.span ++ put1 a.hold

/-- The 15 bytes of AF-SET's operands, from offset `i`. -/
def getAf (p : List Byte) (i : Nat) : AfOperands :=
  { mask := get1 p i, step := get1 p (i + 1), condition := get1 p (i + 2), fall := get1 p (i + 3),
    threshold := get4 p (i + 4), minimum := get4 p (i + 8), skip := get1 p (i + 12), span := get1 p (i + 13),
    hold := get1 p (i + 14) }

def putScan (o : ScanOperands) : List Byte :=
  putOption2 o.start ++ putOption2 o.stop ++ putOption1 o.mask ++ putOption1 o.step ++ putOption1 o.condition ++
    putOption1 o.fall ++ putOption4 o.threshold ++ putOption4 o.minimum ++ putOption1 o.skip

/-- The 17 bytes of SCAN's operands. -/
def getScan (p : List Byte) : ScanOperands :=
  { start := getOption2 p 0, stop := getOption2 p 2, mask := getOption1 p 4, step := getOption1 p 5,
    condition := getOption1 p 6, fall := getOption1 p 7, threshold := getOption4 p 8, minimum := getOption4 p 12,
    skip := getOption1 p 16 }

def putTableFields : TableFields → List Byte
  | .node f => put2 f.zoomStep ++ put2 f.focal ++ put2 f.equiv ++ put2 f.avOpen ++ put2 f.fInf ++ put2 f.fNear ++
      put4 f.gain
  | .global f => put2 f.avCap ++ put2 f.tvMaxElectronic ++ put2 f.tvMaxMechanical ++ put2 f.stroke ++ put2 f.follow

def getNode (p : List Byte) : NodeFields :=
  { zoomStep := get2 p 1, focal := get2 p 3, equiv := get2 p 5, avOpen := get2 p 7, fInf := get2 p 9,
    fNear := get2 p 11, gain := get4 p 13 }

def getGlobal (p : List Byte) : GlobalFields :=
  { avCap := get2 p 1, tvMaxElectronic := get2 p 3, tvMaxMechanical := get2 p 5, stroke := get2 p 7,
    follow := get2 p 9 }

def putProgram (o : ProgramOperands) : List Byte :=
  put1 o.index ++ put1 o.present ++ put1 o.kind ++ put1 o.mask ++ put1 o.count ++ put1 o.step ++ put1 o.interval ++
    put1 o.between ++ put1 o.focusFirst

def getProgram (p : List Byte) : ProgramOperands :=
  { index := get1 p 0, present := get1 p 1, kind := get1 p 2, mask := get1 p 3, count := get1 p 4, step := get1 p 5,
    interval := get1 p 6, between := get1 p 7, focusFirst := get1 p 8 }

def putContext (o : ContextOperands) : List Byte :=
  put1 o.slot ++ put1 o.kind ++ put2 o.zoomStep ++ put2 o.d ++ putValue o.x ++ putMeter o.meter ++ putAf o.af ++
    put1 o.mode ++ put1 o.leak ++ putOption2 o.interval

def getContext (p : List Byte) : ContextOperands :=
  { slot := get1 p 0, kind := get1 p 1, zoomStep := get2 p 2, d := get2 p 4, x := getValue p 6, meter := getMeter p 8,
    af := getAf p 69, mode := get1 p 84, leak := get1 p 85, interval := getOption2 p 86 }

def putExtent (e : Extent) : List Byte := put4 e.start ++ put4 e.len

def getExtent (p : List Byte) (i : Nat) : Extent := { start := get4 p i, len := get4 p (i + 4) }

def putFragment (f : Fragment) : List Byte := put4 f.start ++ put2 f.clusters

def getFragment (p : List Byte) (i : Nat) : Fragment := { start := get4 p i, clusters := get2 p (i + 4) }

def putWriteBack (w : WriteBackOperand) : List Byte :=
  put2 w.cluster ++ put4 w.block ++ put1 w.valid ++ putOption4 w.relocation

def getWriteBack (p : List Byte) (i : Nat) : WriteBackOperand :=
  { cluster := get2 p i, block := get4 p (i + 2), valid := get1 p (i + 6), relocation := getOption4 p (i + 7) }

/-- The store fault record's layout (section 12.7). -/
def putFault (f : FaultOperands) : List Byte :=
  put1 f.format ++ put2 f.picture ++ put2 f.written ++ putOption2 f.cluster ++ putOption4 f.block ++
    putOption1 f.response ++ put1 f.continuation ++ put1 f.repeats ++ put1 f.writeBacks.length ++
    f.writeBacks.flatMap putWriteBack ++ put1 f.fragments.length ++ f.fragments.flatMap putFragment

/-- The edited record of a FAULT-RETURN payload, after the disposition byte, with `w` write-backs and `n` fragments. -/
def getFault (p : List Byte) (w n : Nat) : FaultOperands :=
  { format := get1 p 1, picture := get2 p 2, written := get2 p 4, cluster := getOption2 p 6, block := getOption4 p 8,
    response := getOption1 p 12, continuation := get1 p 13, repeats := get1 p 14,
    writeBacks := (List.range w).map fun i => getWriteBack p (16 + 11 * i),
    fragments := (List.range n).map fun i => getFragment p (17 + 11 * w + 6 * i) }

/-! ## Requests and feeds (section 12.5, R202, R203) -/

/-- The request kind codes of section 12.5. -/
def requestKinds : List Nat :=
  [0x01, 0x02, 0x03, 0x10, 0x11, 0x12, 0x13, 0x14, 0x18, 0x19, 0x20, 0x21, 0x22, 0x23, 0x24, 0x30, 0x31, 0x32, 0x33,
   0x34, 0x35, 0x36, 0x40, 0x41, 0x42, 0x48, 0x49, 0x50, 0x51, 0x52, 0x53, 0x54, 0x55, 0x56]

/-- The feed kind codes of section 12.5: STATS and ARMED. -/
def feedKinds : List Nat := [0x60, 0x61]

/-- The request of a KIND from its payload; none when the LEN is not one that R203 allows the kind. The reference flag
levels of a HOME are no part of the packet and read low here. -/
def decodeRequest (kind tag : Nat) (p : List Byte) : Option Instr :=
  let fixed (len : Nat) (i : Instr) : Option Instr := if p.length = len then some i else none
  match kind with
  | 0x01 => fixed 1 (.query tag (get1 p 0))
  | 0x02 => fixed 0 (.restart tag)
  | 0x03 => fixed 1 (.stop tag (get1 p 0))
  | 0x10 => fixed 9 (.axisSet tag (get1 p 0) (get2 p 1) (get2 p 3) (get2 p 5) (get2 p 7))
  | 0x11 => fixed 1 (.home tag (get1 p 0) { zoom := false, focus := false, iris := false })
  | 0x12 => fixed 3 (.move tag (get1 p 0) (get2 p 1))
  | 0x13 => fixed 2 (.zoom tag (get2 p 0))
  | 0x14 => fixed 0 (.park tag)
  | 0x18 =>
    if p.length = 17 then some (.tableLoad tag (get1 p 0) (.node (getNode p)))
    else fixed 11 (.tableLoad tag (get1 p 0) (.global (getGlobal p)))
  | 0x19 => fixed 0 (.tableCommit tag)
  | 0x20 => fixed 61 (.meterSet tag (getMeter p 0))
  | 0x21 => fixed 15 (.afSet tag (getAf p 0))
  | 0x22 => fixed 2 (.steadySet tag (get1 p 0) (get1 p 1))
  | 0x23 => fixed 17 (.scan tag (getScan p))
  | 0x24 => fixed 0 (.gyroCal tag)
  | 0x30 => fixed 9 (.programSet tag (getProgram p))
  | 0x31 => fixed 1 (.programLimit tag (get1 p 0))
  | 0x32 => fixed 88 (.contextSet tag (getContext p))
  | 0x33 => fixed 1 (.contextRead tag (get1 p 0))
  | 0x34 => fixed 1 (.switch tag (get1 p 0))
  | 0x35 => fixed 1 (.enter tag (get1 p 0))
  | 0x36 => fixed 0 (.leave tag)
  | 0x40 => fixed 0 (.prepare tag)
  | 0x41 => fixed 0 (.release tag)
  | 0x42 => fixed 2 (.shoot tag (get1 p 0) (getOption1 p 1))
  | 0x48 => fixed 2 (.pictureRead tag (get2 p 0))
  | 0x49 => fixed 2 (.pictureDrop tag (get2 p 0))
  | 0x50 => fixed 0 (.cardOpen tag)
  | 0x51 => fixed 4 (.storeSet tag (get2 p 0) (get2 p 2))
  | 0x52 =>
    if p.length = 1 + 8 * get1 p 0 then
      some (.extentsGive tag ((List.range (get1 p 0)).map fun i => getExtent p (1 + 8 * i)))
    else none
  | 0x53 => fixed 0 (.storeOn tag)
  | 0x54 => fixed 0 (.storeHold tag)
  | 0x55 => fixed 0 (.faultRead tag)
  | 0x56 =>
    let w := get1 p 15
    let n := get1 p (16 + 11 * w)
    if p.length = 17 + 11 * w + 6 * n then some (.faultReturn tag (get1 p 0) (getFault p w n)) else none
  | _ => none

/-- The payload and kind of a request (R203); none for a command that is no request. -/
def encodeRequest : Instr → Option (Nat × Nat × List Byte)
  | .query tag part => some (0x01, tag, put1 part)
  | .restart tag => some (0x02, tag, [])
  | .stop tag operation => some (0x03, tag, put1 operation)
  | .axisSet tag axis interval energize settle hold =>
    some (0x10, tag, put1 axis ++ put2 interval ++ put2 energize ++ put2 settle ++ put2 hold)
  | .home tag mask _ => some (0x11, tag, put1 mask)
  | .move tag axis target => some (0x12, tag, put1 axis ++ put2 target)
  | .zoom tag target => some (0x13, tag, put2 target)
  | .park tag => some (0x14, tag, [])
  | .tableLoad tag selector fields => some (0x18, tag, put1 selector ++ putTableFields fields)
  | .tableCommit tag => some (0x19, tag, [])
  | .meterSet tag ops => some (0x20, tag, putMeter ops)
  | .afSet tag ops => some (0x21, tag, putAf ops)
  | .steadySet tag mode leak => some (0x22, tag, put1 mode ++ put1 leak)
  | .scan tag ops => some (0x23, tag, putScan ops)
  | .gyroCal tag => some (0x24, tag, [])
  | .programSet tag ops => some (0x30, tag, putProgram ops)
  | .programLimit tag limit => some (0x31, tag, put1 limit)
  | .contextSet tag ops => some (0x32, tag, putContext ops)
  | .contextRead tag slot => some (0x33, tag, put1 slot)
  | .switch tag slot => some (0x34, tag, put1 slot)
  | .enter tag slot => some (0x35, tag, put1 slot)
  | .leave tag => some (0x36, tag, [])
  | .prepare tag => some (0x40, tag, [])
  | .release tag => some (0x41, tag, [])
  | .shoot tag program count => some (0x42, tag, put1 program ++ putOption1 count)
  | .pictureRead tag picture => some (0x48, tag, put2 picture)
  | .pictureDrop tag picture => some (0x49, tag, put2 picture)
  | .cardOpen tag => some (0x50, tag, [])
  | .storeSet tag cluster pages => some (0x51, tag, put2 cluster ++ put2 pages)
  | .extentsGive tag extents => some (0x52, tag, put1 extents.length ++ extents.flatMap putExtent)
  | .storeOn tag => some (0x53, tag, [])
  | .storeHold tag => some (0x54, tag, [])
  | .faultRead tag => some (0x55, tag, [])
  | .faultReturn tag disposition edited => some (0x56, tag, put1 disposition ++ putFault edited)
  | .hardwareReset _ _ => none
  | .linkByteReceived _ _ => none
  | .interByteGapTimeout => none
  | .receiveQueueTake => none
  | .packetTransmissionStart => none
  | .packetTransmissionEnd => none
  | .energizeTimeout _ _ => none
  | .axisStepComplete _ _ => none
  | .homeLimitReached _ _ => none
  | .settleTimeout _ => none
  | .holdReleaseTimeout _ => none
  | .frameStart => none
  | .stats _ => none
  | .frameWaitExpiry => none
  | .rateSample _ => none
  | .gyroCalWindowEnd _ => none
  | .panningEntry _ => none
  | .actuatorFault _ => none
  | .recentreTimeout => none
  | .contextTravelBegin => none
  | .reservationGrant => none
  | .armed _ => none
  | .armTimeout => none
  | .exposureTimeEnd => none
  | .bladeClosed => none
  | .bladeTimeout => none
  | .rechargeTimeout => none
  | .intakeLimitExpiry => none
  | .intervalEnd => none
  | .intakeStrobe _ => none
  | .intakeEngineByte => none
  | .cardDetectChange _ _ => none
  | .writeProtectChange _ => none
  | .cardResponse _ => none
  | .conditionQueryPoll => none
  | .cardResetTimeout => none
  | .cardCommandTimeout => none
  | .storeTakeRecord => none
  | .blockStatusToken _ => none
  | .cardBusyEnd => none
  | .cardBusyTimeout => none

/-- The feed of a KIND from its payload (R202); none when the LEN is not its fixed length. -/
def decodeFeed (kind : Nat) (p : List Byte) : Option Instr :=
  match kind with
  | 0x60 =>
    if p.length = 116 then
      some (.stats { frame := get2 p 0, serial := get2 p 2, hostMark := get1 p 4,
                     zones := (List.range 48).map fun z => get2 p (5 + 2 * z),
                     contrasts := (List.range 5).map fun w => get3 p (101 + 3 * w) })
    else none
  | 0x61 => if p.length = 2 then some (.armed (get2 p 0)) else none
  | _ => none

/-- The payload and kind of a feed. -/
def encodeFeed : Instr → Option (Nat × List Byte)
  | .stats f =>
    some (0x60, put2 f.frame ++ put2 f.serial ++ put1 f.hostMark ++ f.zones.flatMap put2 ++ f.contrasts.flatMap put3)
  | .armed picture => some (0x61, put2 picture)
  | _ => none

/-- A command as the link hands it: the flag levels of a HOME, which are no part of its packet, read low. -/
def Instr.atLink : Instr → Instr
  | .home tag mask _ => .home tag mask { zoom := false, focus := false, iris := false }
  | i => i

end Sys2Proof
end

