-- ==== Sys2Proof/Machine/State.lean ====
section
/-! DEFINITION. The state of the block: plain data, one structure per block of 00_scope.md section 2, and the state right
after reset. Codes of the lists of section 12.5 follow the constructors' order unless a function in Codes.lean says so. -/

namespace Sys2Proof.Machine

/-! ## Reasons a step can stop -/

/-- Model faults. No rule of the manual leads to one: each stands where the manual says a thing never happens (log 44:
DESIGN CHOICE, safe). -/
inductive Fault where
  /-- INTAKE_ENGINE_BYTE, in DATA: a byte begins a new page and the record's reserved set is empty, or the engine's
  picture has no record. R165 says the check at the header excludes it. Safe. -/
  | noReservedPage
  /-- INTAKE_ENGINE_BYTE, in DATA: the page to write is not one of the 2,048 pages of R159. Safe. -/
  | noSuchPage
  deriving DecidableEq, Repr

/-- Refusals of the model. -/
inductive Refusal where
  /-- Raised by `exec`'s arm of a command that has no meaning yet. Safe. -/
  | notModelled (mnemonic : String)
  deriving DecidableEq, Repr

/-! ## Operations and notices (OPT) -/

/-- The thirteen long request kinds (section 1.1). -/
inductive OpKind where
  | home | move | zoom | park | scan | gyroCal | switch | enter | leave | prepare | shoot | cardOpen | storeHold
  deriving DecidableEq, Repr

/-- State of an operation table entry (R3). -/
inductive OpState where
  | waiting | running | stopping
  deriving DecidableEq, Repr

/-- The stop cause of a STOPPING entry (section 1.1). -/
inductive StopCause where
  | stopped | preempted
  deriving DecidableEq, Repr

/-- The five classes of an ending (R7). -/
inductive EndClass where
  | complete | partialEnd | suppressed | nullified | terminated
  deriving DecidableEq, Repr

/-- The causes of an ending (R8). -/
inductive Cause where
  | none | stopped | preempted | lostStep | noReference | markedFrame | noStats | steadyFault | armTimeout
  | shutterFault | intakeOverflow | intakeTimeout | cardGone
  deriving DecidableEq, Repr

/-- One entry of the operation table (section 1.1). -/
structure OpEntry where
  tag : Nat
  kind : OpKind
  state : OpState
  done : Nat
  planned : Option Nat
  cause : Option StopCause
  deriving DecidableEq, Repr

/-- Sources of ATTENTION (R14). -/
inductive Source where
  | zoom | focus | iris | steady | shutter | intake | card | store
  deriving DecidableEq, Repr

/-- Condition codes of ATTENTION (section 12.5). -/
inductive Condition where
  | lostStep | noReference | actuatorFault | bladeTimeout | stray | badLength | order | headerLost | inserted | removed
  | protectOn | protectOff | poolTrimmed | needSpace | fault
  deriving DecidableEq, Repr

/-- Clamp state of EXC and clamp report of a split (R80, R83). -/
inductive Clamp where
  | none
  | under (amount : Nat)
  | over (amount : Nat)
  deriving DecidableEq, Repr

/-- States of EXC (R67). -/
inductive ExcState where
  | suspended | waitLens | locked | noResult | running
  deriving DecidableEq, Repr

/-- States of STU (R117). -/
inductive StuState where
  | off | fault | hold | uncalibrated | active | panning | recentering
  deriving DecidableEq, Repr

/-- Kinds of context (R132). -/
inductive ContextKind where
  | still | movie | review
  deriving DecidableEq, Repr

/-- Status of a context slot (section 8.2). -/
inductive SlotStatus where
  | empty | available | active | nested
  deriving DecidableEq, Repr

/-- Shutter kinds (R141). -/
inductive Shutter where
  | mechanical | electronic
  deriving DecidableEq, Repr

/-- Result codes of a scan (R107). -/
inductive ScanResult where
  | hit | notSatisfied | lowContrast
  deriving DecidableEq, Repr

/-- Outcome of a picture (R156, R202). -/
inductive PictureOutcome where
  | ingested | dropped | withdrawn
  deriving DecidableEq, Repr

/-- The shot record of a picture (R151, R162). -/
structure ShotRecord where
  tv : Int
  av : Int
  gv : Int
  focal : Nat
  d : Nat
  stu : StuState
  late : Bool
  frame : Nat
  deriving DecidableEq, Repr

/-- One axis in the result fields of a HOME (R31). -/
structure HomeField where
  named : Bool
  pp : Option Nat
  count : Nat
  deriving DecidableEq, Repr

/-- The result fields of a scan (R107). -/
structure ScanFields where
  finalPP : Option Nat
  start : Nat
  stop : Nat
  clampFlag : Bool
  countFlag : Bool
  best : Option (Nat × Nat)
  rise : Nat
  window : Option Nat
  d : Nat
  deriving DecidableEq, Repr

/-- One picture of a SHOOT's list (R141, R156); `outcome` is absent until it is known. -/
structure Picture where
  id : Nat
  pos : Nat
  x : Int
  clamp : Clamp
  outcome : Option PictureOutcome
  deriving DecidableEq, Repr

/-- What a capture keeps of its focus-first scan (R146, R156). -/
structure ScanSummary where
  cls : EndClass
  cause : Cause
  result : Option ScanResult
  finalPP : Option Nat
  deriving DecidableEq, Repr

/-- States of the card store (R178), codes 0 to 7. -/
inductive StoreState where
  | disabled | idle | placing | waitSpace | writing | notifying | paused | faulted
  deriving DecidableEq, Repr

/-- The last judged window of a GYRO-CAL: spread and rounded mean of yaw and pitch (R114). -/
structure WindowReport where
  spreadYaw : Nat
  spreadPitch : Nat
  meanYaw : Int
  meanPitch : Int
  deriving DecidableEq, Repr

/-- The kind-specific result fields of an ENDING (R12), in the order the kind's chapter lists them. -/
inductive EndFields where
  /-- R31 -/
  | home (zoom focus iris : HomeField)
  /-- R32 -/
  | move (axis : Axis) (pp : Option Nat) (clampFlag : Bool) (target d : Nat)
  /-- R35 -/
  | zoom (zoomPP focusPP : Option Nat) (lost : Option Axis) (clampFlag : Bool) (target d : Nat)
  /-- R36 -/
  | park (zoomPP focusPP irisPP : Option Nat) (lost : Option Axis)
  /-- R107 -/
  | scan (f : ScanFields)
  /-- R143 -/
  | prepare (f : ScanFields) (xLocked : Option Int) (stu : StuState)
  /-- R114 -/
  | gyro (offset : Option (Int × Int)) (windows : Nat) (last : Option WindowReport)
  /-- R138 -/
  | context (left : Nat) (leftStatus : SlotStatus) (active : Nat) (kind : ContextKind) (link : Option Nat)
      (clampFlag : Bool) (zoomPP focusPP : Option Nat) (d : Nat) (focusTarget : Option Nat) (exc : ExcState)
      (stu : StuState)
  /-- R156 -/
  | shoot (program first last : Nat) (shutter : Shutter) (xLocked : Option Int) (ownPreparation : Bool)
      (scan : Option ScanSummary) (pictures : List Picture)
  /-- R174 -/
  | cardOpen (stage : Nat) (capacity : Option Nat) (protect : Bool)
  /-- R180 -/
  | storeHold (store : StoreState) (current : Option (Nat × Nat)) (queue : Nat)
  deriving DecidableEq, Repr

/-- Resume operands of a PARTIAL or NULLIFIED ending (R9, R202). -/
inductive Resume where
  | absent
  | home (mask : Nat)
  | move (axis : Axis) (target : Nat)
  | zoom (target : Nat)
  | scan (ops : ScanOperands)
  | prepare (start stop : Nat)
  | context (zoomStep d : Nat)
  | shoot (program count : Nat)
  deriving DecidableEq, Repr

/-- The ENDING notice (R12). -/
structure Ending where
  tag : Nat
  kind : OpKind
  cls : EndClass
  cause : Cause
  done : Nat
  resume : Resume
  /-- the result code of section 12.5, present in COMPLETE for the kinds that have one (R7) -/
  result : Option Nat
  fields : EndFields
  deriving DecidableEq, Repr

/-- Reasons of READY (R15). -/
inductive ReadyReason where
  | hardware | restart
  deriving DecidableEq, Repr

/-- A notice (section 1.6). -/
inductive Notice where
  | ending (e : Ending)
  | attention (source : Source) (condition : Condition) (detail count : Nat)
  /-- R87 -/
  | exposure (serial : Nat) (tv av gv : Int) (time : Nat) (clamp : Clamp)
  /-- R150 -/
  | expose (picture : Nat) (tv av gv : Int) (time : Nat) (shutter : Shutter)
  /-- R185 -/
  | stored (picture length cluster : Nat) (shot : Option ShotRecord) (fragments : List Fragment)
  | ready (reason : ReadyReason)
  deriving DecidableEq, Repr

/-- OPT: the operation table (R3, R6) and the notice outbox, oldest first (R13). -/
structure Opt where
  table : List OpEntry
  outbox : List Notice
  deriving DecidableEq, Repr

/-! ## The control link (LIF) -/

/-- Refusal codes (section 12.5), codes 1 to 20 in this order. -/
inductive Code where
  | unknownKind | length | field | tagInUse | tableFull | noTable | unreferenced | busy | wrongState | range | absent
  | contextKind | contextBusy | noBackLink | noCard | protect | format | overlap | noSuch | poolFull
  deriving DecidableEq, Repr

/-- The body of a reply (section 4): DONE with its payload, ACCEPTED, or REFUSED with code and detail. -/
inductive ReplyBody where
  | done (payload : List Byte)
  | accepted (kind : OpKind)
  | refused (code : Code) (detail : Nat)
  deriving DecidableEq, Repr

/-- A reply with the request's tag. -/
structure Reply where
  tag : Nat
  body : ReplyBody
  deriving DecidableEq, Repr

/-- A complete packet in the receive queue (R198): KIND, TAG and payload. -/
structure Packet where
  kind : Byte
  tag : Byte
  payload : List Byte
  deriving DecidableEq, Repr

/-- The packet assembler (R196): HUNT, or COLLECT with the bytes taken after SYNC. -/
inductive Assembler where
  | hunt
  | collect (bytes : List Byte)
  deriving DecidableEq, Repr

/-- What a packet being sent on LTX is. -/
inductive TxItem where
  | reply (r : Reply)
  | notice (n : Notice)
  deriving DecidableEq, Repr

/-- The packet being sent and its bytes on LTX (R199, R202). -/
structure TxPacket where
  item : TxItem
  bytes : List Byte
  deriving DecidableEq, Repr

/-- Progress of a RESTART (R201): not asked, taken from the receive queue, its DONE decided. -/
inductive RestartPhase where
  | none | taken | answered
  deriving DecidableEq, Repr

/-- LIF (sections 12.1 to 12.6). -/
structure Lif where
  rateHigh : Bool
  assembler : Assembler
  queue : List Packet
  linkError : Bool
  /-- requests and feeds taken from the queue and handed to their owner, not yet decided -/
  handed : List Instr
  replies : List Reply
  tx : Option TxPacket
  restart : RestartPhase
  deriving DecidableEq, Repr

/-! ## Lens drive (LDU) -/

/-- Axis states (R21), codes 0 to 6. -/
inductive AxisState where
  | released | energizing | held | awaitingSlot | moving | homing | settling
  deriving DecidableEq, Repr

/-- Who commands an axis (R26). -/
inductive Owner where
  | op (kind : OpKind) (tag : Nat)
  /-- the capture, under the PREPARE or SHOOT that holds the claim -/
  | capture (kind : OpKind)
  deriving DecidableEq, Repr

/-- Homing progress: none, asked for but not begun (R29), stepping upward or downward (R30). -/
inductive Homing where
  | none | pending | up | down
  deriving DecidableEq, Repr

/-- What the end of the step in progress leads to: the next step or arrival, SETTLING after a stop (R21), or HELD
without settling after a RESTART (R38). -/
inductive AfterStep where
  | goOn | settle | hold
  deriving DecidableEq, Repr

/-- The setup of an axis (R24): step interval in µs, the three times in ms. -/
structure Setup where
  interval : Nat
  energize : Nat
  settle : Nat
  hold : Nat
  deriving DecidableEq, Repr

/-- The record of one axis (R20). -/
structure AxisRec where
  /-- present position; `none` is UNREFERENCED -/
  pp : Option Nat
  state : AxisState
  target : Option Nat
  owner : Option Owner
  setup : Setup
  homingCount : Nat
  homing : Homing
  after : AfterStep
  /-- direction of the step in progress -/
  stepUp : Bool
  /-- interval of the step in progress, in µs -/
  stepTime : Nat
  /-- the running energize, settle or hold-release timer, with the ms it was started with (log 7: DESIGN CHOICE, safe) -/
  timer : Option Nat
  deriving DecidableEq, Repr

/-- Writers of the pending iris target (R27). -/
inductive Writer where
  | exc | csq
  deriving DecidableEq, Repr

/-- The pending iris target (R27). -/
structure IrisTarget where
  value : Nat
  writer : Writer
  deriving DecidableEq, Repr

/-- What has become of one axis of a HOME (R31). -/
inductive HomePart where
  | notNamed | homing | toWide | found | failed | cut | cutWide
  deriving DecidableEq, Repr

/-- The data of a lens operation. -/
inductive LensBody where
  | home (zoom focus iris : HomePart)
  | move (axis : Axis) (target : Nat) (clampFlag : Bool)
  /-- starting position, clamped target, follow interval, clamp flag, axis that lost a step -/
  | zoom (start target follow : Nat) (clampFlag : Bool) (lost : Option Axis)
  | park (lost : Option Axis)
  deriving DecidableEq, Repr

/-- A HOME, MOVE, ZOOM or PARK in progress, by its tag; `waitStopped` tells that its stop found the entry WAITING, so that
it ends SUPPRESSED (R10). -/
structure LensOp where
  tag : Nat
  body : LensBody
  waitStopped : Bool
  deriving DecidableEq, Repr

/-- LDU (02_lens_drive.md). -/
structure Ldu where
  zoom : AxisRec
  focus : AxisRec
  iris : AxisRec
  /-- tracking parameter, 0..1024 -/
  d : Nat
  waitList : List Axis
  pendingIris : Option IrisTarget
  /-- writer of the target the iris is moving toward (R28) -/
  irisWriter : Option Writer
  /-- ZREF, FREF, IREF as last read -/
  flags : RefFlags
  ops : List LensOp
  deriving DecidableEq, Repr

/-! ## Optics table (OTB) -/

/-- Table states (R40). -/
inductive TableState where
  | empty | staged | valid
  deriving DecidableEq, Repr

/-- A node with its written mark (R39). -/
structure Node where
  written : Bool
  fields : NodeFields
  deriving DecidableEq, Repr

/-- OTB (03_optics_table_and_zoom_tracking.md). -/
structure Otb where
  state : TableState
  nodes : List Node
  glob : GlobalFields
  deriving DecidableEq, Repr

/-! ## Frame monitor (FMN) -/

/-- A frame record (R55). The newest record of the ring is the open one. -/
structure FrameRec where
  number : Nat
  movingZoom : Bool
  movingFocus : Bool
  movingIris : Bool
  unsteady : Bool
  hostMark : Bool
  expChanged : Bool
  stats : Bool
  serial : Option Nat
  zones : List Nat
  contrasts : List Nat
  offerHeld : Bool
  deriving DecidableEq, Repr

/-- FMN (04_frames_and_statistics.md): the ring stands oldest first. -/
structure Fmn where
  counter : Nat
  ring : List FrameRec
  stale : Nat
  deriving DecidableEq, Repr

/-! ## Exposure computer (EXC) -/

inductive MeterMode where
  | matrix | center | spot | focusLinked
  deriving DecidableEq, Repr

inductive Rounding where
  | nearest | towardZero | towardBrighter | towardDarker
  deriving DecidableEq, Repr

/-- The ten live metering settings (R70). -/
structure MeterSettings where
  mode : MeterMode
  weights : List Nat
  target : Nat
  highlight : Nat
  compensation : Int
  convergence : Nat
  rounding : Rounding
  gvMax : Nat
  knee : Nat
  tvFloor : Nat
  deriving DecidableEq, Repr

/-- The exposure lock (R67, R69). -/
inductive Lock where
  | none
  | pending
  | held (x : Int)
  deriving DecidableEq, Repr

/-- An entry of the exposure history ring (R86). -/
structure ExpEntry where
  serial : Nat
  x : Int
  av : Int
  tv : Int
  gv : Int
  deriving DecidableEq, Repr

/-- EXC (05_exposure_computation.md): the ring stands oldest first; `x` is X_current or NO-VALUE. -/
structure Exc where
  live : MeterSettings
  x : Option Int
  lock : Lock
  ring : List ExpEntry
  clamp : Clamp
  /-- the clamp state carried by the last EXPOSURE placed (R87) -/
  sent : Clamp
  latest : Option Int
  window : Nat
  nextSerial : Nat
  deriving DecidableEq, Repr

/-! ## Focus search (FSU) -/

inductive FocusCondition where
  | peak | above
  deriving DecidableEq, Repr

inductive Span where
  | full | near
  deriving DecidableEq, Repr

inductive HoldMode where
  | stay | best
  deriving DecidableEq, Repr

/-- The nine live AF settings (R92). -/
structure AfSettings where
  mask : Nat
  step : Nat
  condition : FocusCondition
  fall : Nat
  threshold : Nat
  minimum : Nat
  skip : Bool
  span : Span
  hold : HoldMode
  deriving DecidableEq, Repr

/-- What R97 fixes for a scan in steps 1 to 3; `settings.span` is not read after that. -/
structure ScanPlan where
  settings : AfSettings
  start : Nat
  stop : Nat
  up : Bool
  planned : Nat
  clampFlag : Bool
  countFlag : Bool
  deriving DecidableEq, Repr

/-- Users of a scan (R95). A REFINE carries its centre and its row of positions (R109). -/
inductive ScanUser where
  | scan (tag : Nat) (ops : ScanOperands)
  | prepare
  | focusFirst
  | refine (centre : Nat) (positions : List Nat)
  deriving DecidableEq, Repr

/-- The best of a scan: V_best, its position and its window values (R95, R100). -/
structure Best where
  value : Nat
  pos : Nat
  windows : List (Nat × Nat)
  deriving DecidableEq, Repr

/-- Phases of a scan (R95). -/
inductive ScanPhase where
  | travel | frameWait | finalTravel
  deriving DecidableEq, Repr

/-- What the arrival of a FINAL_TRAVEL leads to: COMPLETE with the result and the window values kept (R103), NULLIFIED
with its cause (R105), or the report of a refine (R109). -/
inductive ScanGoal where
  | complete (result : ScanResult) (windows : List (Nat × Nat))
  | nullified (cause : Cause)
  | refined
  deriving DecidableEq, Repr

/-- The scan context (R95). -/
structure Scan where
  user : ScanUser
  plan : ScanPlan
  index : Nat
  /-- position of the unit in progress -/
  p : Nat
  /-- the first unit has begun (R98) -/
  begun : Bool
  phase : ScanPhase
  mark : Option Nat
  waitCount : Nat
  best : Option Best
  rise : Nat
  stop : Option StopCause
  goal : Option ScanGoal
  deriving DecidableEq, Repr

/-- FSU (06_focus_search.md): IDLE when `scan` is absent. -/
structure Fsu where
  live : AfSettings
  scan : Option Scan
  deriving DecidableEq, Repr

/-! ## Steadying (STU) -/

inductive SteadyMode where
  | off | continuous | shotOnly
  deriving DecidableEq, Repr

/-- One steadying axis (R119 to R125). -/
structure SteadyAxis where
  theta : Int
  target : Int
  measured : Int
  saturated : Nat
  supervised : Nat
  deriving DecidableEq, Repr

/-- One axis of a calibration window (R114). -/
structure WindowAxis where
  sum : Int
  largest : Int
  smallest : Int
  deriving DecidableEq, Repr

/-- A GYRO-CAL in progress (R113, R114). -/
structure Calibration where
  failed : Nat
  judged : Nat
  samples : Nat
  yaw : WindowAxis
  pitch : WindowAxis
  last : Option WindowReport
  deriving DecidableEq, Repr

/-- STU (07_image_steadying.md). -/
structure Stu where
  state : StuState
  mode : SteadyMode
  leak : Nat
  /-- gyro offset O of yaw and pitch; `none` is NO-VALUE -/
  offset : Option (Int × Int)
  yaw : SteadyAxis
  pitch : SteadyAxis
  fault : Bool
  /-- the capture window, open or closed (R122) -/
  window : Bool
  cal : Option Calibration
  deriving DecidableEq, Repr

/-! ## Programs and contexts (PCS) -/

inductive ProgramKind where
  | single | burst | bracket
  deriving DecidableEq, Repr

/-- A present program descriptor (R128); `step` is absent unless the kind is BRACKET. -/
structure Program where
  kind : ProgramKind
  mask : Nat
  count : Nat
  step : Option Nat
  interval : Nat
  refine : Bool
  focusFirst : Bool
  deriving DecidableEq, Repr

/-- A context slot (R132). -/
structure Slot where
  status : SlotStatus
  kind : ContextKind
  link : Option Nat
  zoomStep : Nat
  d : Nat
  x : Option Int
  meter : MeterSettings
  af : AfSettings
  mode : SteadyMode
  leak : Nat
  interval : Option Nat
  deriving DecidableEq, Repr

/-- Progress of a context operation after its exchange (R137). -/
inductive TravelPhase where
  | pending | zoom | focus
  deriving DecidableEq, Repr

/-- A SWITCH, ENTER or LEAVE in progress (R136, R137). -/
structure ContextOp where
  tag : Nat
  kind : OpKind
  phase : TravelPhase
  left : Nat
  clampFlag : Bool
  /-- target of the travel in progress -/
  target : Nat
  /-- EXC and STU states after the exchange (R138) -/
  exc : ExcState
  stu : StuState
  deriving DecidableEq, Repr

/-- PCS (08_programs_and_contexts.md). -/
structure Pcs where
  programs : List (Option Program)
  limit : Nat
  slots : List Slot
  op : Option ContextOp
  deriving DecidableEq, Repr

/-! ## Capture sequencer (CSQ) -/

/-- CSQ states (R141), codes 0 to 12. -/
inductive CsqState where
  | idle | preparing | ready | waitBuffer | waitIntake | waitIris | recentring | arming | exposing | closing
  | recharge | interval | finishing
  deriving DecidableEq, Repr

/-- The result of a program split (R83). -/
structure Split where
  av : Int
  tv : Int
  gv : Int
  x : Int
  clamp : Clamp
  deriving DecidableEq, Repr

/-- The picture in hand (R147 to R151): its split is absent until R148, `armed` while a matched ARMED waits for the
recharge (R151), `arming` while the arm timer runs (R150). -/
structure Hand where
  id : Nat
  split : Option Split
  late : Bool
  arming : Bool
  armed : Bool
  deriving DecidableEq, Repr

/-- The between-frames refine of the INTERVAL in progress (R153). -/
inductive RefineState where
  | none | running | reported
  deriving DecidableEq, Repr

/-- The capture record (R141). -/
structure Capture where
  kind : OpKind
  tag : Nat
  program : Option Program
  programIndex : Nat
  first : Nat
  last : Nat
  /-- position in hand -/
  pos : Nat
  shutter : Shutter
  ownPreparation : Bool
  /-- the scan fixed at a PREPARE's acceptance (R142) -/
  plan : Option ScanPlan
  /-- the preparation scan has been asked for (R143, R146) -/
  scanAsked : Bool
  scanEnd : Option ScanSummary
  /-- tag of the preempted operation whose ending is awaited (R146) -/
  preempting : Option Nat
  hand : Option Hand
  pictures : List Picture
  failure : Option (EndClass × Cause)
  frames : Nat
  refine : RefineState
  deriving DecidableEq, Repr

/-- CSQ (09_capture_sequence.md). -/
structure Csq where
  state : CsqState
  capture : Option Capture
  pendingIntake : List Nat
  nextId : Nat
  xstart : Bool
  xclose : Bool
  recharge : Bool
  /-- the 10 ms of XCLOSE run (R151, R157) -/
  closeTimer : Bool
  deriving DecidableEq, Repr

/-! ## Picture buffer (PBF) -/

/-- States of a picture record (R162), codes 0 to 4. -/
inductive RecordState where
  | reserved | filling | complete | storing | discarding
  deriving DecidableEq, Repr

/-- A picture record (R162); the reserved set stands with its pages. -/
structure PicRecord where
  id : Nat
  tag : Nat
  pos : Nat
  state : RecordState
  reserved : List Nat
  pages : List Nat
  length : Option Nat
  received : Nat
  shot : Option ShotRecord
  deriving DecidableEq, Repr

/-- An entry of the intake FIFO: a byte, or a gap mark with its count of lost bytes (R164). -/
inductive FifoItem where
  | byte (b : Byte)
  | gap (lost : Nat)
  deriving DecidableEq, Repr

/-- The intake engine (R164): in SEEK, whether the byte before was a possible A5 and whether STRAY was raised for the
run; in HEADER the bytes taken; in DATA the picture; in DRAIN the count. -/
inductive Engine where
  | seek (afterA5 strayRaised : Bool)
  | header (bytes : List Byte)
  | data (picture : Nat)
  | drain (count : Nat)
  deriving DecidableEq, Repr

/-- PBF (10_picture_buffer_and_intake.md). -/
structure Pbf where
  freePages : List Nat
  records : List PicRecord
  reserve : Nat
  request : Bool
  fifo : List FifoItem
  engine : Engine
  memory : List Host.Cell
  deriving DecidableEq, Repr

/-! ## Card store (CSU) -/

/-- Card states (R172). -/
inductive CardState where
  | absent | present | opened | protect
  deriving DecidableEq, Repr

/-- Commands on CCMD (R174, R182). -/
inductive CardCommand where
  | reset | conditionQuery | identity | select | busWidth | blockCount (blocks : Nat) | writeMultiple (block : Nat)
  | stop
  deriving DecidableEq, Repr

/-- Continuations of a fault record (R187), codes 0 to 2. -/
inductive Continuation where
  | none | hold | drop
  deriving DecidableEq, Repr

/-- Card responses of a fault record (R187), codes 1 to 3. -/
inductive FaultResponse where
  | crcError | writeError | timeout
  deriving DecidableEq, Repr

/-- A write-back entry of the fault record (R187). -/
structure WriteBack where
  cluster : Nat
  block : Nat
  valid : Bool
  deriving DecidableEq, Repr

/-- The store fault record (R187); format 1 has a fault place, format 2 has none. Its fragments are those of the
current placement. -/
structure FaultRecord where
  format : Nat
  picture : Nat
  written : Nat
  place : Option (Nat × Nat)
  response : Option FaultResponse
  continuation : Continuation
  repeats : Nat
  writeBacks : List WriteBack
  deriving DecidableEq, Repr

/-- The current placement (R178): `written` is the first cluster not yet written, `ahead` the clusters past it that a RETRY
counts as written (R191), rising; then the write-backs a RETRY still has to write, the continuation to carry out after
the last of them, and the repeat count a new fault takes. -/
structure Placement where
  fragments : List Fragment
  written : Nat
  ahead : List Nat
  retries : Nat
  writeBacks : List Nat
  deferred : Continuation
  repeats : Nat
  deriving DecidableEq, Repr

/-- A write-multiple exchange (R182): first cluster, clusters declared, blocks accepted, busy after the last accepted
block, clusters of it already counted as written. -/
structure Exchange where
  first : Nat
  clusters : Nat
  accepted : Nat
  busy : Bool
  counted : Nat
  deriving DecidableEq, Repr

/-- CSU (11_card_store_and_store_faults.md). -/
structure Csu where
  card : CardState
  protect : Bool
  cdet : Bool
  cwp : Bool
  capacity : Option Nat
  pool : List Extent
  cluster : Nat
  queue : List Nat
  store : StoreState
  current : Option Nat
  placement : Option Placement
  opening : Option Nat
  awaiting : Option CardCommand
  exchange : Option Exchange
  stopBusy : Bool
  fault : Option FaultRecord
  restarted : Bool
  clockFull : Bool
  wide : Bool
  deriving DecidableEq, Repr

/-! ## The whole state -/

/-- Every piece of state the manual gives the part, the queue of waiting commands, and the model's counter of free
values (log 18: DESIGN CHOICE, safe). -/
structure State where
  pending : List Instr
  freeCount : Nat
  lif : Lif
  opt : Opt
  ldu : Ldu
  otb : Otb
  fmn : Fmn
  exc : Exc
  fsu : Fsu
  stu : Stu
  pcs : Pcs
  csq : Csq
  pbf : Pbf
  csu : Csu
  deriving DecidableEq, Repr

/-! ## Right after reset -/

/-- Default setups of R24. -/
def resetSetup : Axis → Setup
  | .zoom => { interval := 1000, energize := 6, settle := 6, hold := 64 }
  | .focus => { interval := 400, energize := 6, settle := 6, hold := 64 }
  | .iris => { interval := 1000, energize := 6, settle := 6, hold := 0 }

/-- An axis at hardware reset (R20); the step direction and interval, of no step in progress, are log 9's (DESIGN
CHOICE, unsafe). -/
def resetAxis (a : Axis) : AxisRec :=
  { pp := none, state := .released, target := none, owner := none, setup := resetSetup a, homingCount := 0,
    homing := .none, after := .goOn, stepUp := false, stepTime := 0, timer := none }

/-- Default matrix weights (R70): 2 in zones 18 to 21 and 26 to 29, 1 elsewhere. -/
def resetWeights : List Nat :=
  (List.range 48).map fun z => if (18 ≤ z ∧ z ≤ 21) ∨ (26 ≤ z ∧ z ≤ 29) then 2 else 1

/-- Default metering settings (R70). -/
def resetMeter : MeterSettings :=
  { mode := .matrix, weights := resetWeights, target := 470, highlight := 4, compensation := 0, convergence := 4,
    rounding := .nearest, gvMax := 160, knee := 287, tvFloor := 0 }

/-- Default AF settings (R92). -/
def resetAf : AfSettings :=
  { mask := 1, step := 8, condition := .peak, fall := 2, threshold := 20000, minimum := 2000, skip := true,
    span := .full, hold := .stay }

/-- A slot with the defaults (R132); EMPTY slots hold nothing, and their fields stand at the defaults too (log 9:
DESIGN CHOICE, unsafe). -/
def resetSlot (status : SlotStatus) : Slot :=
  { status := status, kind := .still, link := none, zoomStep := 0, d := 0, x := none, meter := resetMeter,
    af := resetAf, mode := .off, leak := 11, interval := none }

/-- An unwritten node (R39); its fields, which nothing reads, are log 9's (DESIGN CHOICE, unsafe). -/
def resetNode : Node :=
  { written := false,
    fields := { zoomStep := 0, focal := 0, equiv := 0, avOpen := 0, fInf := 0, fNear := 0, gain := 0 } }

/-- The global part's defaults (R39). -/
def resetGlobal : GlobalFields :=
  { avCap := 221, tvMaxElectronic := 383, tvMaxMechanical := 351, stroke := 3000, follow := 16 }

/-- A steadying axis with angle, target and counts 0 (R126). -/
def resetSteadyAxis : SteadyAxis :=
  { theta := 0, target := 0, measured := 0, saturated := 0, supervised := 0 }

/-- CSU at hardware reset (R193). -/
def resetCsu : Csu :=
  { card := .absent, protect := false, cdet := false, cwp := false, capacity := none, pool := [], cluster := 64,
    queue := [], store := .disabled, current := none, placement := none, opening := none, awaiting := none,
    exchange := none, stopBusy := false, fault := none, restarted := false, clockFull := false, wide := false }

/-- The part right after hardware reset: R16, R20, R39, R54, R65, R90, R95, R126, R128, R132, R141, R170, R193, R196,
R198, R199. The line levels, which are inputs, stand low (logs 8 and 9: DESIGN CHOICE, unsafe). -/
def State.reset : State :=
  { pending := [],
    freeCount := 0,
    lif := { rateHigh := false, assembler := .hunt, queue := [], linkError := false, handed := [], replies := [],
             tx := none, restart := .none },
    opt := { table := [], outbox := [.ready .hardware] },
    ldu := { zoom := resetAxis .zoom, focus := resetAxis .focus, iris := resetAxis .iris, d := 0, waitList := [],
             pendingIris := none, irisWriter := none, flags := { zoom := false, focus := false, iris := false },
             ops := [] },
    otb := { state := .empty, nodes := List.replicate 16 resetNode, glob := resetGlobal },
    fmn := { counter := 0, ring := [], stale := 0 },
    exc := { live := resetMeter, x := none, lock := .none, ring := [], clamp := .none, sent := .none, latest := none,
             window := 0, nextSerial := 1 },
    fsu := { live := resetAf, scan := none },
    stu := { state := .off, mode := .off, leak := 11, offset := none, yaw := resetSteadyAxis,
             pitch := resetSteadyAxis, fault := false, window := false, cal := none },
    pcs := { programs := List.replicate 16 none, limit := 0,
             slots := [resetSlot .active, resetSlot .empty, resetSlot .empty, resetSlot .empty], op := none },
    csq := { state := .idle, capture := none, pendingIntake := [], nextId := 1, xstart := false, xclose := false,
             recharge := false, closeTimer := false },
    pbf := { freePages := List.range 2048, records := [], reserve := 192, request := false, fifo := [],
             engine := .seek false false, memory := [] },
    csu := resetCsu }

end Sys2Proof.Machine
end

