-- ==== Sys2Proof/Machine/Arith.lean ====
section
/-! DEFINITION. The part's arithmetic: rounding (R1), the logarithm LG (R2), interpolation (00_scope.md section 6.7),
the exposure time (R88), the roundings of R78, the focus computations of R49 and R50, and the link check (R197). -/

namespace Sys2Proof.Machine

/-- Bring a natural into `lo..hi`. -/
def bring (lo hi v : Nat) : Nat := max lo (min hi v)

/-- Bring an integer into `lo..hi`. -/
def bringInt (lo hi v : Int) : Int := max lo (min hi v)

/-- Nearest integer to `n / d`, ties away from zero (R1). -/
def roundDiv (n : Int) (d : Nat) : Int :=
  let q : Int := (((2 * n.natAbs + d) / (2 * d) : Nat) : Int)
  if n < 0 then -q else q

/-- The part's logarithm LG (R2): 0 counts as 1; with m the highest set bit, 32·m + floor(32·(x − 2^m)/2^m). -/
def lg (x : Nat) : Nat :=
  let y := max x 1
  let m := Nat.log2 y
  32 * m + 32 * (y - 2 ^ m) / 2 ^ m

/-- Interpolation between two nodes (00_scope.md section 6.7): product first, division truncated toward zero. -/
def interpolate (v0 v1 : Int) (z0 z1 z : Nat) : Int :=
  v0 + ((v1 - v0) * ((z : Int) - z0)).tdiv ((z1 : Int) - z0)

/-- P[r], r = 0..31: round(65536·2^(−r/32)) as the table of R88 gives it. -/
def exposureFactors : List Nat :=
  [65536, 64132, 62757, 61413, 60097, 58809, 57549, 56316, 55109, 53928, 52773, 51642, 50535, 49452, 48393, 47356,
   46341, 45348, 44376, 43425, 42495, 41584, 40693, 39821, 38968, 38133, 37316, 36516, 35734, 34968, 34219, 33486]

/-- Exposure time in µs of a time value (R88). -/
def exposureTime (tv : Nat) : Nat :=
  let q := tv / 32
  let p := exposureFactors.getD (tv % 32) 0
  (1000000 * p + 2 ^ (15 + q)) / 2 ^ (16 + q)

/-- `n / 8` rounded to an integer by the convergence column of R78. -/
def roundEighths (mode : Rounding) (n : Int) : Int :=
  match mode with
  | .towardZero => n.tdiv 8
  | .towardBrighter => n.fdiv 8
  | .towardDarker => -((-n).fdiv 8)
  | .nearest =>
    let q := n.fdiv 8
    let r := n - 8 * q
    if r < 4 then q else if 4 < r then q + 1 else if q % 2 = 0 then q else q + 1

/-- A gain (at least 0) rounded to a multiple of 4 by the gain column of R78. -/
def roundGain (mode : Rounding) (g : Int) : Int :=
  let q := g.fdiv 4
  let r := g - 4 * q
  match mode with
  | .towardZero => 4 * q
  | .towardDarker => 4 * q
  | .towardBrighter => if r = 0 then 4 * q else 4 * q + 4
  | .nearest => if r < 2 then 4 * q else if 2 < r then 4 * q + 4 else if q % 2 = 0 then 4 * q else 4 * q + 4

/-- The forward computation F(z, d) from the two curve values at z (R49). -/
def forwardFocus (fInf fNear : Int) (d : Nat) : Nat :=
  (fInf + ((fNear - fInf) * d).tdiv 1024).toNat

/-- The back computation (R50): none when the curves meet, so that d keeps its value. -/
def backFocus (fInf fNear : Int) (p : Nat) : Option Nat :=
  if fNear = fInf then none
  else
    let n := ((p : Int) - fInf) * 1024
    let den := fNear - fInf
    let q := roundDiv (if den < 0 then -n else n) den.natAbs
    some (bringInt 0 1024 q).toNat

/-- One bit of the check (R197): compare the top bit, shift left, combine with 1021 hex when they differed. -/
def checkBit (r : BitVec 16) (b : Bool) : BitVec 16 :=
  let shifted := r <<< 1
  if r.msb != b then shifted ^^^ 0x1021#16 else shifted

/-- The eight bits of a byte, most significant first. -/
def bitsOf (b : Byte) : List Bool := [7, 6, 5, 4, 3, 2, 1, 0].map fun i => b.getLsbD i

/-- The cyclic code of R197 over bits, from a starting register. -/
def checkOver (start : BitVec 16) (bits : List Bool) : BitVec 16 := bits.foldl checkBit start

/-- The check of a packet's covered bytes (R197). -/
def packetCheck (bytes : List Byte) : BitVec 16 :=
  bytes.foldl (fun r b => checkOver r (bitsOf b)) 0xFFFF#16

/-- The counters that run 1..65535 and then 1 again: picture ids and exposure serials (00_scope.md section 6.4). -/
def nextNumber (n : Nat) : Nat := if n ≥ 65535 then 1 else n + 1

end Sys2Proof.Machine
end

