-- ==== Sys2Proof/Machine/Codes.lean ====
section
/-! DEFINITION. The code numbers of section 12.5, R141, R162 and R178, as messages carry them, and the codes that
requests carry, read back. -/

namespace Sys2Proof.Machine

def axisCode : Axis → Nat
  | .zoom => 0
  | .focus => 1
  | .iris => 2

/-- The axis a request names by code, if it is one (R24). -/
def axisOf (code : Nat) : Option Axis :=
  match code with
  | 0 => some .zoom
  | 1 => some .focus
  | 2 => some .iris
  | _ => none

def opKindCode : OpKind → Nat
  | .home => 0x11
  | .move => 0x12
  | .zoom => 0x13
  | .park => 0x14
  | .scan => 0x23
  | .gyroCal => 0x24
  | .switch => 0x34
  | .enter => 0x35
  | .leave => 0x36
  | .prepare => 0x40
  | .shoot => 0x42
  | .cardOpen => 0x50
  | .storeHold => 0x54

def refusalCode : Code → Nat
  | .unknownKind => 1
  | .length => 2
  | .field => 3
  | .tagInUse => 4
  | .tableFull => 5
  | .noTable => 6
  | .unreferenced => 7
  | .busy => 8
  | .wrongState => 9
  | .range => 10
  | .absent => 11
  | .contextKind => 12
  | .contextBusy => 13
  | .noBackLink => 14
  | .noCard => 15
  | .protect => 16
  | .format => 17
  | .overlap => 18
  | .noSuch => 19
  | .poolFull => 20

def classCode : EndClass → Nat
  | .complete => 0
  | .partialEnd => 1
  | .suppressed => 2
  | .nullified => 3
  | .terminated => 4

def causeCode : Cause → Nat
  | .none => 0
  | .stopped => 1
  | .preempted => 2
  | .lostStep => 3
  | .noReference => 4
  | .markedFrame => 5
  | .noStats => 6
  | .steadyFault => 7
  | .armTimeout => 8
  | .shutterFault => 9
  | .intakeOverflow => 10
  | .intakeTimeout => 11
  | .cardGone => 12

/-- The cause a stop of an operation gives its ending (R10, R11). -/
def stopCauseOf : StopCause → Cause
  | .stopped => .stopped
  | .preempted => .preempted

def sourceCode : Source → Nat
  | .zoom => 0
  | .focus => 1
  | .iris => 2
  | .steady => 3
  | .shutter => 4
  | .intake => 5
  | .card => 6
  | .store => 7

def conditionCode : Condition → Nat
  | .lostStep => 1
  | .noReference => 2
  | .actuatorFault => 3
  | .bladeTimeout => 4
  | .stray => 5
  | .badLength => 6
  | .order => 7
  | .headerLost => 8
  | .inserted => 9
  | .removed => 10
  | .protectOn => 11
  | .protectOff => 12
  | .poolTrimmed => 13
  | .needSpace => 14
  | .fault => 15

/-- The ATTENTION source of an axis (R14). -/
def axisSource : Axis → Source
  | .zoom => .zoom
  | .focus => .focus
  | .iris => .iris

def opStateCode : OpState → Nat
  | .waiting => 0
  | .running => 1
  | .stopping => 2

def axisStateCode : AxisState → Nat
  | .released => 0
  | .energizing => 1
  | .held => 2
  | .awaitingSlot => 3
  | .moving => 4
  | .homing => 5
  | .settling => 6

def ownerCode : Owner → Nat
  | .op kind _ => opKindCode kind
  | .capture kind => opKindCode kind

def tableStateCode : TableState → Nat
  | .empty => 0
  | .staged => 1
  | .valid => 2

def excStateCode : ExcState → Nat
  | .suspended => 0
  | .waitLens => 1
  | .locked => 2
  | .noResult => 3
  | .running => 4

def lockCode : Lock → Nat
  | .none => 0
  | .pending => 1
  | .held _ => 2

def clampCode : Clamp → Nat
  | .none => 0
  | .under _ => 1
  | .over _ => 2

/-- Amounts above 255 are reported as 255 (R80). -/
def clampAmount : Clamp → Nat
  | .none => 0
  | .under n => min n 255
  | .over n => min n 255

def scanPhaseCode : ScanPhase → Nat
  | .travel => 1
  | .frameWait => 2
  | .finalTravel => 3

def stuStateCode : StuState → Nat
  | .off => 0
  | .fault => 1
  | .hold => 2
  | .uncalibrated => 3
  | .active => 4
  | .panning => 5
  | .recentering => 6

def contextKindCode : ContextKind → Nat
  | .still => 0
  | .movie => 1
  | .review => 2

def contextKindOf (code : Nat) : Option ContextKind :=
  match code with
  | 0 => some .still
  | 1 => some .movie
  | 2 => some .review
  | _ => none

def slotStatusCode : SlotStatus → Nat
  | .empty => 0
  | .available => 1
  | .active => 2
  | .nested => 3

def csqStateCode : CsqState → Nat
  | .idle => 0
  | .preparing => 1
  | .ready => 2
  | .waitBuffer => 3
  | .waitIntake => 4
  | .waitIris => 5
  | .recentring => 6
  | .arming => 7
  | .exposing => 8
  | .closing => 9
  | .recharge => 10
  | .interval => 11
  | .finishing => 12

def storeStateCode : StoreState → Nat
  | .disabled => 0
  | .idle => 1
  | .placing => 2
  | .waitSpace => 3
  | .writing => 4
  | .notifying => 5
  | .paused => 6
  | .faulted => 7

def recordStateCode : RecordState → Nat
  | .reserved => 0
  | .filling => 1
  | .complete => 2
  | .storing => 3
  | .discarding => 4

def cardStateCode : CardState → Nat
  | .absent => 0
  | .present => 1
  | .opened => 2
  | .protect => 3

def engineCode : Engine → Nat
  | .seek _ _ => 0
  | .header _ => 1
  | .data _ => 2
  | .drain _ => 3

def meterModeCode : MeterMode → Nat
  | .matrix => 0
  | .center => 1
  | .spot => 2
  | .focusLinked => 3

def meterModeOf (code : Nat) : Option MeterMode :=
  match code with
  | 0 => some .matrix
  | 1 => some .center
  | 2 => some .spot
  | 3 => some .focusLinked
  | _ => none

def roundingCode : Rounding → Nat
  | .nearest => 0
  | .towardZero => 1
  | .towardBrighter => 2
  | .towardDarker => 3

def roundingOf (code : Nat) : Option Rounding :=
  match code with
  | 0 => some .nearest
  | 1 => some .towardZero
  | 2 => some .towardBrighter
  | 3 => some .towardDarker
  | _ => none

def focusConditionCode : FocusCondition → Nat
  | .peak => 0
  | .above => 1

def focusConditionOf (code : Nat) : Option FocusCondition :=
  match code with
  | 0 => some .peak
  | 1 => some .above
  | _ => none

def spanCode : Span → Nat
  | .full => 0
  | .near => 1

def spanOf (code : Nat) : Option Span :=
  match code with
  | 0 => some .full
  | 1 => some .near
  | _ => none

def holdModeCode : HoldMode → Nat
  | .stay => 0
  | .best => 1

def holdModeOf (code : Nat) : Option HoldMode :=
  match code with
  | 0 => some .stay
  | 1 => some .best
  | _ => none

def steadyModeCode : SteadyMode → Nat
  | .off => 0
  | .continuous => 1
  | .shotOnly => 2

def steadyModeOf (code : Nat) : Option SteadyMode :=
  match code with
  | 0 => some .off
  | 1 => some .continuous
  | 2 => some .shotOnly
  | _ => none

def programKindCode : ProgramKind → Nat
  | .single => 0
  | .burst => 1
  | .bracket => 2

def programKindOf (code : Nat) : Option ProgramKind :=
  match code with
  | 0 => some .single
  | 1 => some .burst
  | 2 => some .bracket
  | _ => none

def shutterCode : Shutter → Nat
  | .mechanical => 0
  | .electronic => 1

def scanResultCode : ScanResult → Nat
  | .hit => 0
  | .notSatisfied => 1
  | .lowContrast => 2

/-- Outcome codes of a picture list (section 12.7). -/
def outcomeCode : PictureOutcome → Nat
  | .ingested => 0
  | .dropped => 1
  | .withdrawn => 2

def readyCode : ReadyReason → Nat
  | .hardware => 0
  | .restart => 1

def continuationCode : Continuation → Nat
  | .none => 0
  | .hold => 1
  | .drop => 2

def continuationOf (code : Nat) : Option Continuation :=
  match code with
  | 0 => some .none
  | 1 => some .hold
  | 2 => some .drop
  | _ => none

def faultResponseCode : FaultResponse → Nat
  | .crcError => 1
  | .writeError => 2
  | .timeout => 3

def flagCode (b : Bool) : Nat := if b then 1 else 0

end Sys2Proof.Machine
end

