-- ==== Sys2Proof/Machine/Flags.lean ====
section
/-! DEFINITION. What is read off the state: axis records, operation table look-ups, the table readings of R46 to R50,
the availability of lens geometry (R47), the states and outputs that are functions of others. -/

namespace Sys2Proof.Machine

/-! ## Lens drive -/

/-- The record of an axis. -/
def State.axis (s : State) : Axis → AxisRec
  | .zoom => s.ldu.zoom
  | .focus => s.ldu.focus
  | .iris => s.ldu.iris

/-- Write the record of an axis. -/
def State.setAxis (s : State) (a : Axis) (r : AxisRec) : State :=
  match a with
  | .zoom => { s with ldu := { s.ldu with zoom := r } }
  | .focus => { s with ldu := { s.ldu with focus := r } }
  | .iris => { s with ldu := { s.ldu with iris := r } }

/-- The level of an axis's reference flag line; `true` is high. -/
def flagLevel (f : RefFlags) : Axis → Bool
  | .zoom => f.zoom
  | .focus => f.focus
  | .iris => f.iris

/-- Mechanical range of an axis (R19). -/
def axisRange : Axis → Nat
  | .zoom => 2600
  | .focus => 1600
  | .iris => 120

/-- Reference position of an axis (R19). -/
def referencePosition : Axis → Nat
  | .zoom => 100
  | .focus => 40
  | .iris => 0

/-- Home limit of an axis (R19). -/
def homeLimit : Axis → Nat
  | .zoom => 2800
  | .focus => 1800
  | .iris => 140

/-- An axis stands in MOVING or HOMING: it has a step in progress and holds a stepping slot (R25, R56). -/
def AxisRec.stepping (r : AxisRec) : Bool :=
  match r.state with
  | .moving => true
  | .homing => true
  | _ => false

/-- An axis at rest: HELD, or RELEASED after its hold-release time (R21, log 28: DEDUCED, safe). -/
def AxisRec.atRest (r : AxisRec) : Bool :=
  match r.state with
  | .held => true
  | .released => true
  | _ => false

/-- The axes in code order. -/
def allAxes : List Axis := [.zoom, .focus, .iris]

/-- The axes holding the two stepping slots (R25). -/
def State.slotHolders (s : State) : List Axis := allAxes.filter fun a => (s.axis a).stepping

/-- The first of some axes, in code order, that has an owner (R26). -/
def State.firstOwned (s : State) (axes : List Axis) : Option Axis :=
  axes.find? fun a => (s.axis a).owner.isSome

/-- The first of some axes, in the order given, whose PP is UNREFERENCED. -/
def State.firstUnreferenced (s : State) (axes : List Axis) : Option Axis :=
  axes.find? fun a => (s.axis a).pp.isNone

/-! ## Operations -/

/-- The entry of a tag in the operation table. -/
def State.entry (s : State) (tag : Nat) : Option OpEntry := s.opt.table.find? fun e => e.tag == tag

/-- The entry of an operation kind in the table. -/
def State.entryOfKind (s : State) (kind : OpKind) : Option OpEntry := s.opt.table.find? fun e => e.kind == kind

/-- An operation of this kind is in the table. -/
def State.hasKind (s : State) (kind : OpKind) : Bool := s.opt.table.any fun e => e.kind == kind

/-- The tag's entry stands in STOPPING. -/
def State.stopping (s : State) (tag : Nat) : Bool :=
  match s.entry tag with
  | some e => e.state == .stopping
  | none => false

/-- The tag's entry stands in WAITING. -/
def State.waiting (s : State) (tag : Nat) : Bool :=
  match s.entry tag with
  | some e => e.state == .waiting
  | none => false

/-- Tags of the ENDING notices whose transmission has not ended: waiting in the outbox or being sent (R4). -/
def State.endingTags (s : State) : List Nat :=
  (s.opt.outbox.filterMap fun n => match n with | .ending e => some e.tag | _ => none) ++
    (match s.lif.tx with
     | some { item := .notice (.ending e), bytes := _ } => [e.tag]
     | _ => [])

/-- A STORED notice for the picture waits in the outbox or is being sent (R168). -/
def State.storedInFlight (s : State) (picture : Nat) : Bool :=
  (s.opt.outbox.any fun n => match n with | .stored id _ _ _ _ => id == picture | _ => false) ||
    (match s.lif.tx with
     | some { item := .notice (.stored id _ _ _ _), bytes := _ } => id == picture
     | _ => false)

/-! ## Contexts -/

/-- The number of the ACTIVE slot (R132). -/
def State.activeIndex (s : State) : Nat := s.pcs.slots.findIdx fun c => c.status == .active

/-- A slot by number. -/
def State.slot (s : State) (i : Nat) : Slot := s.pcs.slots.getD i (resetSlot .empty)

/-- The ACTIVE slot. -/
def State.activeSlot (s : State) : Slot := s.slot s.activeIndex

/-- The kind of the active context. -/
def State.activeKind (s : State) : ContextKind := s.activeSlot.kind

/-! ## Optics table readings -/

/-- The detail of a NO_TABLE refusal, or none while the table is VALID (R52). -/
def State.noTable (s : State) : Option Nat :=
  match s.otb.state with
  | .empty => some 0
  | .staged => some 1
  | .valid => none

/-- One field read at zoom position `z` from the nodes in order (R46). -/
def readNodes (f : NodeFields → Nat) : List Node → Nat → Int
  | [], _ => 0
  | [n], _ => f n.fields
  | n :: m :: rest, z =>
    if z ≤ n.fields.zoomStep then f n.fields
    else if z < m.fields.zoomStep then
      interpolate (f n.fields) (f m.fields) n.fields.zoomStep m.fields.zoomStep z
    else readNodes f (m :: rest) z

/-- A reading of the table at `z` (R46). -/
def State.reading (s : State) (f : NodeFields → Nat) (z : Nat) : Int := readNodes f s.otb.nodes z

/-- The wide end: node 0's zoom step (R48). -/
def State.wideEnd (s : State) : Nat := ((s.otb.nodes.head?).getD resetNode).fields.zoomStep

/-- The tele end: node 15's zoom step (R48). -/
def State.teleEnd (s : State) : Nat := ((s.otb.nodes.getLast?).getD resetNode).fields.zoomStep

/-- Lens geometry is available (R47). -/
def State.lensGeometry (s : State) : Bool := s.otb.state == .valid && s.ldu.zoom.pp.isSome

/-- The zoom PP as a reading position (R47), a free value while it is UNREFERENCED (log 47: DESIGN CHOICE, safe). -/
def State.zoomStep (s : State) : Nat :=
  match s.ldu.zoom.pp with
  | some p => p
  | none => Config.unreadZoomStep s.freeCount

/-- F(z, d) at a zoom position (R49). -/
def State.focusFor (s : State) (z d : Nat) : Nat :=
  forwardFocus (s.reading (·.fInf) z) (s.reading (·.fNear) z) d

/-- d after the back computation of R50 at the present zoom and focus PP, where R50 allows it. -/
def State.backD (s : State) : Nat :=
  match s.ldu.focus.pp with
  | some p =>
    if s.lensGeometry then
      (backFocus (s.reading (·.fInf) s.zoomStep) (s.reading (·.fNear) s.zoomStep) p).getD s.ldu.d
    else s.ldu.d
  | none => s.ldu.d

/-! ## Exposure -/

/-- Lens geometry and the iris reference are both available (R67, R68). -/
def State.excLens (s : State) : Bool := s.lensGeometry && s.ldu.iris.pp.isSome

/-- The state of EXC (R67): the first row whose condition holds. -/
def State.excState (s : State) : ExcState :=
  if s.activeKind = .review then .suspended
  else if s.excLens = false then .waitLens
  else match s.exc.lock with
    | .held _ => .locked
    | _ => if s.exc.x.isNone then .noResult else .running

/-- X_locked, while the lock is held. -/
def State.xLocked (s : State) : Option Int :=
  match s.exc.lock with
  | .held x => some x
  | _ => none

/-! ## Frames -/

/-- The open record: the newest of the ring. -/
def State.openRecord (s : State) : Option FrameRec := s.fmn.ring.getLast?

/-- FMN's answer to the question of recent steadiness (R59): UNSTEADY in any of the four newest records. -/
def State.recentlyUnsteady (s : State) : Bool :=
  (s.fmn.ring.drop (s.fmn.ring.length - 4)).any fun r => r.unsteady

/-! ## Steadying outputs -/

/-- SLOCK is engaged in OFF and FAULT (R118). -/
def State.lockEngaged (s : State) : Bool := s.stu.state == .off || s.stu.state == .fault

/-- The actuator drive SDRV is on: off in OFF and FAULT, on in every other state (R118, R125). -/
def State.driveOn (s : State) : Bool :=
  match s.stu.state with
  | .off => false
  | .fault => false
  | .hold => true
  | .uncalibrated => true
  | .active => true
  | .panning => true
  | .recentering => true

/-- What SDRV drives the stage to, yaw and pitch, while the drive is on (R118). -/
def State.driven (s : State) : Option (Int × Int) :=
  if s.driveOn then some (s.stu.yaw.target, s.stu.pitch.target) else none

/-! ## Pictures -/

/-- The record of a picture id: the older one where the id counter has wrapped and two carry it (R147, log 65: DESIGN CHOICE,
unsafe). -/
def State.record (s : State) (id : Nat) : Option PicRecord := s.pbf.records.find? fun r => r.id == id

/-- Bytes in the intake FIFO (gap marks are not bytes). -/
def State.fifoBytes (s : State) : Nat :=
  (s.pbf.fifo.filter fun i => match i with | .byte _ => true | .gap _ => false).length

/-- IHOLD: high while the FIFO holds more than 3,072 bytes (R164). -/
def State.ihold (s : State) : Bool := s.fifoBytes > 3072

/-! ## Card store -/

/-- A STORE-HOLD waits (R180). -/
def State.holdWaits (s : State) : Bool := s.hasKind .storeHold

/-- The store's current record is DISCARDING. -/
def State.discarding (s : State) : Bool :=
  match s.csu.current with
  | some id =>
    match s.record id with
    | some r => r.state == .discarding
    | none => false
  | none => false

/-- Clusters a picture of this length needs (R181): rounded up. -/
def clustersFor (cluster length : Nat) : Nat := (length + cluster * 512 - 1) / (cluster * 512)

/-- Clusters of a fragment list. -/
def clustersOf (fragments : List Fragment) : Nat := (fragments.map (·.clusters)).sum

/-- First block of cluster `k` of a placement, and the clusters from it to the end of its fragment (R182). -/
def clusterPlace (cluster : Nat) : List Fragment → Nat → Option (Nat × Nat)
  | [], _ => none
  | f :: rest, k =>
    if k < f.clusters then some (f.start + k * cluster, f.clusters - k)
    else clusterPlace cluster rest (k - f.clusters)

end Sys2Proof.Machine
end

