-- ==== Sys2Proof/Machine/Ops.lean ====
section
/-! DEFINITION. Operations shared by every block: picture memory, replies, the notice outbox (R13 to R15), the operation
table (R3, R4, R6, R10), and the handing of a request or feed to its owner (R198). -/

namespace Sys2Proof.Machine

/-! ## Picture memory (R159): one cell per byte that is not 0, addresses strictly rising (log 12: DESIGN CHOICE, unsafe) -/

/-- The byte at an address; an address not listed reads 0. -/
def readCell : List Host.Cell → Nat → Byte
  | [], _ => 0
  | (a, b) :: rest, k => if a = k then b else readCell rest k

/-- Write a byte, keeping the canonical form. -/
def writeCell : List Host.Cell → Nat → Byte → List Host.Cell
  | [], k, v => if v = 0 then [] else [(k, v)]
  | (a, b) :: rest, k, v =>
    if k < a then (if v = 0 then (a, b) :: rest else (k, v) :: (a, b) :: rest)
    else if k = a then (if v = 0 then rest else (k, v) :: rest)
    else (a, b) :: writeCell rest k v

/-- Every address of the list lies above `k`. -/
def allAbove (k : Nat) (cells : List Host.Cell) : Bool := cells.all fun c => k < c.1

/-- The canonical form: addresses strictly rising, no listed byte 0. -/
def Memory.wf : List Host.Cell → Bool
  | [] => true
  | (a, b) :: rest => b != 0 && allAbove a rest && Memory.wf rest

/-- Bytes of memory from an address, the lowest first. -/
def readBytes (cells : List Host.Cell) (start len : Nat) : List Byte :=
  (List.range len).map fun i => readCell cells (start + i)

/-- Change the first element that satisfies a test. -/
def updateFirst {α : Type} (test : α → Bool) (f : α → α) : List α → List α
  | [] => []
  | a :: rest => if test a then f a :: rest else a :: updateFirst test f rest

/-! ## Replies (section 4, R198, R199) -/

/-- A reply joins the reply queue in the event of its decision. -/
def State.reply (s : State) (tag : Nat) (body : ReplyBody) : State :=
  { s with lif := { s.lif with replies := s.lif.replies ++ [{ tag := tag, body := body }] } }

/-- DONE with its payload (log 6: DEDUCED, safe). -/
def State.done (s : State) (tag : Nat) (payload : List Byte) : State := s.reply tag (.done payload)

/-- REFUSED with a code and a detail. -/
def State.refuse (s : State) (tag : Nat) (code : Code) (detail : Nat) : State := s.reply tag (.refused code detail)

/-! ## The notice outbox (R13 to R15) -/

/-- A notice joins the outbox at the tail (R13). -/
def State.place (s : State) (n : Notice) : State := { s with opt := { s.opt with outbox := s.opt.outbox ++ [n] } }

/-- The ATTENTION of a source in the outbox takes a new condition and detail and counts, saturating at 255 (R14). -/
def renewAttention (source : Source) (condition : Condition) (detail : Nat) : Notice → Notice
  | .attention src cond det count =>
    if src = source then .attention src condition detail (min 255 (count + 1)) else .attention src cond det count
  | n => n

/-- The notice is an ATTENTION of this source. -/
def isAttention (source : Source) : Notice → Bool
  | .attention src _ _ _ => src == source
  | _ => false

/-- A source raises an ATTENTION (R14). -/
def State.attention (s : State) (source : Source) (condition : Condition) (detail : Nat) : State :=
  if s.opt.outbox.any (isAttention source) then
    { s with opt := { s.opt with outbox := s.opt.outbox.map (renewAttention source condition detail) } }
  else s.place (.attention source condition detail 1)

/-- The notice is an EXPOSURE. -/
def isExposure : Notice → Bool
  | .exposure _ _ _ _ _ _ => true
  | _ => false

/-- EXC places an EXPOSURE: it overwrites the waiting one in place, or joins the tail (R15). -/
def State.placeExposure (s : State) (n : Notice) : State :=
  if s.opt.outbox.any isExposure then
    { s with opt := { s.opt with outbox := s.opt.outbox.map fun m => if isExposure m then n else m } }
  else s.place n

/-! ## The operation table -/

/-- Change the entry of a tag. -/
def State.updateEntry (s : State) (tag : Nat) (f : OpEntry → OpEntry) : State :=
  { s with opt := { s.opt with table := s.opt.table.map fun e => if e.tag = tag then f e else e } }

/-- The owner begins its first unit: WAITING becomes RUNNING (R3, log 13: DEDUCED, unsafe). -/
def State.beginUnit (s : State) (tag : Nat) : State :=
  s.updateEntry tag fun e => if e.state = .waiting then { e with state := .running } else e

/-- A unit ended with its effect standing (R3). -/
def State.countUnit (s : State) (tag : Nat) : State :=
  s.updateEntry tag fun e => { e with done := min 65535 (e.done + 1) }

/-- A STOP or a preemption reaches a WAITING or RUNNING entry (R10, R11). -/
def State.markStopping (s : State) (tag : Nat) (cause : StopCause) : State :=
  s.updateEntry tag fun e => if e.state = .stopping then e else { e with state := .stopping, cause := some cause }

/-- Table entries and ENDING notices whose transmission has not ended (R4, check 2). -/
def State.tracked (s : State) : Nat := s.opt.table.length + s.endingTags.length

/-- A free value has been drawn: the model's counter goes up, so that the next one is another. -/
def State.drawFree (s : State) : State := { s with freeCount := s.freeCount + 1 }

/-- OPT's checks of R4 on a request its owner would accept: the refusal, or none. -/
def State.trackerRefusal (s : State) (tag : Nat) : Option (Code × Nat) :=
  if (s.entry tag).isSome then some (.tagInUse, 0)
  else if s.endingTags.contains tag then some (.tagInUse, 1)
  else if 8 ≤ s.tracked then some (.tableFull, Config.tableFullDetail s.freeCount % 65536)
  else none

/-- A new entry of the operation table (R4, check 3). -/
def State.enter (s : State) (tag : Nat) (kind : OpKind) (state : OpState) (planned : Option Nat) : State :=
  { s with
      opt := { s.opt with
                table := s.opt.table ++
                  [{ tag := tag, kind := kind, state := state, done := 0, planned := planned, cause := none }] } }

/-- The entry of a tag leaves the table (R6). -/
def State.removeEntry (s : State) (tag : Nat) : State :=
  { s with opt := { s.opt with table := s.opt.table.filter fun f => f.tag != tag } }

/-- Taking a long request its owner would accept (R4): refused by OPT, or entered in the table with ACCEPTED queued and
the owner told to begin. A TABLE_FULL draws its detail (log 19: DESIGN CHOICE, safe). -/
def State.accept (s : State) (tag : Nat) (kind : OpKind) (state : OpState) (planned : Option Nat)
    (begin_ : State → State) : State :=
  match s.trackerRefusal tag with
  | some (code, detail) => s.drawFree.refuse tag code detail
  | none =>
    begin_ ((s.enter tag kind state planned).reply tag (.accepted kind))

/-- OPT takes an owner's ending (R6): the entry leaves the table and one ENDING joins the outbox; an ending that finds no
entry is discarded. -/
def State.ending (s : State) (tag : Nat) (cls : EndClass) (cause : Cause) (resume : Resume) (result : Option Nat)
    (fields : EndFields) : State :=
  match s.entry tag with
  | none => s
  | some e =>
    (s.removeEntry tag).place
      (.ending { tag := tag, kind := e.kind, cls := cls, cause := cause, done := e.done, resume := resume,
                 result := result, fields := fields })

/-- The stop cause recorded in the entry of a tag, as an ending's cause; STOPPED where none is recorded. -/
def State.recordedCause (s : State) (tag : Nat) : Cause :=
  match s.entry tag with
  | some { cause := some c, .. } => stopCauseOf c
  | _ => .stopped

/-- Units done of a tag's entry. -/
def State.unitsDone (s : State) (tag : Nat) : Nat :=
  match s.entry tag with
  | some e => e.done
  | none => 0

/-! ## Handing of requests and feeds (R198) -/

/-- A command that is a feed. -/
def isFeed : Instr → Bool
  | .stats _ => true
  | .armed _ => true
  | _ => false

/-- Replies owed: requests handed and not decided, replies queued, and a reply being sent (R198). -/
def State.owed (s : State) : Nat :=
  (s.lif.handed.filter fun c => !isFeed c).length + s.lif.replies.length +
    (match s.lif.tx with
     | some { item := .reply _, bytes := _ } => 1
     | _ => 0)

/-- The command stands among the requests and feeds handed to their owners: taken out of them. When it does not, it comes
straight from the link, as R198 lets a request be taken while fewer than 4 replies are owed, a feed always, and nothing
once a RESTART has been taken (R201); it is then decided ahead of the packets that still wait in the receive queue, a
RESTART's among them (log 2: DEDUCED, unsafe). None: it is not taken. -/
def State.takeHanded (s : State) (c : Instr) : Option State :=
  if s.lif.handed.contains c.atLink then
    some { s with lif := { s.lif with handed := s.lif.handed.erase c.atLink } }
  else if s.lif.restart = .none ∧ (isFeed c ∨ s.owed < 4) then some s
  else none

/-- A request reaches its owner, which decides it by `f`; TAG 0 is refused before (R198, check 3). -/
def State.onRequest (s : State) (c : Instr) (tag : Nat) (f : State → State) : State :=
  match s.takeHanded c with
  | none => s
  | some t => if tag = 0 then t.refuse 0 .field 255 else f t

/-- A feed reaches its owner. -/
def State.onFeed (s : State) (c : Instr) (f : State → State) : State :=
  match s.takeHanded c with
  | none => s
  | some t => f t

/-! ## Lens geometry (R53, R68) -/

/-- Lens geometry or the iris reference is lost: X_current NO-VALUE, the history ring empty, no clamp, no latest target.
The lock stays as it is. -/
def State.excLost (s : State) : State :=
  { s with exc := { s.exc with x := none, ring := [], clamp := .none, latest := none } }

/-- The integrator runs in ACTIVE and PANNING (R118). -/
def StuState.runs : StuState → Bool
  | .active => true
  | .panning => true
  | _ => false

/-- Change both steadying axes. -/
def State.onSteady (s : State) (f : SteadyAxis → SteadyAxis) : State :=
  { s with stu := { s.stu with yaw := f s.stu.yaw, pitch := f s.stu.pitch } }

/-- An axis held centred while lens geometry is not available (R120). -/
def SteadyAxis.centre (a : SteadyAxis) : SteadyAxis := { a with theta := 0, target := 0, saturated := 0 }

/-- STU centres the lens in the event in which lens geometry is lost (R53, section 3.9): in ACTIVE and PANNING θ and the
target fall to 0, and with them the saturation counts, PANNING being left at a sample alone (log 50: DEDUCED, unsafe). -/
def State.centreStu (s : State) : State := if s.stu.state.runs then s.onSteady SteadyAxis.centre else s

/-- Lens geometry is lost: the two blocks that read continuously hear of it (R45, R53). -/
def State.geometryLost (s : State) : State := s.excLost.centreStu

/-- The PP of an axis becomes UNREFERENCED (R53, R68): the zoom's loss is the loss of lens geometry, the iris's concerns EXC,
the focus's neither. -/
def State.referenceLost (s : State) : Axis → State
  | .zoom => s.geometryLost
  | .focus => s
  | .iris => s.excLost

/-- Lens geometry or the iris reference may be available again: with both, a held lock gives X_current its value. -/
def State.excFound (s : State) : State :=
  if s.excLens then
    match s.exc.lock with
    | .held x => { s with exc := { s.exc with x := some x } }
    | _ => s
  else s

/-! ## Reports to FMN (R57, R58) -/

/-- Change the open record; with an empty ring nothing changes. -/
def State.markOpen (s : State) (f : FrameRec → FrameRec) : State :=
  match s.fmn.ring.reverse with
  | [] => s
  | r :: rest => { s with fmn := { s.fmn with ring := rest.reverse ++ [f r] } }

/-- A completed step of an axis sets its LENS_MOVING bit (R57). -/
def State.reportStep (s : State) (a : Axis) : State :=
  s.markOpen fun r =>
    match a with
    | .zoom => { r with movingZoom := true }
    | .focus => { r with movingFocus := true }
    | .iris => { r with movingIris := true }

/-- A clamped sample sets UNSTEADY (R58). -/
def State.reportClamped (s : State) : State := s.markOpen fun r => { r with unsteady := true }

end Sys2Proof.Machine
end

