-- ==== Sys2Proof/Machine/Lens.lean ====
section
/-! DEFINITION. The lens drive (02_lens_drive.md): targets and stops (R21), slots (R25), homing (R29 to R31), the pending
iris target (R27), follow points (R34), the completion of a step (R22, R28, R30) and the endings of HOME, MOVE, ZOOM and
PARK. What a report means to FSU, PCS or CSQ is in Arrivals.lean. -/

namespace Sys2Proof.Machine

/-- What a commander learns at once when it gives a target (R20, R21). -/
inductive Reach where
  | underway | arrived | unreferenced
  deriving DecidableEq, Repr

/-! ## Axis states (R21) -/

/-- PP equals the target: the axis has arrived (R21). -/
def AxisRec.arrived (r : AxisRec) : Bool := r.pp.isSome && r.target == r.pp

/-- The axis becomes HELD and its hold-release timer starts; a time of 0 starts none (R23). -/
def AxisRec.hold (r : AxisRec) : AxisRec :=
  { r with state := .held, homing := .none, after := .goOn,
           timer := if r.setup.hold = 0 then none else some r.setup.hold }

/-- The axis enters SETTLING and its settle timer starts. -/
def AxisRec.settle (r : AxisRec) : AxisRec :=
  { r with state := .settling, homing := .none, after := .goOn, timer := some r.setup.settle }

/-- The axis enters AWAITING_SLOT at the tail of the wait list (R25). -/
def State.joinWait (s : State) (a : Axis) (r : AxisRec) : State :=
  let t := s.setAxis a { r with state := .awaitingSlot, timer := none }
  { t with ldu := { t.ldu with waitList := t.ldu.waitList ++ [a] } }

/-- The axis leaves AWAITING_SLOT without a grant (R25). -/
def State.leaveWait (s : State) (a : Axis) : State :=
  { s with ldu := { s.ldu with waitList := s.ldu.waitList.filter fun b => b != a } }

/-- The axis leaves RELEASED: ENERGIZING, or straight to the wait list with an energize time of 0. -/
def State.energizeAxis (s : State) (a : Axis) (r : AxisRec) : State :=
  if r.setup.energize = 0 then s.joinWait a r
  else s.setAxis a { r with state := .energizing, timer := some r.setup.energize }

/-- A target is given to an axis (R20, R21). Slots are granted afterwards, by `arbitrate`. An axis whose step runs on past a
RESTART takes it as any MOVING axis does, and keeps its slot (log 74: DEDUCED, unsafe). -/
def State.giveTarget (s : State) (a : Axis) (v : Nat) : State × Reach :=
  let r := s.axis a
  let rt := { r with target := some v }
  match r.pp with
  | none => (s, .unreferenced)
  | some p =>
    match r.state with
    | .released => if v = p then (s.setAxis a rt, .arrived) else (s.energizeAxis a rt, .underway)
    | .energizing => (s.setAxis a rt, .underway)
    | .held => if v = p then (s.setAxis a rt, .arrived) else (s.joinWait a rt, .underway)
    | .awaitingSlot =>
      if v = p then ((s.leaveWait a).setAxis a rt.hold, .arrived) else (s.setAxis a rt, .underway)
    | .moving => (s.setAxis a { rt with after := .goOn }, .underway)
    | .homing => (s, .underway)
    | .settling => if v = p then (s.setAxis a rt, .underway) else (s.joinWait a rt, .underway)

/-- The commanding operation of an axis is stopped or suppressed (R21; past a RESTART too, log 74: DEDUCED, unsafe); its
target becomes absent, except in SETTLING, HELD and RELEASED (log 60: DESIGN CHOICE, unsafe). -/
def State.haltAxis (s : State) (a : Axis) : State :=
  let r := { s.axis a with target := none }
  match r.state with
  | .released => s
  | .held => s
  | .settling => s
  | .energizing => s.setAxis a r.hold
  | .awaitingSlot => (s.leaveWait a).setAxis a r.hold
  | .moving => s.setAxis a { r with homing := .none, after := .settle }
  | .homing => s.setAxis a { r with homing := if r.homing = .pending then .none else r.homing, after := .settle }

/-! ## Steps and slots -/

/-- The interval of a step beginning now (R22). -/
def State.stepInterval (s : State) (a : Axis) : Nat :=
  let r := s.axis a
  match a, r.owner with
  | .zoom, some (.op .zoom _) => s.activeSlot.interval.getD r.setup.interval
  | .zoom, some (.op .switch _) => s.activeSlot.interval.getD r.setup.interval
  | .zoom, some (.op .enter _) => s.activeSlot.interval.getD r.setup.interval
  | .zoom, some (.op .leave _) => s.activeSlot.interval.getD r.setup.interval
  | _, _ => r.setup.interval

/-- A step toward the target begins: direction and interval are fixed now (R22, R24). -/
def State.beginStep (s : State) (a : Axis) : State :=
  let r := s.axis a
  s.setAxis a
    { r with state := .moving, timer := none, after := .goOn, stepUp := decide (r.pp.getD 0 < r.target.getD 0),
             stepTime := s.stepInterval a }

/-- Homing of an axis begins in the slot it holds (R30): PP UNREFERENCED, count 0, upward while the flag reads low. -/
def State.beginHoming (s : State) (a : Axis) : State :=
  let r := s.axis a
  let low := !flagLevel s.ldu.flags a
  let t := s.setAxis a
    { r with pp := none, target := none, state := .homing, timer := none, after := .goOn, homingCount := 0,
             homing := if low then .up else .down, stepUp := low, stepTime := s.stepInterval a }
  let t := t.referenceLost a
  match r.owner with
  | some (.op .home tag) => t.beginUnit tag
  | _ => t

/-- The ZOOM in progress under a tag has lost a step on an axis. -/
def State.zoomLost (s : State) (tag : Nat) : Bool :=
  s.ldu.ops.any fun o =>
    o.tag == tag && (match o.body with | .zoom _ _ _ _ lost => lost.isSome | _ => false)

/-- A follow point (R34): focus is given F(z, d) at the zoom PP. -/
def State.followPoint (s : State) : State := (s.giveTarget .focus (s.focusFor s.zoomStep s.ldu.d)).1

/-- A slot is granted to an axis that has left the wait list (R25): homing begins, or the first step of a travel;
under MOVE, PARK and, for the zoom axis, ZOOM, that is the first unit, and a ZOOM's grant is its first follow point
(R34, log 43: DEDUCED, unsafe). An axis that stands at its target has no step to make and settles, its slot free again
(log 14: DEDUCED, unsafe). -/
def State.granted (s : State) (a : Axis) : State :=
  let r := s.axis a
  if r.homing = .pending then s.beginHoming a
  else if r.arrived then s.setAxis a r.settle
  else
    let t := s.beginStep a
    match r.owner with
    | some (.op .move tag) => t.beginUnit tag
    | some (.op .park tag) => t.beginUnit tag
    | some (.op .zoom tag) => if a = .zoom then (t.beginUnit tag).followPoint else t
    | _ => t

/-- The arbiter grants one free slot to the head of the wait list (R25). -/
def State.grantOne (s : State) : State :=
  match s.ldu.waitList with
  | [] => s
  | a :: rest =>
    if s.slotHolders.length < 2 then State.granted { s with ldu := { s.ldu with waitList := rest } } a else s

/-- The arbiter grants the free slots: two at most (R25). -/
def State.arbitrate (s : State) : State := s.grantOne.grantOne

/-! ## The pending iris target (R27) -/

/-- The pending iris target becomes the iris target when the iris has no owner and is referenced. -/
def State.actIris (s : State) : State × Reach :=
  match s.ldu.pendingIris with
  | none => (s, .underway)
  | some t =>
    match s.ldu.iris.owner with
    | some _ => (s, .underway)
    | none =>
      match s.giveTarget .iris t.value with
      | (u, .unreferenced) => (u, .unreferenced)
      | (u, .arrived) =>
        ({ u with ldu := { u.ldu with pendingIris := none, irisWriter := some t.writer } }, .arrived)
      | (u, .underway) => ({ u with ldu := { u.ldu with irisWriter := some t.writer } }, .underway)

/-- A value is written as the pending iris target, brought to 0..96. -/
def State.writeIris (s : State) (v : Nat) (writer : Writer) : State × Reach :=
  match State.actIris { s with ldu := { s.ldu with pendingIris := some { value := min 96 v, writer := writer } } } with
  | (t, reach) => (t.arbitrate, reach)

/-- A HOME naming the iris, or a PARK, discards the pending iris target. -/
def State.discardIris (s : State) : State :=
  { s with ldu := { s.ldu with pendingIris := none, irisWriter := none } }

/-! ## Claims (R26) -/

/-- Give some axes an owner. -/
def State.claim (s : State) (axes : List Axis) (owner : Owner) : State :=
  axes.foldl (fun t a => t.setAxis a { t.axis a with owner := some owner }) s

/-- End the claim on some axes; a freed iris takes up the pending target (R27). -/
def State.release (s : State) (axes : List Axis) : State :=
  let t := axes.foldl (fun t a => t.setAxis a { t.axis a with owner := none }) s
  if axes.contains .iris then t.actIris.1.arbitrate else t

/-! ## Lens operations in progress -/

/-- The lens operation of a tag. -/
def State.lensOp (s : State) (tag : Nat) : Option LensOp := s.ldu.ops.find? fun o => o.tag == tag

/-- Change the data of the lens operation of a tag. -/
def State.setBody (s : State) (tag : Nat) (f : LensBody → LensBody) : State :=
  { s with ldu := { s.ldu with
      ops := s.ldu.ops.map fun o => if o.tag = tag then { o with body := f o.body } else o } }

/-- The part of an axis in a HOME. -/
def homePart (body : LensBody) (a : Axis) : HomePart :=
  match body with
  | .home z f i => (match a with | .zoom => z | .focus => f | .iris => i)
  | _ => .notNamed

/-- Set the part of an axis in a HOME. -/
def setHomePart (a : Axis) (part : HomePart) : LensBody → LensBody
  | .home z f i =>
    (match a with
     | .zoom => .home part f i
     | .focus => .home z part i
     | .iris => .home z f part)
  | body => body

/-- Record what became of an axis under the HOME that owns it. -/
def State.markPart (s : State) (a : Axis) (part : HomePart) : State :=
  match (s.axis a).owner with
  | some (.op .home tag) => s.setBody tag (setHomePart a part)
  | _ => s

/-- The axes a lens operation claims (R26). -/
def claimedAxes : LensBody → List Axis
  | .home z f i =>
    (if z = .notNamed then [] else [.zoom]) ++ (if f = .notNamed then [] else [.focus]) ++
      (if i = .notNamed then [] else [.iris])
  | .move a _ _ => [a]
  | .zoom _ _ _ _ _ => [.zoom, .focus]
  | .park _ => [.zoom, .focus, .iris]

/-- Homing of this axis has succeeded. -/
def HomePart.succeeded : HomePart → Bool
  | .found => true
  | .cutWide => true
  | _ => false

/-- The resume mask of a HOME: the named axes whose homing has not succeeded (R31). -/
def resumeMask (z f i : HomePart) : Nat :=
  (if z = .notNamed || z.succeeded then 0 else 1) + (if f = .notNamed || f.succeeded then 0 else 2) +
    (if i = .notNamed || i.succeeded then 0 else 4)

/-- The failure of a lens operation, or none: NO_REFERENCE of a HOME (R31), LOST_STEP of the others (R32, R35, R36). -/
def State.lensFailure (s : State) : LensBody → Option Cause
  | .home z f i => if z = .failed || f = .failed || i = .failed then some .noReference else none
  | .move a _ _ => if (s.axis a).pp = none then some .lostStep else none
  | .zoom _ _ _ _ lost => if lost.isSome then some .lostStep else none
  | .park lost => if lost.isSome then some .lostStep else none

/-- A lens operation has reached its own end (R31, R32, R34, R36; a HOME stopped on the way to the wide end has not, log
16: DEDUCED, unsafe). -/
def State.lensDone (s : State) : LensBody → Bool
  | .home z f i => (z = .notNamed || z = .found) && (f = .notNamed || f = .found) && (i = .notNamed || i = .found)
  | .move a target _ => (s.axis a).pp == some target
  | .zoom _ target _ _ _ => s.ldu.zoom.pp == some target
  | .park _ => s.ldu.zoom.pp == some 0 && s.ldu.focus.pp == some 0 && s.ldu.iris.pp == some 0

/-- The resume operands of a PARTIAL lens operation (R9). -/
def lensResume : LensBody → Resume
  | .home z f i => .home (resumeMask z f i)
  | .move a target _ => .move a target
  | .zoom _ target _ _ _ => .zoom target
  | .park _ => .absent

/-- What the ending of a lens operation reports: class, cause, resume operands (R31, R32, R35, R36). A failure stands
before a stop, and a stop that found the entry WAITING gives SUPPRESSED (R7, R10). -/
def State.lensOutcome (s : State) (o : LensOp) : EndClass × Cause × Resume :=
  match s.lensFailure o.body with
  | some cause => (.terminated, cause, .absent)
  | none =>
    if o.waitStopped then (.suppressed, s.recordedCause o.tag, .absent)
    else if s.lensDone o.body then (.complete, .none, .absent)
    else (.partialEnd, s.recordedCause o.tag, lensResume o.body)

/-- One axis in the result fields of a HOME (R31). -/
def State.homeField (s : State) (a : Axis) (part : HomePart) : HomeField :=
  { named := part != .notNamed, pp := (s.axis a).pp, count := (s.axis a).homingCount }

/-- The result fields of a lens operation (R31, R32, R35, R36). -/
def State.lensFields (s : State) : LensBody → EndFields
  | .home z f i => .home (s.homeField .zoom z) (s.homeField .focus f) (s.homeField .iris i)
  | .move a target clampFlag => .move a (s.axis a).pp clampFlag target s.ldu.d
  | .zoom _ target _ clampFlag lost => .zoom s.ldu.zoom.pp s.ldu.focus.pp lost clampFlag target s.ldu.d
  | .park lost => .park s.ldu.zoom.pp s.ldu.focus.pp s.ldu.iris.pp lost

/-- The ending of a lens operation: d is recomputed at the end of a focus MOVE that is not TERMINATED (R32, R50); OPT
takes the ending and the claims are released (R26). -/
def State.endLensOp (s : State) (o : LensOp) : State :=
  match s.lensOutcome o with
  | (cls, cause, resume) =>
    let t : State :=
      match o.body with
      | .move .focus _ _ => if cls = .terminated then s else { s with ldu := { s.ldu with d := s.backD } }
      | _ => s
    let u := t.ending o.tag cls cause resume none (t.lensFields o.body)
    State.release { u with ldu := { u.ldu with ops := u.ldu.ops.filter fun p => p.tag != o.tag } }
      (claimedAxes o.body)

/-- A lens operation ends when every axis it claims is at rest (R31, R32, R34, R36). -/
def State.checkLensEnd (s : State) (tag : Nat) : State :=
  match s.lensOp tag with
  | none => s
  | some o => if (claimedAxes o.body).all fun a => (s.axis a).atRest then s.endLensOp o else s

/-- A new lens operation, its axes claimed. -/
def State.addLensOp (s : State) (tag : Nat) (kind : OpKind) (body : LensBody) : State :=
  State.claim { s with ldu := { s.ldu with
      ops := s.ldu.ops ++ [{ tag := tag, body := body, waitStopped := false }] } }
    (claimedAxes body) (.op kind tag)

/-- Keep with a lens operation whether its stop found the entry WAITING. -/
def State.markWaitStopped (s : State) (tag : Nat) (waiting : Bool) : State :=
  { s with ldu := { s.ldu with
      ops := s.ldu.ops.map fun o => if o.tag = tag then { o with waitStopped := waiting } else o } }

/-- A STOP or preemption of a lens operation (R31, R32, R35, R36): its axes are halted. A focus on its way to a follow
point of a stopped ZOOM travels on (R35); a ZOOM stopped before its first slot stops at once. -/
def State.stopLensOp (s : State) (tag : Nat) (waiting : Bool) : State :=
  match s.lensOp tag with
  | none => s
  | some o =>
    let axes : List Axis :=
      match o.body with
      | .zoom _ _ _ _ _ => if waiting then [.zoom, .focus] else [.zoom]
      | body => claimedAxes body
    ((axes.foldl (fun t a => t.haltAxis a) (s.markWaitStopped tag waiting)).arbitrate).checkLensEnd tag

/-! ## A completed step (R22, R28, R30, R31) -/

/-- The reference check of R28 at a new PP fails: the flag disagrees 4 or more steps from the reference position. -/
def lostAt (a : Axis) (level : Bool) (p : Nat) : Bool :=
  let ref := referencePosition a
  decide (level ≠ decide (ref < p)) && (decide (ref + 4 ≤ p) || decide (p + 4 ≤ ref))

/-- What a completed step was, for the blocks it is reported to. -/
inductive StepResult where
  | stepped
  | lost
  deriving DecidableEq, Repr

/-- The axis under a HOME's move to the wide end (R31). -/
def State.wideMove (s : State) (a : Axis) : Bool :=
  match (s.axis a).owner with
  | some (.op .home tag) =>
    (match s.lensOp tag with
     | some o => homePart o.body a == .toWide
     | none => false)
  | _ => false

/-- A lens operation that loses a step on an axis keeps the axis, and its other axes stop (R35, R36); of two axes that lose a
step, the first is named (log 61: DESIGN CHOICE, unsafe). -/
def State.lensLost (s : State) (a : Axis) : State :=
  let stopOthers (t : State) (axes : List Axis) : State := axes.foldl (fun u b => if b = a then u else u.haltAxis b) t
  match (s.axis a).owner with
  | some (.op .zoom tag) =>
    stopOthers
      (s.setBody tag fun b =>
        match b with
        | .zoom start target follow clampFlag lost =>
          .zoom start target follow clampFlag (match lost with | some c => some c | none => some a)
        | b => b)
      [.zoom, .focus]
  | some (.op .park tag) =>
    stopOthers
      (s.setBody tag fun b =>
        match b with
        | .park lost => .park (match lost with | some c => some c | none => some a)
        | b => b)
      [.zoom, .focus, .iris]
  | _ => s

/-- A lost step at position `p` (R28), or the failed check of the move to the wide end (R31): PP UNREFERENCED, the
axis settles (or is HELD, after a RESTART) with its target absent (log 60: DESIGN CHOICE, unsafe), ATTENTION is raised, the
axis's homing under a HOME fails, and EXC and STU learn of it (log 27: DEDUCED, unsafe). -/
def State.loseStep (s : State) (a : Axis) (p : Nat) : State :=
  let r := s.axis a
  let u := { r with pp := none, target := none }
  let wide := s.wideMove a
  let t := s.setAxis a (if r.after = .hold then u.hold else u.settle)
  let t := if wide then t.attention (axisSource a) .noReference r.homingCount
           else t.attention (axisSource a) .lostStep p
  let t := t.referenceLost a
  (t.markPart a .failed).lensLost a

/-- A unit of a lens operation has ended; an operation stopped while WAITING has none (R7). An axis already stepping when
the operation claimed it has had no grant, so the entry may still be WAITING (log 13: DEDUCED, unsafe). -/
def State.countLens (s : State) (tag : Nat) : State :=
  match s.lensOp tag with
  | some { waitStopped := true, .. } => s
  | _ => (s.beginUnit tag).countUnit tag

/-- The unit a completed step that was not lost counts for the owning lens operation; under a HOME only a homing step or
a step toward the wide end is one (R30, R31). -/
def State.countStep (s : State) (a : Axis) : State :=
  match (s.axis a).owner with
  | some (.op .move tag) => s.countLens tag
  | some (.op .park tag) => s.countLens tag
  | some (.op .home tag) => if (s.axis a).state = .homing ∨ s.wideMove a = true then s.countLens tag else s
  | some (.op .zoom tag) => if a = .zoom then s.countLens tag else s
  | _ => s

/-- Is the completed zoom step a follow point of the ZOOM that owns it (R34, R35)? -/
def State.isFollowPoint (s : State) (p : Nat) (stopping : Bool) : Bool :=
  match s.ldu.zoom.owner with
  | some (.op .zoom tag) =>
    (match s.lensOp tag with
     | some { body := .zoom start target follow _ none, waitStopped := false, .. } =>
       stopping || p == target || ((if start ≤ p then p - start else start - p) % follow == 0)
     | _ => false)
  | _ => false

/-- The end of a step that was not lost: HELD after a RESTART, SETTLING after a stop or at the target, the next step
otherwise. A HOME stopped in its last step to the wide end has found it (R7). -/
def State.afterStep (s : State) (a : Axis) : State :=
  let r := s.axis a
  match r.after with
  | .hold => s.setAxis a r.hold
  | .settle =>
    let part := if r.pp = some s.wideEnd then HomePart.found else .cutWide
    State.setAxis (if s.wideMove a then s.markPart a part else s) a r.settle
  | .goOn =>
    if r.target = r.pp ∨ r.target = none then
      State.setAxis (if s.wideMove a then s.markPart a .found else s) a r.settle
    else s.beginStep a

/-- A step of a referenced axis completes (R22): PP, the report to FMN, the reference check, and what follows. -/
def State.moveStep (s : State) (a : Axis) : State × StepResult :=
  let r := s.axis a
  let p := if r.stepUp then r.pp.getD 0 + 1 else r.pp.getD 0 - 1
  let t := (s.reportStep a).setAxis a { r with pp := some p }
  if r.homing = .pending then (t.beginHoming a, .stepped)
  else if lostAt a (flagLevel s.ldu.flags a) p then ((t.loseStep a p).arbitrate, .lost)
  else
    let stopping := r.after = .settle
    let u := (t.countStep a).afterStep a
    let u := if a = .zoom ∧ u.isFollowPoint p stopping then u.followPoint else u
    (u.arbitrate, .stepped)

/-- The homing of an axis has found the reference (R30, R31). A wide end that is the reference position leaves the zoom no
step to make: it settles there at once and counts as found (log 78: DESIGN CHOICE, unsafe). -/
def State.homingFound (s : State) (a : Axis) : State :=
  let r := s.axis a
  let found := { r with pp := some (referencePosition a), target := none, homing := .none }
  if a = .zoom ∧ s.otb.state = .valid ∧ r.after = .goOn ∧ s.wideEnd ≠ referencePosition .zoom then
    ((s.setAxis a { found with target := some s.wideEnd }).markPart a .toWide).beginStep a |>.excFound
  else
    let short := decide (a = .zoom ∧ s.otb.state = .valid ∧ s.wideEnd ≠ referencePosition .zoom)
    let t := (s.setAxis a found.settle).markPart a (if short then .cutWide else .found)
    if a = .focus then t else t.excFound

/-- The axis takes a step of its own homing: not one carried past a RESTART for a HOME that waits for its end, or that was
stopped meanwhile. -/
def Homing.begun : Homing → Bool
  | .up => true
  | .down => true
  | _ => false

/-- A homing step completes (R30, log 15: DEDUCED, unsafe). -/
def State.homingStep (s : State) (a : Axis) : State :=
  let r := { s.axis a with homingCount := (s.axis a).homingCount + 1 }
  let high := flagLevel s.ldu.flags a
  let t := (if r.homing.begun then (s.reportStep a).countStep a else s.reportStep a).setAxis a r
  if r.after = .hold then (t.setAxis a r.hold).arbitrate
  else if r.homing = .pending then t.beginHoming a
  else if r.homing.begun = false then (t.setAxis a r.settle).arbitrate
  else if r.homing = .down ∧ high = false then (t.homingFound a).arbitrate
  else if homeLimit a ≤ r.homingCount then
    (((t.setAxis a r.settle).attention (axisSource a) .noReference r.homingCount).markPart a .failed).arbitrate
  else if r.after = .settle then ((t.setAxis a r.settle).markPart a .cut).arbitrate
  else
    let up := r.homing = .up ∧ high = false
    t.setAxis a { r with homing := if up then .up else .down, stepUp := decide up, stepTime := s.stepInterval a }

/-- A step of an axis completes. -/
def State.completeStep (s : State) (a : Axis) : State × StepResult :=
  match (s.axis a).state with
  | .homing => (s.homingStep a, .stepped)
  | _ => s.moveStep a

end Sys2Proof.Machine
end

