-- ==== Sys2Proof/Machine/Buffer.lean ====
section
/-! DEFINITION. The picture buffer (10_picture_buffer_and_intake.md): grants (R161), records (R163), the intake FIFO and
engine (R164 to R167), and the RESTART (R170). -/

namespace Sys2Proof.Machine

/-! ## Records and pages -/

/-- Bytes of a page (R159). -/
def pageBytes : Nat := 65536

/-- Every page a record holds: its page list and its reserved set (R162). -/
def PicRecord.held (r : PicRecord) : List Nat := r.pages ++ r.reserved

/-- The record `State.record` names is freed: its pages return to the pool and it leaves the store queue (R163, log 65: DESIGN
CHOICE, unsafe). -/
def State.freeRecord (s : State) (id : Nat) : State :=
  match s.record id with
  | none => s
  | some r =>
    { s with
        pbf := { s.pbf with freePages := s.pbf.freePages ++ r.held,
                            records := s.pbf.records.erase r },
        csu := { s.csu with queue := s.csu.queue.filter fun p => p != id } }

/-- Every record that a test picks out is freed: their pages return to the pool, in the order of the records (R163, log 11:
DESIGN CHOICE, unsafe). -/
def State.freeRecords (s : State) (p : PicRecord → Bool) : State :=
  { s with pbf := { s.pbf with
      freePages := s.pbf.freePages ++ (s.pbf.records.filter p).flatMap PicRecord.held,
      records := s.pbf.records.filter fun r => !p r } }

/-- Change the record of an id, the one `State.record` names (log 65: DESIGN CHOICE, unsafe). -/
def State.setRecord (s : State) (id : Nat) (f : PicRecord → PicRecord) : State :=
  { s with pbf := { s.pbf with records := updateFirst (fun r => r.id == id) f s.pbf.records } }

/-- A reservation can be granted: a free record entry and R free pages (R161). -/
def State.canGrant (s : State) : Bool :=
  s.pbf.request && decide (s.pbf.records.length < 32) && decide (s.pbf.reserve ≤ s.pbf.freePages.length)

/-- The grant (R161): R pages leave the pool into the reserved set of a new RESERVED record (log 11: DESIGN CHOICE,
unsafe). -/
def State.grant (s : State) (id tag pos : Nat) : State :=
  { s with pbf := { s.pbf with
      request := false,
      freePages := s.pbf.freePages.drop s.pbf.reserve,
      records := s.pbf.records ++
        [{ id := id, tag := tag, pos := pos, state := .reserved, reserved := s.pbf.freePages.take s.pbf.reserve,
           pages := [], length := none, received := 0, shot := none }] } }

/-- The grant request of CSQ is made or withdrawn (R161). -/
def State.setRequest (s : State) (b : Bool) : State := { s with pbf := { s.pbf with request := b } }

/-- Set the state of the intake engine. -/
def State.setEngine (s : State) (e : Engine) : State := { s with pbf := { s.pbf with engine := e } }

/-- The engine drains a count, or seeks when nothing is left (R166, R167). -/
def drainFor (n : Nat) : Engine := if n = 0 then .seek false false else .drain n

/-- CSQ tells PBF to drop the head picture at its intake limit (R166). -/
def State.dropAtLimit (s : State) (id : Nat) : State :=
  match s.record id with
  | none => s
  | some r =>
    if r.state = .filling then (s.freeRecord id).setEngine (drainFor (r.length.getD 0 - r.received))
    else s.freeRecord id

/-! ## The intake FIFO (R164) -/

/-- A byte is lost: it counts in the gap mark after the last byte. -/
def loseByte (fifo : List FifoItem) : List FifoItem :=
  match fifo.getLast? with
  | some (.gap n) => fifo.dropLast ++ [.gap (n + 1)]
  | _ => fifo ++ [.gap 1]

/-- One strobe on ISTB. -/
def State.strobe (s : State) (b : Byte) : State :=
  { s with pbf := { s.pbf with
      fifo := if s.fifoBytes < 4096 then s.pbf.fifo ++ [.byte b] else loseByte s.pbf.fifo } }

/-! ## The intake engine (R164 to R167) -/

/-- What PBF reports to CSQ (R152). -/
inductive IntakeReport where
  | none
  | ended
  | overflow
  deriving DecidableEq, Repr

/-- What the engine makes of the head of the FIFO: the state and the report, or a fault of the model. -/
abbrev EngineStep := Fault ⊕ (State × IntakeReport)

/-- A byte is discarded in SEEK: STRAY once in a run. -/
def State.stray (s : State) (raised : Bool) : State := if raised then s else s.attention .intake .stray 0

/-- A byte taken in SEEK (R164). -/
def State.seekByte (s : State) (afterA5 raised : Bool) (b : Byte) : State :=
  if afterA5 then
    if b = 0xC3#8 then s.setEngine (.header [])
    else (s.stray raised).setEngine (.seek (b == 0xA5#8) true)
  else if b = 0xA5#8 then s.setEngine (.seek true raised)
  else (s.stray raised).setEngine (.seek false true)

/-- The sixth header byte has been taken and the header is judged (R164). -/
def State.judgeHeader (s : State) (h : List Byte) : State × IntakeReport :=
  let id := get2 h 0
  let len := get4 h 2
  if len = 0 then ((s.attention .intake .badLength id).setEngine (.seek false false), .none)
  else if s.csq.pendingIntake.head? ≠ some id then ((s.attention .intake .order id).setEngine (.drain len), .none)
  else
    match s.record id with
    | none => (s.setEngine (.drain len), .overflow)
    | some r =>
      if r.reserved.length * pageBytes < len then ((s.freeRecord id).setEngine (.drain len), .overflow)
      else
        ((s.setRecord id fun q => { q with state := .filling, length := some len, received := 0 }).setEngine
          (.data id), .none)

/-- The picture's last byte has been taken (R165): the unused pages return, the record is COMPLETE and joins the store
queue, and the intake end is reported. -/
def State.completePicture (s : State) (id : Nat) (r : PicRecord) : State :=
  let t := s.setRecord id fun q => { q with state := .complete, reserved := [] }
  { t with
      pbf := { t.pbf with freePages := t.pbf.freePages ++ r.reserved, engine := .seek false false },
      csu := { t.csu with queue := t.csu.queue ++ [id] } }

/-- The record after a byte has been given a place: a new page is drawn when the byte begins one (R165). -/
def PicRecord.draw (r : PicRecord) : Option PicRecord :=
  if r.received % pageBytes = 0 then
    match r.reserved with
    | [] => none
    | p :: rest => some { r with reserved := rest, pages := r.pages ++ [p], received := r.received + 1 }
  else some { r with received := r.received + 1 }

/-- A byte taken in DATA (R165). -/
def State.dataByte (s : State) (id : Nat) (b : Byte) : EngineStep :=
  match s.record id with
  | none => .inl .noReservedPage
  | some r =>
    match r.draw with
    | none => .inl .noReservedPage
    | some q =>
      match q.pages[r.received / pageBytes]? with
      | none => .inl .noSuchPage
      | some page =>
        if 2048 ≤ page then .inl .noSuchPage
        else
          let t := s.setRecord id fun _ => q
          let t : State :=
            { t with pbf := { t.pbf with
                memory := writeCell t.pbf.memory (page * pageBytes + r.received % pageBytes) b } }
          if q.received = r.length.getD 0 then .inr (t.completePicture id q, .ended) else .inr (t, .none)

/-- A gap mark reached in DATA drops the picture for overflow (R166). -/
def State.dataGap (s : State) (id lost : Nat) : State :=
  match s.record id with
  | none => s.setEngine (.seek false false)
  | some r => (s.freeRecord id).setEngine (drainFor (r.length.getD 0 - r.received - lost))

/-- The engine takes a byte. -/
def State.engineByte (s : State) (b : Byte) : EngineStep :=
  match s.pbf.engine with
  | .seek afterA5 raised => .inr (s.seekByte afterA5 raised b, .none)
  | .header bytes =>
    let h := bytes ++ [b]
    if h.length < 6 then .inr (s.setEngine (.header h), .none) else .inr (s.judgeHeader h)
  | .data id => s.dataByte id b
  | .drain n => .inr (s.setEngine (drainFor (n - 1)), .none)

/-- The engine reaches a gap mark (R166, R167). -/
def State.engineGap (s : State) (lost : Nat) : State × IntakeReport :=
  match s.pbf.engine with
  | .seek _ _ => (s, .none)
  | .header _ => ((s.attention .intake .headerLost 0).setEngine (.seek false false), .none)
  | .data id => (s.dataGap id lost, .overflow)
  | .drain n => (s.setEngine (drainFor (n - lost)), .none)

/-- The engine takes what is at the head of the FIFO; with an empty FIFO nothing happens (R164, log 25: DEDUCED,
safe). -/
def State.engineTake (s : State) : EngineStep :=
  match s.pbf.fifo with
  | [] => .inr (s, .none)
  | .byte b :: rest => State.engineByte { s with pbf := { s.pbf with fifo := rest } } b
  | .gap n :: rest => .inr (State.engineGap { s with pbf := { s.pbf with fifo := rest } } n)

/-! ## RESTART (R170) -/

/-- Bytes a FIFO stands for, gap marks included. -/
def fifoCount (fifo : List FifoItem) : Nat :=
  (fifo.map fun i => match i with | .byte _ => 1 | .gap n => n).sum

/-- The intake drained at a RESTART; in SEEK only the FIFO is emptied. -/
def State.drainIntake (s : State) : State :=
  let engine : Engine :=
    match s.pbf.engine with
    | .data id =>
      (match s.record id with
       | some r => drainFor (r.length.getD 0 - r.received - fifoCount s.pbf.fifo)
       | none => .seek false false)
    | .drain n => drainFor (n - fifoCount s.pbf.fifo)
    | .header _ => .seek false false
    | .seek afterA5 raised => .seek afterA5 raised
  { s with pbf := { s.pbf with fifo := [], engine := engine } }

/-- The intake of the record has not ended. -/
def PicRecord.arriving (r : PicRecord) : Bool := r.state == .reserved || r.state == .filling

/-- PBF at a RESTART: the intake drained, RESERVED and FILLING records freed, a grant request withdrawn; the store queue,
which holds no such record (R178), keeps its order. -/
def State.restartPbf (s : State) : State := (s.drainIntake.setRequest false).freeRecords PicRecord.arriving

end Sys2Proof.Machine
end

