-- ==== Sys2Proof/Machine/Operands.lean ====
section
/-! DEFINITION. Operands brought into their ranges: axis setups (R24), metering settings (R71, R72), AF settings (R93),
scan overrides (R96), the leak (R116), program descriptors (R129), context contents (R133), and the settings written back
in the layout their request has (R203). -/

namespace Sys2Proof.Machine

/-! ## Axis setups (R24) -/

/-- The multiple of `unit` nearest to `v`; the larger of two equally near. -/
def nearestMultiple (unit v : Nat) : Nat := unit * ((2 * v + unit) / (2 * unit))

/-- Step interval range of an axis (R19). -/
def intervalRange : Axis → Nat × Nat
  | .zoom => (250, 4000)
  | .focus => (100, 2000)
  | .iris => (500, 4000)

/-- The nearest allowed step interval: the axis's range, in 50 µs units. -/
def bringInterval (a : Axis) (v : Nat) : Nat := bring (intervalRange a).1 (intervalRange a).2 (nearestMultiple 50 v)

/-- The nearest allowed energize or settle time: 0..30 ms in 2 ms units. -/
def bringTime (v : Nat) : Nat := bring 0 30 (nearestMultiple 2 v)

/-- The nearest allowed hold-release time: 0, or 16..240 ms in 16 ms units. -/
def bringHold (v : Nat) : Nat := bring 0 240 (nearestMultiple 16 v)

/-- The setup an AXIS-SET takes (R24). -/
def bringSetup (a : Axis) (interval energize settle hold : Nat) : Setup :=
  { interval := bringInterval a interval, energize := bringTime energize, settle := bringTime settle,
    hold := bringHold hold }

/-! ## Metering settings (R71) -/

/-- The knee against Tv_max electronic and the floor against the knee (R71, R72). -/
def MeterSettings.fit (m : MeterSettings) (tvMax : Nat) : MeterSettings :=
  let knee := bring 160 tvMax m.knee
  { m with knee := knee, tvFloor := min m.tvFloor knee }

/-- The settings a METER-SET takes, its two codes known (R71). -/
def bringMeter (m : MeterOperands) (mode : MeterMode) (rounding : Rounding) (tvMax : Nat) : MeterSettings :=
  MeterSettings.fit
    { mode := mode, weights := m.weights.map (min 15), target := bring 64 2048 m.target,
      highlight := min 48 m.highlight, compensation := bringInt (-96) 96 m.compensation,
      convergence := bring 1 8 m.convergence, rounding := rounding, gvMax := min 192 m.gvMax / 4 * 4, knee := m.knee,
      tvFloor := m.tvFloor } tvMax

/-- The field number of a bad code of metering operands (R71), the mode's when both are bad (log 62: DESIGN CHOICE, unsafe), or
the settings taken. -/
def takeMeter (m : MeterOperands) (tvMax : Nat) : Nat ⊕ MeterSettings :=
  match meterModeOf m.mode with
  | none => .inl 1
  | some mode =>
    match roundingOf m.rounding with
    | none => .inl 7
    | some rounding => .inr (bringMeter m mode rounding tvMax)

/-- Metering settings as METER-SET's operands carry them. -/
def meterOperands (m : MeterSettings) : MeterOperands :=
  { mode := meterModeCode m.mode, weights := m.weights, target := m.target, highlight := m.highlight,
    compensation := m.compensation, convergence := m.convergence, rounding := roundingCode m.rounding, gvMax := m.gvMax,
    knee := m.knee, tvFloor := m.tvFloor }

/-! ## AF settings (R93) -/

/-- The upper end of the threshold and minimum ranges (R92). -/
def contrastLimit : Nat := 83886075

/-- A window mask: bits above window 4 dropped, 0 taken as 1. -/
def bringMask (m : Nat) : Nat := if m % 32 = 0 then 1 else m % 32

/-- The settings an AF-SET takes, its codes known (R93). -/
def bringAf (a : AfOperands) (condition : FocusCondition) (span : Span) (hold : HoldMode) : AfSettings :=
  { mask := bringMask a.mask, step := bring 1 64 a.step, condition := condition, fall := bring 1 8 a.fall,
    threshold := min contrastLimit a.threshold, minimum := min contrastLimit a.minimum, skip := a.skip != 0,
    span := span, hold := hold }

/-- The field number of a bad code of AF operands (R93), the first where several are bad (log 62: DESIGN CHOICE, unsafe), or
the settings taken. -/
def takeAf (a : AfOperands) : Nat ⊕ AfSettings :=
  match focusConditionOf a.condition with
  | none => .inl 3
  | some condition =>
    match spanOf a.span with
    | none => .inl 8
    | some span =>
      match holdModeOf a.hold with
      | none => .inl 9
      | some hold => .inr (bringAf a condition span hold)

/-- AF settings as AF-SET's operands carry them. -/
def afOperands (a : AfSettings) : AfOperands :=
  { mask := a.mask, step := a.step, condition := focusConditionCode a.condition, fall := a.fall,
    threshold := a.threshold, minimum := a.minimum, skip := flagCode a.skip, span := spanCode a.span,
    hold := holdModeCode a.hold }

/-- The settings in force of a scan (R97, step 1): the live ones with the overrides in their place, brought as AF-SET
brings them. `condition` is the override's code, known to be in its list (R96). -/
def overrideAf (live : AfSettings) (o : ScanOperands) : AfSettings :=
  { mask := (o.mask.map bringMask).getD live.mask,
    step := (o.step.map (bring 1 64)).getD live.step,
    condition := ((o.condition.bind focusConditionOf)).getD live.condition,
    fall := (o.fall.map (bring 1 8)).getD live.fall,
    threshold := (o.threshold.map (min contrastLimit)).getD live.threshold,
    minimum := (o.minimum.map (min contrastLimit)).getD live.minimum,
    skip := (o.skip.map (· != 0)).getD live.skip,
    span := live.span, hold := live.hold }

/-! ## Steadying (R116) -/

/-- The leak L, 8..14. -/
def bringLeak (v : Nat) : Nat := bring 8 14 v

/-! ## Programs (R128, R129) -/

/-- The count lies in the set its kind allows. -/
def countAllowed (kind : ProgramKind) (n : Nat) : Bool :=
  match kind with
  | .single => n == 1
  | .burst => decide (2 ≤ n ∧ n ≤ 30)
  | .bracket => n == 3 || n == 5 || n == 7

/-- The field number of the first field of a PROGRAM-SET that fails its check (R129), or the descriptor. -/
def takeProgram (o : ProgramOperands) : Nat ⊕ Program :=
  match programKindOf o.kind with
  | none => .inl 2
  | some kind =>
    if o.mask < 1 ∨ 3 < o.mask then .inl 3
    else if countAllowed kind o.count = false then .inl 4
    else if kind = .bracket ∧ (o.step < 8 ∨ 96 < o.step) then .inl 5
    else if 30 < o.interval then .inl 6
    else if 1 < o.between then .inl 7
    else if 1 < o.focusFirst then .inl 8
    else
      .inr { kind := kind, mask := o.mask, count := o.count, step := if kind = .bracket then some o.step else none,
             interval := o.interval, refine := o.between == 1, focusFirst := o.focusFirst == 1 }

/-! ## Contexts (R133) -/

/-- The detail of the first bad code of a CONTEXT-SET: 16 times the group number plus the field number. -/
def contextCodeFault (o : ContextOperands) : Option Nat :=
  if (contextKindOf o.kind).isNone then some 16
  else if (meterModeOf o.meter.mode).isNone then some 33
  else if (roundingOf o.meter.rounding).isNone then some 39
  else if (focusConditionOf o.af.condition).isNone then some 51
  else if (spanOf o.af.span).isNone then some 56
  else if (holdModeOf o.af.hold).isNone then some 57
  else if (steadyModeOf o.mode).isNone then some 65
  else none

/-- The slot a CONTEXT-SET writes, its codes known: every value in range, AVAILABLE, no back link (R133). -/
def bringContext (o : ContextOperands) (tvMax : Nat) : Slot :=
  { status := .available, kind := (contextKindOf o.kind).getD .still, link := none, zoomStep := min 2600 o.zoomStep,
    d := min 1024 o.d, x := o.x.map (bringInt (-160) 638),
    meter := bringMeter o.meter ((meterModeOf o.meter.mode).getD .matrix)
      ((roundingOf o.meter.rounding).getD .nearest) tvMax,
    af := bringAf o.af ((focusConditionOf o.af.condition).getD .peak) ((spanOf o.af.span).getD .full)
      ((holdModeOf o.af.hold).getD .stay),
    mode := (steadyModeOf o.mode).getD .off, leak := bringLeak o.leak,
    interval := o.interval.map (bringInterval .zoom) }

/-- A slot's contents as CONTEXT-SET's operands carry them. -/
def contextOperands (i : Nat) (c : Slot) : ContextOperands :=
  { slot := i, kind := contextKindCode c.kind, zoomStep := c.zoomStep, d := c.d, x := c.x, meter := meterOperands c.meter,
    af := afOperands c.af, mode := steadyModeCode c.mode, leak := c.leak, interval := c.interval }

end Sys2Proof.Machine
end

