-- ==== Sys2Proof/Machine/Exposure.lean ====
section
/-! DEFINITION. The exposure computer (05_exposure_computation.md): zone weights (R73), metering and convergence (R75 to
R80), the program split (R81 to R83), the issue at a frame start (R84 to R87), and the lock (R69). -/

namespace Sys2Proof.Machine

/-! ## Zone weights (R73) -/

/-- The four zones of a focus window. -/
def windowZones : Nat → List Nat
  | 0 => [19, 20, 27, 28]
  | 1 => [17, 18, 25, 26]
  | 2 => [21, 22, 29, 30]
  | 3 => [3, 4, 11, 12]
  | _ => [35, 36, 43, 44]

/-- The weight of a zone under the mode in force. -/
def zoneWeight (m : MeterSettings) (window z : Nat) : Nat :=
  let matrix := m.weights.getD z 0
  match m.mode with
  | .matrix => matrix
  | .center =>
    if (windowZones 0).contains z then 4
    else if [10, 11, 12, 13, 18, 21, 26, 29, 34, 35, 36, 37].contains z then 2
    else 1
  | .spot => if (windowZones 0).contains z then 1 else 0
  | .focusLinked => if (windowZones window).contains z then 4 * matrix else matrix

/-- The sum of the weights of the 48 zones (R76). -/
def weightSum (m : MeterSettings) (window : Nat) : Nat := ((List.range 48).map (zoneWeight m window)).sum

/-- The weighted mean of the zone values (R76); the caller has a weight sum above 0. -/
def zoneMean (m : MeterSettings) (window : Nat) (zones : List Nat) : Nat :=
  ((List.range 48).map fun z => zoneWeight m window z * zones.getD z 0).sum / weightSum m window

/-- The weighted zones at 4095 (R76). -/
def clippedZones (m : MeterSettings) (window : Nat) (zones : List Nat) : Nat :=
  ((List.range 48).filter fun z => zones.getD z 0 == 4095 && decide (0 < zoneWeight m window z)).length

/-- The error E of a record: brightness against the target, and the highlight limit (R76). -/
def meterError (m : MeterSettings) (window : Nat) (zones : List Nat) : Int :=
  let clipped := clippedZones m window zones
  (lg (zoneMean m window zones) : Int) - lg m.target +
    (if m.highlight < clipped then min 64 (8 * (clipped - m.highlight)) else 0 : Nat)

/-! ## Lens limits (R80, R81) -/

/-- Av_lo: the open aperture at the zoom PP. -/
def State.avLow (s : State) : Int := s.reading (·.avOpen) s.zoomStep

/-- Av_hi = min(Av_lo + 96, Av_cap). -/
def State.avHigh (s : State) : Int := min (s.avLow + 96) s.otb.glob.avCap

/-- The lower live bound of X (R80). -/
def State.lowerBound (s : State) : Int := s.avLow + s.exc.live.tvFloor - s.exc.live.gvMax

/-- The upper live bound of X (R80). -/
def State.upperBound (s : State) : Int := s.avHigh + s.otb.glob.tvMaxElectronic

/-- X_current takes a value brought into the live bounds, and the clamp state follows (R80). -/
def State.setX (s : State) (x : Int) : State :=
  if s.upperBound < x then
    { s with exc := { s.exc with x := some s.upperBound, clamp := .over (x - s.upperBound).toNat } }
  else if x < s.lowerBound then
    { s with exc := { s.exc with x := some s.lowerBound, clamp := .under (s.lowerBound - x).toNat } }
  else { s with exc := { s.exc with x := some x, clamp := .none } }

/-! ## Metering (R75 to R79) -/

/-- The convergence step for ΔX (R79). -/
def convergenceStep (m : MeterSettings) (delta : Int) : Int :=
  if delta.natAbs ≤ 2 then 0 else bringInt (-64) 64 (roundEighths m.rounding (delta * m.convergence))

/-- The ring entry of a serial. -/
def State.expEntry (s : State) (serial : Nat) : Option ExpEntry := s.exc.ring.find? fun e => e.serial == serial

/-- X_target of a record under a ring entry, with the linked window in force (R77). -/
def State.meterTarget (s : State) (window : Nat) (e : ExpEntry) (zones : List Nat) : Int :=
  e.x + meterError s.exc.live window zones - s.exc.live.compensation

/-- A target is taken: convergence (R79) and, at the first result, a pending lock becomes held (R69). The flag tells that
EXC reports "locked". -/
def State.converge (s : State) (target : Int) : State × Bool :=
  let t : State := { s with exc := { s.exc with latest := some target } }
  match s.excState with
  | .noResult =>
    let u := t.setX target
    (match u.exc.lock, u.exc.x with
     | .pending, some x => ({ u with exc := { u.exc with lock := .held x } }, true)
     | _, _ => (u, false))
  | .running =>
    (match s.exc.x with
     | some x => (t.setX (x + convergenceStep s.exc.live (target - x)), false)
     | none => (t, false))
  | _ => (t, false)

/-- EXC meters in RUNNING, LOCKED and NO_RESULT (R67, R75). -/
def ExcState.meters : ExcState → Bool
  | .running => true
  | .locked => true
  | .noResult => true
  | _ => false

/-- EXC takes an offered record (R75). -/
def State.excOffer (s : State) (r : FrameRec) : State × Bool :=
  if s.excState.meters then
    match r.serial.bind s.expEntry with
    | none => (s, false)
    | some e =>
      if weightSum s.exc.live s.exc.window = 0 then (s, false)
      else s.converge (s.meterTarget s.exc.window e r.zones)
  else (s, false)

/-! ## The program split (R81 to R83) -/

/-- The hand-hold relief: 96 when STU is ACTIVE and the recent frames are steady (R81, R124). -/
def State.relief (s : State) : Nat := if s.stu.state = .active ∧ s.recentlyUnsteady = false then 96 else 0

/-- Steps 1 to 3 of R82: Av, Tv and Gv of an X. -/
def splitSteps (avLo avHi : Int) (knee hold : Int) (rounding : Rounding) (gvMax : Nat) (x : Int) : Int × Int × Int :=
  let tv := x - avLo
  if knee < tv then
    let av := min avHi (avLo + (tv - knee))
    (av, x - av, 0)
  else if tv < hold then
    let gv := bringInt 0 gvMax (roundGain rounding (min gvMax (hold - tv)))
    (avLo, x - avLo + gv, gv)
  else (avLo, tv, 0)

/-- The split's end: Tv brought into the floor in force..Tv_hi, and the clamp report (R83). -/
def splitEnd (floor tvHi : Int) : Int × Int × Int → Split
  | (av, tv, gv) =>
    if tvHi < tv then { av := av, tv := tvHi, gv := gv, x := av + tvHi - gv, clamp := .over (tv - tvHi).toNat }
    else if tv < floor then { av := av, tv := floor, gv := gv, x := av + floor - gv, clamp := .under (floor - tv).toNat }
    else { av := av, tv := tv, gv := gv, x := av + tv - gv, clamp := .none }

/-- The program split of an X with an upper time limit, at the zoom PP of this moment (R81 to R83). -/
def State.split (s : State) (tvHi : Nat) (x : Int) : Split :=
  let m := s.exc.live
  let floor : Int := min m.tvFloor tvHi
  let knee : Int := min m.knee tvHi
  let hand : Int := max 0 ((lg (s.reading (·.equiv) s.zoomStep).toNat : Int) - s.relief)
  splitEnd floor tvHi (splitSteps s.avLow s.avHigh knee (max floor (min hand knee)) m.rounding m.gvMax x)

/-! ## Issue at a frame start (R84 to R87) -/

/-- The X a frame start uses: X_current, X_locked, or the start value Av_lo + 192 in the bounds (R85). -/
def State.issueX (s : State) : Option Int :=
  match s.excState with
  | .running => s.exc.x
  | .locked => s.xLocked
  | .noResult => some (bringInt s.lowerBound s.upperBound (s.avLow + 192))
  | _ => none

/-- The setting formed at a frame start, with the aperture the iris holds (R85); its serial is the next one. -/
def State.formSetting (s : State) (x : Int) (sp : Split) : ExpEntry :=
  let av := s.avLow + (s.ldu.iris.pp.getD 0 : Nat)
  let tv := bringInt s.exc.live.tvFloor s.otb.glob.tvMaxElectronic (x - av + sp.gv)
  { serial := s.exc.nextSerial, x := av + tv - sp.gv, av := av, tv := tv, gv := sp.gv }

/-- The EXPOSURE notice of a ring entry with EXC's clamp state (R87). -/
def State.exposureNotice (s : State) (e : ExpEntry) : Notice :=
  .exposure e.serial e.tv e.av e.gv (exposureTime e.tv.toNat) s.exc.clamp

/-- An EXPOSURE is placed and its clamp state remembered (R87). -/
def State.sendExposure (s : State) (e : ExpEntry) : State :=
  let t := s.placeExposure (s.exposureNotice e)
  { t with exc := { t.exc with sent := s.exc.clamp } }

/-- Two settings agree in Av, Tv and Gv. -/
def sameSetting (a b : ExpEntry) : Bool := a.av == b.av && a.tv == b.tv && a.gv == b.gv

/-- A new setting takes its serial and enters the history ring of eight (R86), and an EXPOSURE is placed. -/
def State.issue (s : State) (e : ExpEntry) : State :=
  let ring := s.exc.ring ++ [e]
  State.sendExposure
    { s with exc := { s.exc with ring := ring.drop (ring.length - 8), nextSerial := nextNumber s.exc.nextSerial } } e

/-- The setting is issued when it differs from the newest of the ring or the ring is empty; otherwise only a changed clamp
state is sent (R85, R87), its amounts compared before the cut to 255 of R80 (log 58: DEDUCED, unsafe). -/
def State.issueOrKeep (s : State) (e : ExpEntry) : State :=
  match s.exc.ring.getLast? with
  | none => s.issue e
  | some newest =>
    if sameSetting newest e = false then s.issue e
    else if s.exc.clamp ≠ s.exc.sent then s.sendExposure newest
    else s

/-- EXC takes a frame start (R84, R85). -/
def State.excFrame (s : State) : State :=
  match s.issueX with
  | none => s
  | some x =>
    let sp := s.split s.otb.glob.tvMaxElectronic x
    let t := if s.excState = .locked then s else (s.writeIris (sp.av - s.avLow).toNat .exc).1
    t.issueOrKeep (s.formSetting x sp)

/-! ## The lock (R69) -/

/-- CSQ asks for the lock; the flag tells that EXC reports "locked" in this event. -/
def State.requestLock (s : State) : State × Bool :=
  match s.exc.lock with
  | .none =>
    (match s.exc.x with
     | some x => ({ s with exc := { s.exc with lock := .held x } }, true)
     | none => ({ s with exc := { s.exc with lock := .pending } }, false))
  | _ => (s, false)

/-- CSQ gives the lock up. -/
def State.giveUpLock (s : State) : State := { s with exc := { s.exc with lock := .none } }

end Sys2Proof.Machine
end

