-- ==== Sys2Proof/Machine/Focus.lean ====
section
/-! DEFINITION. The focus search unit (06_focus_search.md): fixing a scan (R97), its units (R98, R99), the comparisons
(R94, R100 to R102), the final travel (R103), stops and failures (R104 to R106) and refines (R109). Each function answers
what FSU hands its user, which Arrivals.lean delivers. -/

namespace Sys2Proof.Machine

/-! ## Reports -/

/-- What a scan hands its user at its end (R103, R107); `next` is the start of a reissue. -/
structure ScanEnd where
  user : ScanUser
  cls : EndClass
  cause : Cause
  result : Option ScanResult
  fields : ScanFields
  next : Option Nat
  deriving DecidableEq, Repr

/-- A refine's report to CSQ with its data: the final PP, V_best and the count of positions evaluated, or the PP of the
failed wait (R109). -/
inductive RefineReport where
  | refined (pp vBest count : Nat)
  | noStats (pp : Nat)
  | lostStep
  | unreferenced
  deriving DecidableEq, Repr

/-- What FSU reports in an event. -/
inductive FsuReport where
  | none
  | ended (e : ScanEnd)
  | refine (r : RefineReport)
  deriving DecidableEq, Repr

/-! ## Fixing a scan (R97) -/

/-- The plan of a scan from its settings in force and its given start and end. -/
def State.planScan (s : State) (settings : AfSettings) (start stop : Option Nat) : ScanPlan :=
  let pp := s.ldu.focus.pp.getD 0
  let ends : Nat × Nat :=
    match start, stop with
    | some a, some b => (min 1600 a, min 1600 b)
    | _, _ =>
      match settings.span with
      | .full => ((s.reading (·.fInf) s.zoomStep).toNat, (s.reading (·.fNear) s.zoomStep).toNat)
      | .near => (pp - 64, min 1600 (pp + 64))
  let up := decide (ends.1 ≤ ends.2)
  let count := (if up then ends.2 - ends.1 else ends.1 - ends.2) / settings.step + 1
  let pulled := decide (256 < count)
  { settings := settings, start := ends.1,
    stop := if pulled then (if up then ends.1 + 255 * settings.step else ends.1 - 255 * settings.step) else ends.2,
    up := up, planned := min 256 count,
    clampFlag := decide (1600 < start.getD 0) || decide (1600 < stop.getD 0), countFlag := pulled }

/-- The five positions of a refine about a centre, brought into 0..1600, equal neighbours left out (R109). -/
def refinePositions (step centre : Nat) : List Nat :=
  let rows := [centre - 2 * step, centre - step, centre, min 1600 (centre + step), min 1600 (centre + 2 * step)]
  rows.foldl (fun l p => if l.getLast? = some p then l else l ++ [p]) []

/-- The plan of a refine: the live settings, every eligible marked record skipped (R109). -/
def refinePlan (live : AfSettings) (positions : List Nat) : ScanPlan :=
  { settings := { live with skip := true }, start := positions.head?.getD 0, stop := positions.getLast?.getD 0,
    up := true, planned := positions.length, clampFlag := false, countFlag := false }

/-- The position of an index (R98, R109). -/
def Scan.position (c : Scan) (i : Nat) : Nat :=
  match c.user with
  | .refine _ positions => positions.getD i 0
  | _ => if c.plan.up then c.plan.start + i * c.plan.settings.step else c.plan.start - i * c.plan.settings.step

/-! ## The context -/

/-- Write the scan context. -/
def State.setScan (s : State) (c : Option Scan) : State := { s with fsu := { s.fsu with scan := c } }

/-- The operation table entry of a scan's user: a SCAN, or the PREPARE in progress (R108). -/
def State.scanTag (s : State) : ScanUser → Option Nat
  | .scan tag _ => some tag
  | .prepare => (s.entryOfKind .prepare).map (·.tag)
  | _ => none

/-- The user's entry learns that the first unit begins. -/
def State.beginScanUnit (s : State) (c : Scan) : State :=
  match s.scanTag c.user with
  | some tag => s.beginUnit tag
  | none => s

/-- The user's entry counts a unit. -/
def State.countScanUnit (s : State) (c : Scan) : State :=
  match s.scanTag c.user with
  | some tag => s.countUnit tag
  | none => s

/-- The result fields of R107; d is LDU's d now. -/
def State.scanFields (s : State) (c : Scan) (window : Option Nat) : ScanFields :=
  { finalPP := s.ldu.focus.pp, start := c.plan.start, stop := c.plan.stop, clampFlag := c.plan.clampFlag,
    countFlag := c.plan.countFlag, best := c.best.map fun b => (b.pos, b.value), rise := c.rise, window := window,
    d := s.ldu.d }

/-- A scan ends: the context is emptied and its user is told. -/
def State.finishScan (s : State) (c : Scan) (cls : EndClass) (cause : Cause) (result : Option ScanResult)
    (window next : Option Nat) : State × FsuReport :=
  (s.setScan none,
    .ended { user := c.user, cls := cls, cause := cause, result := result, fields := s.scanFields c window,
             next := next })

/-- The back computation at the focus PP where a scan ends (R103, R104). -/
def State.recomputeD (s : State) : State := { s with ldu := { s.ldu with d := s.backD } }

/-- A lost step on focus during a scan or a refine (R106, R109). -/
def State.scanLost (s : State) (c : Scan) : State × FsuReport :=
  match c.user with
  | .refine _ _ => (s.setScan none, .refine .lostStep)
  | _ => s.finishScan c .terminated .lostStep none none none

/-! ## Travel (R98, R103) -/

/-- The window of the mask whose value is largest, the lower on a tie (R103). -/
def linkedWindow : List (Nat × Nat) → Option Nat
  | [] => none
  | (w, v) :: rest => some (rest.foldl (fun b x => if b.2 < x.2 then x else b) (w, v)).1

/-- The settle mark: the frame number of the open record, or none (R98). -/
def State.settleMark (s : State) : Option Nat := s.openRecord.map (·.number)

/-- Arrival at the position of a unit: the settle mark is taken and FRAME_WAIT entered (R98). -/
def State.enterFrameWait (s : State) (c : Scan) : State :=
  s.setScan (some { c with phase := .frameWait, mark := s.settleMark, waitCount := 0 })

/-- Arrival at the final position (R103, R105, R109). -/
def State.finalArrival (s : State) (c : Scan) : State × FsuReport :=
  match c.goal with
  | some (.complete result windows) =>
    let t := (s.countScanUnit c).recomputeD
    let window := if result = .lowContrast then none else linkedWindow windows
    let u := match window with
      | some w => { t with exc := { t.exc with window := w } }
      | none => t
    u.finishScan c .complete .none (some result) window none
  | some (.nullified cause) => s.recomputeD.finishScan c .nullified cause none none (some c.p)
  | some .refined =>
    (s.setScan none,
      .refine (.refined (s.ldu.focus.pp.getD c.p) ((c.best.map (·.value)).getD 0) (c.index + 1)))
  | none => (s.setScan (some c), .none)

/-- Focus is given the final position (R102, R105). -/
def State.travelFinal (s : State) (c : Scan) (pos : Nat) (goal : ScanGoal) : State × FsuReport :=
  let d := { c with phase := .finalTravel, goal := some goal }
  match s.giveTarget .focus pos with
  | (t, .arrived) => t.arbitrate.finalArrival d
  | (t, .underway) => ((t.setScan (some d)).arbitrate, .none)
  | (t, .unreferenced) => t.scanLost c

/-- A unit begins: focus is given the position of an index (R98). The first unit begins here only when the focus PP
already equals the start (log 42: DEDUCED, unsafe). A focus that is UNREFERENCED by then ends the scan as a lost step
does (log 52: DEDUCED, unsafe). -/
def State.travelUnit (s : State) (c : Scan) (i : Nat) : State × FsuReport :=
  let d := { c with index := i, p := c.position i, phase := .travel }
  match s.giveTarget .focus (c.position i) with
  | (t, .arrived) =>
    let e := { d with begun := true }
    let u := if c.begun then t else t.beginScanUnit e
    (u.arbitrate.enterFrameWait e, .none)
  | (t, .underway) =>
    if c.begun = false ∧ s.ldu.focus.pp = some d.p then
      let e := { d with begun := true }
      ((((t.beginScanUnit e).setScan (some e)).arbitrate), .none)
    else ((t.setScan (some d)).arbitrate, .none)
  | (t, .unreferenced) => t.scanLost c

/-- A scan starts: the context is filled and focus is given the start (R97, step 4); until the first arrival there is no
settle mark and the wait count is 0 (log 51: DESIGN CHOICE, unsafe). -/
def State.startScan (s : State) (user : ScanUser) (plan : ScanPlan) : State × FsuReport :=
  s.travelUnit
    { user := user, plan := plan, index := 0, p := plan.start, begun := false, phase := .travel, mark := none,
      waitCount := 0, best := none, rise := 0, stop := none, goal := none } 0

/-- The step an axis record had in progress leads toward a position (R22). -/
def AxisRec.stepsToward (r : AxisRec) (v : Nat) : Bool :=
  match r.pp with
  | some p => if r.stepUp then decide (p < v) else decide (v < p)
  | none => false

/-- A focus step has completed, `r` being the axis as it stood before: the first step of a scan toward its start begins the
first unit (R97, R98). -/
def State.scanStepped (s : State) (r : AxisRec) : State :=
  match s.fsu.scan with
  | some c =>
    if c.begun = true ∨ r.stepsToward c.p = false then s
    else State.setScan (s.beginScanUnit c) (some { c with begun := true })
  | none => s

/-- LDU reports arrival of the focus axis (R98, R103). -/
def State.scanArrived (s : State) : State × FsuReport :=
  match s.fsu.scan with
  | none => (s, .none)
  | some c =>
    match c.phase with
    | .travel => (s.enterFrameWait c, .none)
    | .frameWait => (s, .none)
    | .finalTravel => s.finalArrival c

/-! ## Comparisons (R94, R100 to R102) -/

/-- The contrast value of each window in the mask (R94). -/
def windowValues (mask : Nat) (contrasts : List Nat) : List (Nat × Nat) :=
  ((List.range 5).filter fun w => mask.testBit w).map fun w => (w, contrasts.getD w 0)

/-- The figure V (R94). -/
def figure (values : List (Nat × Nat)) : Nat := (values.map (·.2)).sum

/-- The best after a figure (steps 1 and 2 of R100); the flag tells that it was replaced or first set. -/
def Scan.update (c : Scan) (v : Nat) (values : List (Nat × Nat)) : Scan × Bool :=
  match c.best with
  | none => ({ c with best := some { value := v, pos := c.p, windows := values } }, true)
  | some b =>
    if b.value < v then
      ({ c with best := some { value := v, pos := c.p, windows := values }, rise := min 255 (c.rise + 1) }, true)
    else (c, false)

/-- The PEAK hit test of R100, step 3, on a figure that did not replace the best. -/
def Scan.peakHit (c : Scan) (v : Nat) : Option (Nat × List (Nat × Nat)) :=
  match c.best with
  | none => none
  | some b =>
    if 2 ≤ c.rise ∧ v * 16 < b.value * (16 - c.plan.settings.fall) ∧ c.plan.settings.minimum ≤ b.value then
      some (b.pos, b.windows)
    else none

/-- The final position and window values of a hit, under the scan's condition (R100, R101). -/
def Scan.hit (c : Scan) (replaced : Bool) (v : Nat) (values : List (Nat × Nat)) : Option (Nat × List (Nat × Nat)) :=
  match c.user, c.plan.settings.condition with
  | .refine _ _, _ => none
  | _, .above => if c.plan.settings.threshold ≤ v then some (c.p, values) else none
  | _, .peak => if replaced then none else c.peakHit v

/-- The focus step F(z, 0) (R102): read at the zoom PP, or a fresh free value while no reading is made (log 18: DESIGN
CHOICE, safe). -/
def State.infinityStep (s : State) : State × Nat :=
  if s.lensGeometry then (s, (s.reading (·.fInf) s.zoomStep).toNat)
  else (s.drawFree, min 1600 (Config.unreadFocusStep s.freeCount))

/-- The positions have run out (R102, R109). -/
def State.positionsOut (s : State) (c : Scan) : State × FsuReport :=
  let enough := decide (c.plan.settings.minimum ≤ (c.best.map (·.value)).getD 0)
  let bestPos := (c.best.map (·.pos)).getD c.p
  match c.user with
  | .refine centre _ => s.travelFinal c (if enough then bestPos else centre) .refined
  | _ =>
    if enough then
      s.travelFinal c bestPos (.complete .notSatisfied ((c.best.map (·.windows)).getD []))
    else
      let (t, pos) := s.infinityStep
      t.travelFinal c pos (.complete .lowContrast [])

/-- A usable record is compared in the offer event (R100 to R102, R104). -/
def State.compareRecord (s : State) (c : Scan) (r : FrameRec) : State × FsuReport :=
  let values := windowValues c.plan.settings.mask r.contrasts
  let v := figure values
  let (d, replaced) := c.update v values
  match d.hit replaced v values with
  | some (pos, windows) => s.travelFinal d pos (.complete .hit windows)
  | none =>
    if d.plan.planned ≤ d.index + 1 then s.positionsOut d
    else
      let t := s.countScanUnit d
      match d.stop with
      | some cause =>
        t.recomputeD.finishScan d .partialEnd (stopCauseOf cause) none none (some (d.position (d.index + 1)))
      | none => t.travelUnit d (d.index + 1)

/-! ## The wait for a frame (R64, R99, R105) -/

/-- Place of a frame number in the ring. -/
def framePlace (ring : List FrameRec) (n : Nat) : Option Nat := ring.findIdx? fun r => r.number == n

/-- A record was opened after the settle mark, by position in the ring (R64, R99). -/
def State.afterMark (s : State) (mark : Option Nat) (n : Nat) : Bool :=
  match mark.bind (framePlace s.fmn.ring) with
  | none => true
  | some i =>
    match framePlace s.fmn.ring n with
    | some j => decide (i < j)
    | none => false

/-- A record is marked for focus (R64). -/
def FrameRec.marked (r : FrameRec) : Bool := r.expChanged || r.unsteady || r.hostMark

/-- A wait fails (R105, R109). -/
def State.waitFails (s : State) (c : Scan) (cause : Cause) : State × FsuReport :=
  match c.user with
  | .refine _ _ => (s.setScan none, .refine (.noStats (s.ldu.focus.pp.getD c.p)))
  | _ =>
    match c.plan.settings.hold, c.best with
    | .best, some b => s.travelFinal c b.pos (.nullified cause)
    | _, _ => s.recomputeD.finishScan c .nullified cause none none (some c.p)

/-- FSU takes an offered record (R99). -/
def State.fsuOffer (s : State) (r : FrameRec) : State × FsuReport :=
  match s.fsu.scan with
  | none => (s, .none)
  | some c =>
    if c.phase = .frameWait ∧ r.movingFocus = false ∧ s.afterMark c.mark r.number = true then
      if r.marked then
        if c.plan.settings.skip then (s, .none) else s.waitFails c .markedFrame
      else s.compareRecord c r
    else (s, .none)

/-- The wait limit: 8 records, or 4 in a refine (R99, R109). -/
def Scan.waitLimit (c : Scan) : Nat :=
  match c.user with
  | .refine _ _ => 4
  | _ => 8

/-- This frame start would bring the wait count of the scan to its limit: its closed record was opened after the mark. -/
def State.waitExpires (s : State) (closed : Option Nat) : Bool :=
  match s.fsu.scan, closed with
  | some c, some n =>
    c.phase == .frameWait && s.afterMark c.mark n && decide (c.waitLimit ≤ c.waitCount + 1)
  | _, _ => false

/-- FSU takes a frame start, after the offer held by the closed record (R99, log 10: DEDUCED, safe). -/
def State.fsuFrame (s : State) (closed : Option Nat) : State × FsuReport :=
  match s.fsu.scan, closed with
  | some c, some n =>
    if c.phase = .frameWait ∧ s.afterMark c.mark n = true then
      let d := { c with waitCount := c.waitCount + 1 }
      if c.waitLimit ≤ d.waitCount then State.waitFails (s.setScan (some d)) d .noStats
      else (s.setScan (some d), .none)
    else (s, .none)
  | _, _ => (s, .none)

/-! ## Stops (R104) -/

/-- A stop reaches the scan: a WAITING one ends SUPPRESSED, a RUNNING one carries its unit to its end (log 39:
DEDUCED, unsafe). -/
def State.stopScan (s : State) (cause : StopCause) : State × FsuReport :=
  match s.fsu.scan with
  | none => (s, .none)
  | some c =>
    if c.begun then
      (s.setScan (some { c with stop := match c.stop with | some x => some x | none => some cause }), .none)
    else
      (((s.haltAxis .focus).arbitrate).recomputeD).finishScan c .suppressed (stopCauseOf cause) none none none

end Sys2Proof.Machine
end

