-- ==== Sys2Proof/Machine/Steadying.lean ====
section
/-! DEFINITION. The steadying unit (07_image_steadying.md): the states (R117, R118), the work of a sample event (R111):
calibration (R114), supervision (R125), the integrator and the shift target (R119 to R121), and recentring (R123). -/

namespace Sys2Proof.Machine

/-! ## States (R117, R118) -/

/-- The state the first row of R117's table gives whose condition holds. -/
def State.stuRow (s : State) : StuState :=
  if s.stu.fault then .fault
  else if s.stu.mode = .off then .off
  else if s.activeKind = .review ∨ (s.stu.mode = .shotOnly ∧ s.stu.window = false) then .hold
  else if s.stu.offset.isNone then .uncalibrated
  else .active

/-- The states row 5 of R117 leaves standing. -/
def StuState.steadies : StuState → Bool
  | .active => true
  | .panning => true
  | .recentering => true
  | _ => false

/-- SLOCK is engaged in OFF and FAULT (R118). -/
def StuState.locks : StuState → Bool
  | .off => true
  | .fault => true
  | _ => false

/-- θ and its saturation count set to 0 (R119, R121). -/
def SteadyAxis.stop (a : SteadyAxis) : SteadyAxis := { a with theta := 0, saturated := 0 }

/-- θ, target and counts set to 0; a stage that is locked reads a measured shift of 0 (R118). -/
def SteadyAxis.rest (locked : Bool) (a : SteadyAxis) : SteadyAxis :=
  { theta := 0, target := 0, measured := if locked then 0 else a.measured, saturated := 0, supervised := 0 }

/-- The state is derived afresh (R117): row 5 leaves PANNING and RECENTERING standing; an earlier row ends them, with θ,
targets and counts 0. -/
def State.deriveStu (s : State) : State :=
  match s.stuRow with
  | .active =>
    if s.stu.state.steadies then s
    else { s with stu := { s.stu with state := .active } }.onSteady (SteadyAxis.rest false)
  | row => { s with stu := { s.stu with state := row } }.onSteady (SteadyAxis.rest row.locks)

/-- CSQ opens or closes the capture window (R122). -/
def State.setWindow (s : State) (openIt : Bool) : State :=
  State.deriveStu { s with stu := { s.stu with window := openIt } }

/-- ACTIVE is entered from RECENTERING or PANNING: both supervision counts start from 0 (R125). -/
def State.enterStu (s : State) (state : StuState) : State :=
  { s with stu := { s.stu with state := state } }.onSteady fun a => { a with supervised := 0 }

/-! ## Calibration (R112, R114, R115) -/

/-- A window with no sample yet. -/
def emptyWindow : WindowAxis := { sum := 0, largest := 0, smallest := 0 }

/-- A window takes a sample; `first` tells that it holds none. -/
def WindowAxis.take (w : WindowAxis) (first : Bool) (x : Int) : WindowAxis :=
  if first then { sum := x, largest := x, smallest := x }
  else { sum := w.sum + x, largest := max w.largest x, smallest := min w.smallest x }

/-- Largest minus smallest sample. -/
def WindowAxis.spread (w : WindowAxis) : Nat := (w.largest - w.smallest).toNat

/-- The window's mean, rounded to nearest with ties away from zero. -/
def WindowAxis.mean (w : WindowAxis) : Int := roundDiv w.sum 512

/-- OPT takes the ending of the GYRO-CAL in progress (R114, R115). -/
def State.endCalibration (s : State) (cls : EndClass) (cause : Cause) (result : Option Nat) (judged : Nat)
    (last : Option WindowReport) : State :=
  match s.entryOfKind .gyroCal with
  | none => s
  | some e => s.ending e.tag cls cause .absent result (.gyro s.stu.offset judged last)

/-- The gyro offset is set: θ becomes 0 on both axes and the state is derived afresh (R112). -/
def State.setOffset (s : State) (yaw pitch : Int) : State :=
  State.deriveStu ({ s with stu := { s.stu with offset := some (yaw, pitch) } }.onSteady SteadyAxis.stop)

/-- The 512th sample pair has been taken and the window is judged (R114). -/
def State.judgeWindow (s : State) (c : Calibration) : State :=
  let report : WindowReport :=
    { spreadYaw := c.yaw.spread, spreadPitch := c.pitch.spread, meanYaw := c.yaw.mean, meanPitch := c.pitch.mean }
  let judged := c.judged + 1
  match s.entryOfKind .gyroCal with
  | none => { s with stu := { s.stu with cal := none } }
  | some e =>
    let t := State.countUnit { s with stu := { s.stu with cal := none } } e.tag
    if c.yaw.spread ≤ 64 ∧ c.pitch.spread ≤ 64 then
      (t.setOffset c.yaw.mean c.pitch.mean).endCalibration .complete .none (some 0) judged (some report)
    else if 4 ≤ c.failed + 1 then t.endCalibration .complete .none (some 1) judged (some report)
    else if e.state = .stopping then
      t.endCalibration .partialEnd (s.recordedCause e.tag) none judged (some report)
    else
      { t with stu := { t.stu with
          cal := some { failed := c.failed + 1, judged := judged, samples := 0, yaw := emptyWindow,
                        pitch := emptyWindow, last := some report } } }

/-- A STOP reaches the GYRO-CAL in progress: with a window in progress it is carried on; between two windows, the
present moment is the boundary and the operation ends (R10, R115; before the first window, log 55: DEDUCED, unsafe). -/
def State.stopCalibration (s : State) (tag : Nat) : State :=
  match s.stu.cal with
  | none => s
  | some c =>
    if c.samples = 0 then
      State.endCalibration { s with stu := { s.stu with cal := none } } .partialEnd (s.recordedCause tag) none c.judged
        c.last
    else s

/-- Step 1 of a sample event: the calibration window takes the rate pair. -/
def State.calibrate (s : State) (x : Sample) : State :=
  match s.stu.cal with
  | none => s
  | some c =>
    let first := c.samples == 0
    let d : Calibration :=
      { c with samples := c.samples + 1, yaw := c.yaw.take first x.yaw, pitch := c.pitch.take first x.pitch }
    if 512 ≤ d.samples then s.judgeWindow d else { s with stu := { s.stu with cal := some d } }

/-- This sample is the 512th of a calibration window. -/
def State.endsWindow (s : State) : Bool :=
  match s.stu.cal with
  | some c => decide (512 ≤ c.samples + 1)
  | none => false

/-! ## Actuator supervision (R125) -/

/-- The supervision count after a sample: consecutive samples differing from the target by more than 200. -/
def SteadyAxis.supervise (a : SteadyAxis) : SteadyAxis :=
  { a with supervised := if 200 < (a.measured - a.target).natAbs then min 20 (a.supervised + 1) else 0 }

/-- The fault is latched: FAULT, the drive off, the stage locked, ATTENTION, and a calibration window withdrawn (R125,
R115); a GYRO-CAL between two windows ends with it too (log 54: DEDUCED, unsafe). ATTENTION STEADY joins the outbox before
the ENDING of the GYRO-CAL (log 59: DESIGN CHOICE, unsafe). -/
def State.latchFault (s : State) (detail : Nat) : State :=
  let t := (State.deriveStu { s with stu := { s.stu with fault := true } }).attention .steady .actuatorFault detail
  match t.stu.cal with
  | none => t
  | some c =>
    State.endCalibration { t with stu := { t.stu with cal := none } } .nullified .steadyFault none c.judged none

/-- Step 2 of a sample event. -/
def State.superviseStage (s : State) : State :=
  if s.stu.state.runs then
    let t := s.onSteady SteadyAxis.supervise
    if t.stu.yaw.supervised = 20 then t.latchFault 0
    else if t.stu.pitch.supervised = 20 then t.latchFault 1
    else t
  else s

/-! ## The integrator and the shift target (R119 to R121) -/

/-- θ after a sample: the net rate added, the leak taken off, kept within ±2^30 (R119). -/
def integrate (theta net : Int) (leak : Nat) : Int :=
  bringInt (-(2 ^ 30)) (2 ^ 30) (theta + net - theta.tdiv (2 ^ leak))

/-- The raw shift of an angle under a gain (R120). -/
def rawShift (theta gain : Int) : Int := (theta * gain).tdiv (2 ^ 24)

/-- One axis's update; the shift target is the raw shift brought into the stroke (R120), and saturated samples count
(R121). -/
def SteadyAxis.update (a : SteadyAxis) (net : Int) (leak : Nat) (gain : Int) (stroke : Nat) : SteadyAxis :=
  let theta := integrate a.theta net leak
  let raw := rawShift theta gain
  let target := bringInt (-stroke) stroke raw
  { a with theta := theta, target := target, saturated := if raw = target then 0 else min 200 (a.saturated + 1) }

/-- The leak in force: L in ACTIVE, 4 in PANNING (R119). -/
def State.leakInForce (s : State) : Nat := if s.stu.state = .panning then 4 else s.stu.leak

/-- PANNING is entered when a count reaches 200 in ACTIVE, and left when both raw shifts are below stroke/4 (R121). -/
def State.panning (s : State) (small : Bool) : State :=
  match s.stu.state with
  | .active =>
    if s.stu.yaw.saturated = 200 ∨ s.stu.pitch.saturated = 200 then s.enterStu .panning else s
  | .panning =>
    if small then (s.enterStu .active).onSteady fun a => { a with saturated := 0 } else s
  | _ => s

/-- Step 3 of a sample event. Without lens geometry the lens is held centred (R120), as `State.centreStu` left it. -/
def State.integrateStage (s : State) (x : Sample) : State :=
  if s.stu.state.runs then
    if s.lensGeometry then
      let gain := s.reading (·.gain) s.zoomStep
      let stroke := s.otb.glob.stroke
      let offset := s.stu.offset.getD (0, 0)
      let yaw := s.stu.yaw.update (x.yaw - offset.1) s.leakInForce gain stroke
      let pitch := s.stu.pitch.update (x.pitch - offset.2) s.leakInForce gain stroke
      let t : State := { s with stu := { s.stu with yaw := yaw, pitch := pitch } }
      let t := if 0 < yaw.saturated ∨ 0 < pitch.saturated then t.reportClamped else t
      let quarter := stroke / 4
      t.panning ((rawShift yaw.theta gain).natAbs < quarter && (rawShift pitch.theta gain).natAbs < quarter)
    else (s.onSteady SteadyAxis.centre).panning true
  else s

/-! ## Recentring (R123) -/

/-- CSQ asks STU to recentre; the flag tells that the answer "centred" is given at once. In RECENTERING θ, targets and all
counts are 0 (R123, R125). -/
def State.recentre (s : State) : State × Bool :=
  if s.stu.state.runs then
    let half := s.otb.glob.stroke / 2
    if s.stu.yaw.target.natAbs ≤ half ∧ s.stu.pitch.target.natAbs ≤ half then (s, true)
    else ({ s with stu := { s.stu with state := .recentering } }.onSteady (SteadyAxis.rest false), false)
  else if s.stu.state = .recentering then (s, false)
  else (s, true)

/-- Step 4 of a sample event; the flag tells that STU answers "centred". -/
def State.checkCentred (s : State) : State × Bool :=
  if s.stu.state = .recentering ∧ s.stu.yaw.measured.natAbs ≤ 50 ∧ s.stu.pitch.measured.natAbs ≤ 50 then
    (s.enterStu .active, true)
  else (s, false)

/-- The measured shift is read; a stage that is locked reads 0 (R111, R118). -/
def State.readShift (s : State) (x : Sample) : State :=
  let read (v : Int) : Int := if s.lockEngaged then 0 else v
  { s with stu := { s.stu with
      yaw := { s.stu.yaw with measured := read x.shiftYaw },
      pitch := { s.stu.pitch with measured := read x.shiftPitch } } }

/-- A sample event within STU (R111); the flag tells that STU answers "centred", with the late flag clear. -/
def State.sampleStu (s : State) (x : Sample) : State × Bool :=
  ((((s.readShift x).calibrate x).superviseStage).integrateStage x).checkCentred

/-- STU at a RESTART (R126): the calibration discarded, θ, targets and counts 0, the window closed, PANNING and
RECENTERING ended. -/
def State.restartStu (s : State) : State :=
  let row := State.stuRow { s with stu := { s.stu with window := false } }
  { s with stu := { s.stu with cal := none, window := false, state := row } }.onSteady
    (SteadyAxis.rest row.locks)

/-- STU at a settings exchange (R126): the loaded mode and leak, θ, targets and counts 0, the window closed. PANNING
stands where R117's derivation leaves it (log 53: DEDUCED, unsafe). -/
def State.exchangeStu (s : State) (mode : SteadyMode) (leak : Nat) : State :=
  State.deriveStu
    ({ s with stu := { s.stu with mode := mode, leak := leak, window := false } }.onSteady
      fun a => { a with theta := 0, target := 0, saturated := 0, supervised := 0 })

end Sys2Proof.Machine
end

