-- ==== Sys2Proof/Machine/Capture.lean ====
section
/-! DEFINITION. The capture sequencer (09_capture_sequence.md): preparation (R143, R146), one picture (R147 to R151), the
intake and the interval (R152, R153), failures, stops and endings (R154 to R156), and the delivery of what FSU reports. -/

namespace Sys2Proof.Machine

/-! ## The capture record -/

/-- Set the CSQ state. -/
def State.setCsq (s : State) (state : CsqState) : State := { s with csq := { s.csq with state := state } }

/-- Change the capture record. -/
def State.onCapture (s : State) (f : Capture → Capture) : State :=
  { s with csq := { s.csq with capture := s.csq.capture.map f } }

/-- A capture record with nothing done yet (R141). -/
def newCapture (kind : OpKind) (tag : Nat) (shutter : Shutter) : Capture :=
  { kind := kind, tag := tag, program := none, programIndex := 0, first := 0, last := 0, pos := 0, shutter := shutter,
    ownPreparation := true, plan := none, scanAsked := false, scanEnd := none, preempting := none, hand := none,
    pictures := [], failure := none, frames := 0, refine := .none }

/-- The shutter kind of the active context (R141). -/
def State.shutterKind (s : State) : Shutter := if s.activeKind = .movie then .electronic else .mechanical

/-- The pictures a SHOOT takes. -/
def Capture.planned (c : Capture) : Nat := c.last + 1 - c.first

/-- The axes the capture owns: those of zoom and focus that its claim holds (R26). -/
def State.captured (s : State) : List Axis :=
  [Axis.zoom, .focus].filter fun a =>
    match (s.axis a).owner with
    | some (.capture _) => true
    | _ => false

/-- CSQ returns to IDLE (R156): the lock given up, the window closed, the capture's claim ended, the record emptied. An
operation it preempted that has not ended keeps its own claim (R146). -/
def State.csqIdle (s : State) : State :=
  let t := (s.giveUpLock.setWindow false).release s.captured
  (({ t with csq := { t.csq with capture := none } }).setCsq .idle).setRequest false

/-- OPT takes the ending of a SHOOT, and CSQ returns to IDLE (R156). -/
def State.endShoot (s : State) (c : Capture) (cls : EndClass) (cause : Cause) : State :=
  let resume : Resume :=
    match cls with
    | .partialEnd => .shoot c.programIndex (c.planned - s.unitsDone c.tag)
    | .nullified => .shoot c.programIndex (c.planned - s.unitsDone c.tag)
    | _ => .absent
  State.csqIdle
    (s.ending c.tag cls cause resume none
      (.shoot c.programIndex c.first c.last c.shutter s.xLocked c.ownPreparation c.scanEnd c.pictures))

/-- Resume operands of a PREPARE (R9): the scan's start and end, in PARTIAL and NULLIFIED. -/
def prepareResume (cls : EndClass) (next : Option Nat) (stop : Nat) : Resume :=
  match cls, next with
  | .partialEnd, some n => .prepare n stop
  | .nullified, some n => .prepare n stop
  | _, _ => .absent

/-- OPT takes the ending of a PREPARE (R143); COMPLETE leaves CSQ READY, every other class IDLE. -/
def State.endPrepare (s : State) (c : Capture) (cls : EndClass) (cause : Cause) (result : Option ScanResult)
    (fields : ScanFields) (next : Option Nat) : State :=
  let t := s.ending c.tag cls cause (prepareResume cls next fields.stop) (result.map scanResultCode)
    (.prepare fields s.xLocked s.stu.state)
  if cls = .complete then t.setCsq .ready else t.csqIdle

/-- The scan fields of a PREPARE whose scan was never asked for (R143). -/
def State.unscanned (s : State) (p : ScanPlan) : ScanFields :=
  { finalPP := s.ldu.focus.pp, start := p.start, stop := p.stop, clampFlag := p.clampFlag, countFlag := p.countFlag,
    best := none, rise := 0, window := none, d := s.ldu.d }

/-! ## Failures and finishing (R154, R156) -/

/-- FINISHING ends when the intake-pending list is empty and no refine runs (R156, log 21: DEDUCED, unsafe). -/
def State.checkFinish (s : State) : State :=
  match s.csq.capture with
  | none => s
  | some c =>
    if s.csq.state = .finishing ∧ s.csq.pendingIntake = [] ∧ c.refine ≠ .running then
      match c.failure with
      | some (cls, cause) => s.endShoot c cls cause
      | none =>
        if c.planned ≤ s.unitsDone c.tag then s.endShoot c .complete .none
        else s.endShoot c .partialEnd (s.recordedCause c.tag)
    else s

/-- CSQ enters FINISHING, a pending grant request withdrawn. -/
def State.enterFinishing (s : State) : State := ((s.setRequest false).setCsq .finishing).checkFinish

/-- The first failure taken is kept with its class and cause (R154). -/
def State.recordFailure (s : State) (cls : EndClass) (cause : Cause) : State :=
  s.onCapture fun c =>
    { c with failure := match c.failure with | some f => some f | none => some (cls, cause) }

/-- After a failure of a picture that is not in hand: with no picture in progress CSQ enters FINISHING (R154). -/
def State.afterFailure (s : State) : State :=
  match s.csq.state with
  | .waitBuffer => s.enterFinishing
  | .interval => s.enterFinishing
  | _ => s.checkFinish

/-- Set the outcome of a picture in the list. -/
def State.setOutcome (s : State) (id : Nat) (o : PictureOutcome) : State :=
  s.onCapture fun c =>
    { c with pictures := c.pictures.map fun p => if p.id = id ∧ p.outcome = none then { p with outcome := some o } else p }

/-- The picture in hand is dropped or withdrawn: its record freed, its outcome set, the failure recorded (R149 to
R151). -/
def State.failHand (s : State) (id : Nat) (o : PictureOutcome) (cls : EndClass) (cause : Cause) : State :=
  (((s.freeRecord id).setOutcome id o).recordFailure cls cause).onCapture fun c => { c with hand := none }

/-! ## One picture (R147 to R151) -/

/-- A picture of the sequence begins: WAIT_BUFFER, and the reservation is asked for (R147). -/
def State.beginPicture (s : State) (pos : Nat) : State :=
  ((s.onCapture fun c => { c with pos := pos, hand := none, frames := 0, refine := .none }).setCsq .waitBuffer).setRequest
    true

/-- X_j of a position (R148). -/
def pictureX (p : Program) (x : Int) (j : Nat) : Int :=
  match p.kind, p.step with
  | .bracket, some b => x + ((j : Int) - (p.count - 1) / 2) * b
  | _, _ => x

/-- "centred": the EXPOSE is placed, the picture joins the list, and CSQ enters ARMING (R150). -/
def State.centred (s : State) (late : Bool) : State :=
  match s.csq.state, s.csq.capture with
  | .recentring, some c =>
    (match c.hand with
     | some { id := id, split := some sp, .. } =>
       ((s.onCapture fun c =>
          { c with
              hand := some { id := id, split := some sp, late := late, arming := false, armed := false },
              pictures := c.pictures ++ [{ id := id, pos := c.pos, x := sp.x, clamp := sp.clamp, outcome := none }] }
        ).setCsq .arming).place
         (.expose id sp.tv sp.av sp.gv (exposureTime sp.tv.toNat) c.shutter)
     | _ => s)
  | _, _ => s

/-- The iris has arrived at the picture's target: CSQ asks STU to recentre (R149). -/
def State.irisArrived (s : State) : State :=
  if s.csq.state = .waitIris then
    match (s.setCsq .recentring).recentre with
    | (t, true) => t.centred false
    | (t, false) => t
  else s

/-- The iris lost a step on the way to the picture's target: the picture is dropped (R149). -/
def State.irisFailed (s : State) : State :=
  match s.csq.state, s.csq.capture with
  | .waitIris, some c =>
    (match c.hand with
     | some h => (s.failHand h.id .dropped .terminated .lostStep).enterFinishing
     | none => s)
  | _, _ => s

/-- The picture's exposure is split and its iris target written (R148, R149, log 17: DEDUCED, unsafe). -/
def State.splitPicture (s : State) : State :=
  match s.csq.capture with
  | some { hand := some h, program := some p, pos := pos, shutter := shutter, .. } =>
    let tvHi := if shutter = .mechanical then s.otb.glob.tvMaxMechanical else s.otb.glob.tvMaxElectronic
    let sp := s.split tvHi (pictureX p (s.xLocked.getD 0) pos)
    let t := (s.onCapture fun c => { c with hand := some { h with split := some sp } }).setCsq .waitIris
    (match t.writeIris (sp.av - s.avLow).toNat .csq with
     | (u, .arrived) => u.irisArrived
     | (u, .underway) => u
     | (u, .unreferenced) => u.irisFailed)
  | _ => s

/-- The grant of the picture's reservation (R147, R161): the id is issued and the unit begins. -/
def State.grantPicture (s : State) (c : Capture) : State :=
  let id := s.csq.nextId
  let t := (s.grant id c.tag c.pos).beginUnit c.tag
  let u : State := { t with csq := { t.csq with nextId := nextNumber id } }
  let v := u.onCapture fun c =>
    { c with hand := some { id := id, split := none, late := false, arming := false, armed := false } }
  if 4 ≤ v.csq.pendingIntake.length then v.setCsq .waitIntake else v.splitPicture

/-- The transmission of an EXPOSE has ended: the arm timer starts (R150). -/
def State.exposeSent (s : State) (id : Nat) : State :=
  if s.csq.state = .arming then
    s.onCapture fun c =>
      { c with hand := c.hand.map fun h => if h.id = id then { h with arming := true } else h }
  else s

/-- The shot record of a picture exposed now (R151). -/
def State.shotRecord (s : State) (sp : Split) (late : Bool) : ShotRecord :=
  { tv := sp.tv, av := s.avLow + (s.ldu.iris.pp.getD 0 : Nat), gv := sp.gv,
    focal := (s.reading (·.focal) s.zoomStep).toNat, d := s.ldu.d, stu := s.stu.state, late := late,
    frame := s.fmn.counter }

/-- An exposure begins: XSTART rises and the shot record is filled (R151). -/
def State.beginExposure (s : State) (h : Hand) : State :=
  match h.split with
  | none => s
  | some sp =>
    let shot := s.shotRecord sp h.late
    let t := s.setRecord h.id fun r => { r with shot := some shot }
    let u := t.onCapture fun c => { c with hand := some { h with arming := false, armed := false } }
    { u with csq := { u.csq with state := .exposing, xstart := true } }

/-- An exposed picture joins the intake-pending list (R152); through RECHARGE it stays in hand (R155). -/
def State.joinIntake (s : State) (id : Nat) : State :=
  { s with csq := { s.csq with pendingIntake := s.csq.pendingIntake ++ [id] } }

/-! ## After the exposure (R153) -/

/-- INTERVAL ends when the frames are counted and a refine asked for has reported (R153). -/
def Capture.intervalOver (c : Capture) : Bool :=
  match c.program with
  | some p => decide (p.interval ≤ c.frames) && (!p.refine || c.refine == .reported)
  | none => false

/-- INTERVAL is left when it is over (R153). -/
def State.checkInterval (s : State) : State :=
  match s.csq.capture with
  | some c => if s.csq.state = .interval ∧ c.intervalOver = true then s.beginPicture (c.pos + 1) else s
  | none => s

/-- No further picture begins: a failure or a stop is on record (R154, R155). -/
def State.noFurther (s : State) (c : Capture) : Bool := c.failure.isSome || s.stopping c.tag

/-- FSU's report on a refine (R153). -/
def State.refineReported (s : State) (r : RefineReport) : State :=
  let t := s.onCapture fun c => { c with refine := .reported }
  let t :=
    match r with
    | .lostStep => t.recordFailure .terminated .lostStep
    | .unreferenced => t.recordFailure .terminated .lostStep
    | _ => t
  match t.csq.capture with
  | none => t
  | some c =>
    if t.csq.state = .interval then (if t.noFurther c then t.enterFinishing else t.checkInterval)
    else t.checkFinish

/-- CSQ enters INTERVAL and asks for the refine its program wants (R153, R109). -/
def State.enterInterval (s : State) (p : Program) : State :=
  let t := (s.onCapture fun c => { c with frames := 0, refine := .none }).setCsq .interval
  if p.refine then
    match t.ldu.focus.pp with
    | none => t.refineReported .unreferenced
    | some c =>
      let positions := refinePositions t.fsu.live.step c
      match (t.onCapture fun c => { c with refine := .running }).startScan (.refine c positions)
          (refinePlan t.fsu.live positions) with
      | (u, .refine r) => u.refineReported r
      | (u, _) => u
  else t.checkInterval

/-- No picture is in hand any more. -/
def State.dropHand (s : State) : State := s.onCapture fun c => { c with hand := none }

/-- INTERVAL where another picture is to follow, FINISHING otherwise (R153). -/
def State.goOnShooting (s : State) : State :=
  match s.csq.capture with
  | some c =>
    (match c.program with
     | some p => if c.pos < c.last ∧ s.noFurther c = false then s.enterInterval p else s.enterFinishing
     | none => s)
  | none => s

/-- After the exposure and the recharge (R153): the picture is no longer in hand. -/
def State.afterExposure (s : State) : State := s.dropHand.goOnShooting

/-! ## The intake-pending list (R152) -/

/-- The head picture leaves the list with its outcome; a failure may be recorded; a WAIT_INTAKE ends. -/
def State.leaveIntake (s : State) (id : Nat) (o : PictureOutcome) (failure : Option Cause) : State :=
  let t : State := { s with csq := { s.csq with pendingIntake := s.csq.pendingIntake.drop 1 } }
  let t := t.setOutcome id o
  let t :=
    match failure with
    | some cause => t.recordFailure .terminated cause
    | none =>
      match t.csq.capture with
      | some c => t.countUnit c.tag
      | none => t
  let t := if t.csq.state = .waitIntake then t.splitPicture else t
  if failure.isSome then t.afterFailure else t.checkFinish

/-- PBF's report at the head of the list (R152). -/
def State.intakeReported (s : State) (r : IntakeReport) : State :=
  match s.csq.pendingIntake with
  | [] => s
  | id :: _ =>
    match r with
    | .none => s
    | .ended => s.leaveIntake id .ingested none
    | .overflow => s.leaveIntake id .dropped (some .intakeOverflow)

/-! ## Preparation (R143, R146) -/

/-- The scan of the preparation hands its ending to CSQ (R143, R146). -/
def State.preparationEnded (s : State) (e : ScanEnd) : State :=
  match s.csq.capture with
  | none => s
  | some c =>
    if c.kind = .prepare then s.endPrepare c e.cls e.cause e.result e.fields e.next
    else
      let summary : ScanSummary := { cls := e.cls, cause := e.cause, result := e.result, finalPP := e.fields.finalPP }
      let t := s.onCapture fun c => { c with scanEnd := some summary }
      let c := { c with scanEnd := some summary }
      if e.cls = .terminated then t.endShoot c .terminated .lostStep
      else if t.stopping c.tag then t.endShoot c .suppressed (t.recordedCause c.tag)
      else t.beginPicture c.first

/-- The preparation scan is asked for (R108, R143, R146). -/
def State.askScan (s : State) (user : ScanUser) (plan : ScanPlan) : State :=
  match (s.onCapture fun c => { c with scanAsked := true }).startScan user plan with
  | (t, .ended e) => t.preparationEnded e
  | (t, _) => t

/-- A PREPARE or SHOOT in PREPARING goes on when it has the lock and the claim (R143, R146). -/
def State.goOnPreparing (s : State) : State :=
  match s.csq.capture with
  | none => s
  | some c =>
    if s.csq.state = .preparing ∧ c.scanAsked = false ∧ c.preempting = none ∧ s.xLocked.isSome then
      match c.kind, c.program with
      | .shoot, some p =>
        if s.ldu.zoom.pp = none ∨ s.ldu.focus.pp = none then s.endShoot c .terminated .lostStep
        else if p.focusFirst then s.askScan .focusFirst (s.planScan s.fsu.live none none)
        else s.beginPicture c.first
      | _, _ =>
        match c.plan with
        | some plan => s.askScan .prepare plan
        | none => s
    else s

/-- The operation that owns zoom or focus, zoom first. -/
def State.lensOwner (s : State) : Option Nat :=
  match s.ldu.zoom.owner, s.ldu.focus.owner with
  | some (.op _ tag), _ => some tag
  | _, some (.op _ tag) => some tag
  | _, _ => none

/-- The axes of zoom and focus that no owner holds. -/
def State.unowned (s : State) : List Axis := [Axis.zoom, .focus].filter fun a => (s.axis a).owner == none

/-- OPT reports that the ending of the preempted operation has been taken: the capture claims what is free of zoom and
focus (R11, R146), so that a request for focus is BUSY until CSQ is IDLE again (R96), and waits on for the operation that
has claimed the zoom meanwhile (R26, log 57: DEDUCED, unsafe). -/
def State.lensFreed (s : State) (tag : Nat) : State :=
  match s.csq.capture with
  | none => s
  | some c =>
    if c.preempting = some tag then
      let t := s.claim s.unowned (.capture c.kind)
      match t.lensOwner with
      | some other => t.onCapture fun c => { c with preempting := some other }
      | none => (t.onCapture fun c => { c with preempting := none }).goOnPreparing
    else s

/-- The resume operands of a SCAN (R107): the next start, the end fixed, the overrides as issued. -/
def scanResume (e : ScanEnd) (ops : ScanOperands) : Resume :=
  match e.cls, e.next with
  | .partialEnd, some n => .scan { ops with start := some n, stop := some e.fields.stop }
  | .nullified, some n => .scan { ops with start := some n, stop := some e.fields.stop }
  | _, _ => .absent

/-- What FSU reports reaches its user: OPT for a SCAN, CSQ for the others (R103, R108, R109). -/
def State.deliver : State × FsuReport → State
  | (s, .none) => s
  | (s, .refine r) => s.refineReported r
  | (s, .ended e) =>
    match e.user with
    | .scan tag ops =>
      ((s.ending tag e.cls e.cause (scanResume e ops) (e.result.map scanResultCode) (.scan e.fields)).release
        [.focus]).lensFreed tag
    | _ => s.preparationEnded e

/-! ## Stops (R143, R146, R155) -/

/-- A scan of CSQ's own runs in FSU. -/
def State.ownScan (s : State) : Bool :=
  match s.fsu.scan with
  | some { user := .prepare, .. } => true
  | some { user := .focusFirst, .. } => true
  | _ => false

/-- A STOP of a PREPARE, its entry marked (R143). -/
def State.stopPrepare (s : State) (c : Capture) : State :=
  if s.ownScan then State.deliver (s.stopScan .stopped)
  else
    match c.plan with
    | some p => s.endPrepare c .suppressed .stopped none (s.unscanned p) none
    | none => s

/-- A STOP of a SHOOT, its entry marked; `waiting` is whether the entry was WAITING (R146, R155). -/
def State.stopShoot (s : State) (c : Capture) (waiting : Bool) : State :=
  if waiting then
    if s.ownScan then State.deliver (s.stopScan .stopped) else s.endShoot c .suppressed (s.recordedCause c.tag)
  else
    match s.csq.state with
    | .waitBuffer => s.enterFinishing
    | .interval => if c.refine = .running then s else s.enterFinishing
    | _ => s

/-- A STOP reaches CSQ's operation of a tag. -/
def State.stopCapture (s : State) (tag : Nat) (waiting : Bool) : State :=
  match s.csq.capture with
  | none => s
  | some c =>
    if c.tag = tag then (if c.kind = .prepare then s.stopPrepare c else s.stopShoot c waiting) else s

/-! ## RESTART (R157) -/

/-- CSQ at a RESTART: the shutter lines by the state, IDLE, the record and the list emptied; the lock and the window are
EXC's and STU's own (R90, R126). -/
def State.restartCsq (s : State) : State :=
  let mechanical :=
    match s.csq.capture with
    | some c => c.shutter == .mechanical
    | none => false
  let closing := s.csq.state == .exposing && mechanical
  { s with csq := { s.csq with
      state := .idle, capture := none, pendingIntake := [], xstart := false,
      xclose := s.csq.xclose || closing, closeTimer := s.csq.closeTimer || closing } }

end Sys2Proof.Machine
end

