-- ==== Sys2Proof/Machine/Programs.lean ====
section
/-! DEFINITION. Programs and contexts (08_programs_and_contexts.md): the settings exchange (R136) with EXC's, STU's and
LDU's parts (R89, R126, R51), the travel (R137) and the endings of a context operation (R138). -/

namespace Sys2Proof.Machine

/-- Write a slot. -/
def State.setSlot (s : State) (i : Nat) (c : Slot) : State :=
  { s with pcs := { s.pcs with slots := s.pcs.slots.set i c } }

/-- The context operation in progress. -/
def State.setContextOp (s : State) (o : Option ContextOp) : State := { s with pcs := { s.pcs with op := o } }

/-! ## The settings exchange (R136) -/

/-- The working copy of the active context, as it would be saved into its slot (R134, R136). -/
def State.workingCopy (s : State) (c : Slot) : Slot :=
  { c with zoomStep := s.zoomStep, d := s.ldu.d, x := s.exc.x, meter := s.exc.live, af := s.fsu.live, mode := s.stu.mode,
           leak := s.stu.leak }

/-- Status and back link of the slot being left (R136, step 2). -/
def leftSlot (kind : OpKind) (c : Slot) : Slot :=
  if kind = .enter then { c with status := .nested } else { c with status := .available, link := none }

/-- Status and back link of the new ACTIVE slot (R136, step 2). -/
def enteredSlot (kind : OpKind) (left : Nat) (leftLink : Option Nat) (c : Slot) : Slot :=
  match kind with
  | .switch => { c with status := .active, link := leftLink }
  | .enter => { c with status := .active, link := some left }
  | _ => { c with status := .active }

/-- EXC takes the loaded settings and saved X (R89); in WAIT_LENS X_current is NO-VALUE (R67, log 34: DEDUCED, unsafe). -/
def State.loadExc (s : State) (c : Slot) : State :=
  let t : State :=
    { s with exc := { s.exc with live := c.meter.fit s.otb.glob.tvMaxElectronic, x := c.x, ring := [], clamp := .none,
                                 latest := none, window := 0 } }
  if t.excState = .waitLens then { t with exc := { t.exc with x := none } } else t

/-- The new ACTIVE slot's settings are loaded (R136, step 3). -/
def State.loadContext (s : State) (c : Slot) : State :=
  let t := s.loadExc c
  State.exchangeStu { t with fsu := { t.fsu with live := c.af }, ldu := { t.ldu with d := c.d } } c.mode c.leak

/-- The settings exchange, from the active slot to slot `i` (R136). -/
def State.exchange (s : State) (kind : OpKind) (i : Nat) : State :=
  let left := s.activeIndex
  let old := s.slot left
  let entered := enteredSlot kind left old.link (s.slot i)
  ((s.setSlot left (leftSlot kind (s.workingCopy old))).setSlot i entered).loadContext entered

/-- The begin of an accepted context operation (R136): the claim, the exchange as unit 1, and the travel to come. -/
def State.beginContext (s : State) (tag : Nat) (kind : OpKind) (i : Nat) : State :=
  let left := s.activeIndex
  let t := ((s.claim [.zoom, .focus] (.op kind tag)).exchange kind i).countUnit tag
  t.setContextOp
    (some { tag := tag, kind := kind, phase := .pending, left := left, clampFlag := false, target := 0,
            exc := t.excState, stu := t.stu.state })

/-! ## The travel (R137) and the endings (R138) -/

/-- OPT takes the ending of the context operation, and its claim is released (R138, R26). -/
def State.endContext (s : State) (o : ContextOp) (cls : EndClass) (cause : Cause) : State :=
  let active := s.activeIndex
  let c := s.slot active
  let resume : Resume := if cls = .partialEnd then .context (s.ldu.zoom.pp.getD 0) s.ldu.d else .absent
  let fields : EndFields :=
    .context o.left (s.slot o.left).status active c.kind c.link o.clampFlag s.ldu.zoom.pp s.ldu.focus.pp s.ldu.d
      (s.ldu.zoom.pp.map fun z => s.focusFor z s.ldu.d) o.exc o.stu
  ((s.setContextOp none).ending o.tag cls cause resume none fields).release [.zoom, .focus]

/-- Unit 3 has ended: COMPLETE (R137). -/
def State.focusTravelled (s : State) (o : ContextOp) : State := (s.countUnit o.tag).endContext o .complete .none

/-- Unit 2 has ended: a stopped operation ends PARTIAL (R138), another begins the focus travel (R137). -/
def State.zoomTravelled (s : State) (o : ContextOp) : State :=
  let t := s.countUnit o.tag
  if t.stopping o.tag then t.endContext o .partialEnd (t.recordedCause o.tag)
  else
    let target := t.focusFor t.zoomStep t.ldu.d
    let p := { o with phase := .focus, target := target }
    match t.giveTarget .focus target with
    | (u, .arrived) => ((u.setContextOp (some p)).arbitrate).focusTravelled p
    | (u, .underway) => (u.setContextOp (some p)).arbitrate
    | (u, .unreferenced) => u.endContext p .terminated .lostStep

/-- The event after the exchange (R137): a REVIEW operation ends, another begins the zoom travel (log 45: DEDUCED,
safe). -/
def State.contextTravel (s : State) (o : ContextOp) : State :=
  if s.activeKind = .review then s.endContext o .complete .none
  else
    let saved := s.activeSlot.zoomStep
    let target := bring s.wideEnd s.teleEnd saved
    let p := { o with phase := .zoom, target := target, clampFlag := target != saved }
    match s.giveTarget .zoom target with
    | (t, .arrived) => ((t.setContextOp (some p)).arbitrate).zoomTravelled p
    | (t, .underway) => (t.setContextOp (some p)).arbitrate
    | (t, .unreferenced) => t.endContext p .terminated .lostStep

/-- LDU reports arrival of an axis to PCS. -/
def State.contextArrived (s : State) (a : Axis) : State :=
  match s.pcs.op with
  | none => s
  | some o =>
    match o.phase, a with
    | .zoom, .zoom => s.zoomTravelled o
    | .focus, .focus => s.focusTravelled o
    | _, _ => s

/-- LDU reports a lost step to PCS (R138, log 33: DEDUCED, unsafe). A lost step on focus in unit 2, or on either axis between
the exchange and the travel, ends the operation in the same way (log 63: DESIGN CHOICE, unsafe). -/
def State.contextLost (s : State) : State :=
  match s.pcs.op with
  | none => s
  | some o => s.endContext o .terminated .lostStep

/-! ## Checks (R135) -/

/-- Checks 5 and 6 of R135: zoom and focus unowned and referenced. -/
def State.contextLensFault (s : State) : Option (Code × Nat) :=
  match s.firstOwned [.zoom, .focus] with
  | some a => some (.busy, axisCode a)
  | none =>
    match s.firstUnreferenced [.zoom, .focus] with
    | some a => some (.unreferenced, axisCode a)
    | none => none

/-- The refusal of a SWITCH or ENTER (R135). -/
def State.contextFault (s : State) (i : Nat) : Option (Code × Nat) :=
  match s.noTable with
  | some detail => some (.noTable, detail)
  | none =>
    if 3 < i then some (.range, i)
    else
      match (s.slot i).status with
      | .empty => some (.absent, i)
      | .active => some (.contextBusy, 2)
      | .nested => some (.contextBusy, 3)
      | .available => s.contextLensFault

/-- The refusal of a LEAVE, or the slot it returns to (R135). -/
def State.leaveTarget (s : State) : (Code × Nat) ⊕ Nat :=
  match s.noTable with
  | some detail => .inl (.noTable, detail)
  | none =>
    match s.activeSlot.link with
    | none => .inl (.noBackLink, s.activeIndex)
    | some i =>
      match s.contextLensFault with
      | some fault => .inl fault
      | none => .inr i

/-- Units planned of a context operation to a slot: 1 for REVIEW, else 3 (R135). -/
def State.contextUnits (s : State) (i : Nat) : Nat := if (s.slot i).kind = .review then 1 else 3

end Sys2Proof.Machine
end

