-- ==== Sys2Proof/Machine/Arrivals.lean ====
section
/-! DEFINITION. What a lens event means to the axis's commander (R21, R26 to R28): an axis that becomes HELD, a completed or
lost step, the end of energizing and of settling. -/

namespace Sys2Proof.Machine

/-- Arrival of the unowned iris at the pending target: the target is taken out and its writer is told (R27). -/
def State.irisReached (s : State) : State :=
  match s.ldu.pendingIris with
  | none => s
  | some t =>
    if s.ldu.iris.pp = some t.value then
      let u : State := { s with ldu := { s.ldu with pendingIris := none } }
      if t.writer = .csq then u.irisArrived else u
    else s

/-- A lens operation may have ended; a capture that preempted it is told (R11). -/
def State.lensOpHeld (s : State) (tag : Nat) : State :=
  let t := s.checkLensEnd tag
  if (t.lensOp tag).isNone then t.lensFreed tag else t

/-- An axis has become HELD: its commander is told. -/
def State.axisHeld (s : State) (a : Axis) : State :=
  let r := s.axis a
  match r.owner with
  | some (.op .scan _) => if r.arrived then State.deliver s.scanArrived else s
  | some (.capture _) => if a = .focus ∧ r.arrived = true then State.deliver s.scanArrived else s
  | some (.op .switch _) => if r.arrived then s.contextArrived a else s
  | some (.op .enter _) => if r.arrived then s.contextArrived a else s
  | some (.op .leave _) => if r.arrived then s.contextArrived a else s
  | some (.op _ tag) => s.lensOpHeld tag
  | none => if a = .iris ∧ r.arrived = true then s.irisReached else s

/-- The settle time of an axis has run out: HELD, and the hold-release timer starts (R21, R23). -/
def State.settled (s : State) (a : Axis) : State := (s.setAxis a (s.axis a).hold).axisHeld a

/-- A settle time of 0 passes at once (R21). -/
def State.settleAtOnce (s : State) (a : Axis) : State :=
  let r := s.axis a
  if r.state = .settling ∧ r.timer = some 0 then s.settled a else s

/-- A settle time of 0 passes at once after a step of axis `a` begun in `before`: of the axis itself, and of an axis that
waited for its slot and stood at its target (log 14: DEDUCED, unsafe). -/
def State.settleZero (s before : State) (a : Axis) : State :=
  allAxes.foldl (fun t b => if b = a ∨ (before.axis b).state = .awaitingSlot then t.settleAtOnce b else t) s

/-- A lost step is reported to the commander (R28). A HOME, MOVE, ZOOM or PARK whose failing axis is HELD at once, its step
carried past a RESTART, may end with it (R35); otherwise it ends when the axis has settled. A lost step on an axis of a
capture whose scan does not run on it has no effect on CSQ (log 64: DESIGN CHOICE, unsafe). -/
def State.reportLost (s : State) (a : Axis) : State :=
  match (s.axis a).owner with
  | some (.op .switch _) => s.contextLost
  | some (.op .enter _) => s.contextLost
  | some (.op .leave _) => s.contextLost
  | some (.op .scan _) | some (.capture _) =>
    (match a, s.fsu.scan with
     | .focus, some c => State.deliver (s.scanLost c)
     | _, _ => s)
  | some (.op _ tag) => if (s.axis a).atRest then s.lensOpHeld tag else s
  | none => if a = .iris ∧ s.ldu.irisWriter = some .csq then s.irisFailed else s

/-- A step of an axis completes (R22), with its reports. -/
def State.stepCompleted (s : State) (a : Axis) : State :=
  match s.completeStep a with
  | (t, .lost) => (t.reportLost a).settleZero s a
  | (t, .stepped) => (if a = .focus then t.scanStepped s.ldu.focus else t).settleZero s a

/-- The energize time of an axis has run out (R21): it joins the wait list. -/
def State.energized (s : State) (a : Axis) : State := ((s.joinWait a (s.axis a)).arbitrate).settleAtOnce a

end Sys2Proof.Machine
end

