-- ==== Sys2Proof/Machine/CardStore.lean ====
section
/-! DEFINITION. The card store unit (11_card_store_and_store_faults.md): the extent pool (R176, R177), placement (R181),
writing (R182 to R185), drops (R186), the fault record (R187 to R192), the card (R172, R174, R188) and the RESTART
(R193). -/

namespace Sys2Proof.Machine

/-- Change CSU. -/
def State.onCsu (s : State) (f : Csu → Csu) : State := { s with csu := f s.csu }

/-! ## The free extent pool (R176, R177) -/

/-- Two runs of blocks overlap. -/
def overlaps (a b : Extent) : Bool := decide (a.start < b.start + b.len) && decide (b.start < a.start + a.len)

/-- The run of blocks of a fragment. -/
def fragmentExtent (cluster : Nat) (f : Fragment) : Extent := { start := f.start, len := f.clusters * cluster }

/-- An extent is put in order of start block. -/
def insertExtent (e : Extent) : List Extent → List Extent
  | [] => [e]
  | x :: rest => if e.start < x.start then e :: x :: rest else x :: insertExtent e rest

/-- Neighbours that touch end to end become one extent. -/
def mergeExtents : List Extent → List Extent
  | [] => []
  | x :: rest =>
    match mergeExtents rest with
    | [] => [x]
    | y :: more =>
      if x.start + x.len = y.start then { start := x.start, len := x.len + y.len } :: more else x :: y :: more

/-- Extents enter the pool, merged (R176). -/
def addExtents (pool : List Extent) (es : List Extent) : List Extent :=
  mergeExtents (es.foldl (fun p e => insertExtent e p) pool)

/-- A pool above 64 extents keeps the lowest 64 and ATTENTION is raised (R176). -/
def State.trimPool (s : State) : State :=
  match s.csu.pool[64]? with
  | none => s
  | some e => (s.onCsu fun c => { c with pool := c.pool.take 64 }).attention .store .poolTrimmed e.start

/-- Clusters the pool holds. -/
def State.poolClusters (s : State) : Nat := (s.csu.pool.map (·.len)).sum / s.csu.cluster

/-- The number, from `k`, of the first extent of a list that satisfies a test. -/
def firstNumber (bad : Extent → Bool) (k : Nat) : List Extent → Option Nat
  | [] => none
  | e :: rest => if bad e then some k else firstNumber bad (k + 1) rest

/-- The number, from `k`, of the first extent that overlaps an earlier one of the list. -/
def firstOverlap (k : Nat) (seen : List Extent) : List Extent → Option Nat
  | [] => none
  | e :: rest => if seen.any (overlaps e) then some k else firstOverlap (k + 1) (e :: seen) rest

/-- The fragments of the current placement, which are also those of the fault record (R187). -/
def State.placed (s : State) : List Fragment :=
  match s.csu.placement with
  | some p => p.fragments
  | none => []

/-- The runs of blocks that new extents may not overlap (R177, check 6). -/
def State.takenBlocks (s : State) : List Extent := s.csu.pool ++ s.placed.map (fragmentExtent s.csu.cluster)

/-- The card has been opened: OPEN or PROTECTED (R172). -/
def CardState.ready : CardState → Bool
  | .opened => true
  | .protect => true
  | _ => false

/-- The refusal of an EXTENTS-GIVE (R177). -/
def State.extentsFault (s : State) (es : List Extent) : Option (Code × Nat) :=
  if s.csu.card.ready = false then some (.noCard, 0)
  else if es.length < 1 ∨ 16 < es.length then some (.field, 0)
  else
    match firstNumber (fun e => e.len == 0 || e.len % s.csu.cluster != 0) 1 es with
    | some k => some (.field, k)
    | none =>
      match firstNumber (fun e => decide (s.csu.capacity.getD 0 < e.start + e.len)) 1 es with
      | some k => some (.range, k)
      | none =>
        match firstOverlap 1 [] es with
        | some k => some (.overlap, k)
        | none =>
          match firstNumber (fun e => s.takenBlocks.any (overlaps e)) 1 es with
          | some k => some (.overlap, k)
          | none =>
            let held := (addExtents s.csu.pool es).length
            if 64 < held then some (.poolFull, held) else none

/-- The count of clusters written of a placement (R178, R182, R191). -/
def Placement.count (p : Placement) : Nat := p.written + p.ahead.length

/-! ## Holds (R180) -/

/-- The result fields of a STORE-HOLD (R180). -/
def State.holdFields (s : State) : EndFields :=
  .storeHold s.csu.store
    (s.csu.current.map fun id => (id, match s.csu.placement with | some p => p.count | none => 0))
    s.csu.queue.length

/-- A continuation HOLD that a RETRY deferred is forgotten: its STORE-HOLD waits no more (R191). -/
def State.forgetHold (s : State) : State :=
  s.onCsu fun c =>
    { c with placement := c.placement.map fun p => if p.deferred = .hold then { p with deferred := .none } else p }

/-- A STORE-HOLD in the table ends COMPLETE, PAUSED or DISABLED (R180, log 35: DEDUCED, unsafe). -/
def State.endHold (s : State) (paused : Bool) : State :=
  match s.entryOfKind .storeHold with
  | none => s
  | some e =>
    let t := if paused then s.forgetHold.countUnit e.tag else s.forgetHold
    t.ending e.tag .complete .none .absent (some (if paused then 0 else 1)) t.holdFields

/-- The store enters PAUSED, and a waiting STORE-HOLD ends. -/
def State.enterPaused (s : State) : State := (s.onCsu fun c => { c with store := .paused }).endHold true

/-- The store enters DISABLED, and a waiting STORE-HOLD ends. -/
def State.enterDisabled (s : State) : State :=
  (s.onCsu fun c => { c with store := .disabled, restarted := false }).endHold false

/-! ## Exchanges with the card (R182) -/

/-- A stop command, or the busy after it, is not over. -/
def Csu.stopping (c : Csu) : Bool := c.stopBusy || c.awaiting == some .stop

/-- An exchange starts at the first cluster not yet written: one cluster for a write-back (R191), else to the end of its
fragment. A stop command still in progress is waited for (log 23: DEDUCED, unsafe). -/
def State.startExchange (s : State) : State :=
  if s.csu.stopping then s
  else
    match s.csu.placement with
    | none => s
    | some p =>
      match clusterPlace s.csu.cluster p.fragments p.written with
      | none => s
      | some (_, toEnd) =>
        let n := if p.writeBacks = [] then toEnd else 1
        s.onCsu fun c =>
          { c with exchange := some { first := p.written, clusters := n, accepted := 0, busy := false, counted := 0 },
                   awaiting := some (.blockCount (n * c.cluster)) }

/-- The store leaves the exchange: the stop command is sent (R182). -/
def State.leaveExchange (s : State) : State :=
  s.onCsu fun c => { c with exchange := none, awaiting := some .stop }

/-- The store enters NOTIFYING and places the STORED notice (R185). -/
def State.enterNotifying (s : State) : State :=
  match s.csu.current with
  | none => s
  | some id =>
    let r := s.record id
    (s.onCsu fun c => { c with store := .notifying }).place
      (.stored id ((r.bind (·.length)).getD 0) s.csu.cluster (r.bind (·.shot)) s.placed)

/-- WRITING from the first cluster not yet written, or NOTIFYING when every cluster is written (R179, R191). -/
def State.resumeWriting (s : State) : State :=
  match s.csu.placement with
  | none => s
  | some p =>
    if clustersOf p.fragments ≤ p.written then s.enterNotifying
    else (s.onCsu fun c => { c with store := .writing, restarted := false }).startExchange

/-! ## Placement (R181) -/

/-- The walk of the pool for `need` clusters: the fragments taken and the pool left; none when the pool runs out. -/
def walkPool (cluster : Nat) : Nat → List Extent → Option (List Fragment × List Extent)
  | 0, pool => some ([], pool)
  | _ + 1, [] => none
  | need + 1, e :: rest =>
    let holds := e.len / cluster
    if holds ≤ need + 1 then
      match walkPool cluster (need + 1 - holds) rest with
      | some (fs, left) => some ({ start := e.start, clusters := holds } :: fs, left)
      | none => none
    else
      some ([{ start := e.start, clusters := need + 1 }],
        { start := e.start + (need + 1) * cluster, len := e.len - (need + 1) * cluster } :: rest)

/-- The store places the current record (R181). -/
def State.placeCurrent (s : State) : State :=
  match s.csu.current with
  | none => s
  | some id =>
    let need := clustersFor s.csu.cluster (((s.record id).bind (·.length)).getD 0)
    let short : State := (s.onCsu fun c => { c with store := .waitSpace }).attention .store .needSpace need
    match walkPool s.csu.cluster need s.csu.pool with
    | none => short
    | some (fs, pool) =>
      if 16 < fs.length then short
      else
        let t := s.onCsu fun c =>
          { c with pool := pool, placement := some { fragments := fs, written := 0, ahead := [], retries := 0,
                                                     writeBacks := [],
                                                     deferred := .none, repeats := 0 } }
        if t.csu.card = .protect then t.enterPaused else t.resumeWriting

/-- The store takes the head of the queue as current record and places it (R178, row 3). -/
def State.takeHead (s : State) (id : Nat) : State :=
  State.placeCurrent
    ((s.setRecord id fun r => { r with state := .storing }).onCsu fun c =>
      { c with queue := c.queue.drop 1, current := some id, store := .placing })

/-- Rows 3 and 4 of the choice at a picture boundary (R178). -/
def State.takeOrIdle (s : State) : State :=
  match s.csu.queue with
  | id :: _ => s.takeHead id
  | [] => s.onCsu fun c => { c with store := .idle }

/-- The choice at a picture boundary (R178). -/
def State.boundaryChoice (s : State) : State :=
  if s.csu.card.ready = false then s.enterDisabled
  else if s.holdWaits || s.csu.card == .protect then s.enterPaused
  else s.takeOrIdle

/-! ## Drops (R186) -/

/-- The current record is given up with its placement. -/
def State.forgetCurrent (s : State) : State := s.onCsu fun c => { c with current := none, placement := none }

/-- The fragments of a DISCARDING record return to the pool and PBF frees the record (R186). -/
def State.returnDropped (s : State) (id : Nat) : State :=
  let t := s.onCsu fun c =>
    { c with pool := addExtents c.pool (s.placed.map (fragmentExtent c.cluster)) }
  (t.trimPool.freeRecord id).forgetCurrent

/-- The drop of the current record is completed (R186); in PAUSED and DISABLED the store stays where it is, and after a
RESTART it becomes DISABLED (log 26: DEDUCED, unsafe). -/
def State.completeDrop (s : State) : State :=
  match s.csu.current with
  | none => s
  | some id =>
    let t := s.returnDropped id
    match s.csu.store with
    | .paused => t
    | .disabled => t
    | _ => if s.csu.restarted then t.enterDisabled else t.boundaryChoice

/-! ## Cluster boundaries (R184) -/

/-- The first cluster not yet written, from `k` on: the clusters that count as written ahead of it are passed (R191). -/
def passAhead (k : Nat) : List Nat → Nat × List Nat
  | [] => (k, [])
  | j :: rest => if j = k then passAhead (k + 1) rest else (k, j :: rest)

/-- The placement after a cluster has been written: the count rises, the retry count is 0, the write-back is past (R182,
R191). With the last write-back past, a fault has a repeat count of 0 again (log 76: DEDUCED, unsafe). -/
def Placement.clusterWritten (p : Placement) : Placement :=
  let next := passAhead (p.written + 1) p.ahead
  let left := p.writeBacks.drop 1
  { p with written := next.1, ahead := next.2, retries := 0, writeBacks := left,
           repeats := if left = [] then 0 else p.repeats }

/-- A continuation that a RETRY carries out after its last write-back is still deferred (R191). -/
def State.defers (s : State) (k : Continuation) : Bool :=
  match s.csu.placement with
  | some p => p.deferred == k && p.writeBacks != []
  | none => false

/-- What a RETRY does where its last write-back is past, or a cluster boundary asks for: the rows 1 to 3 of R184; none
when none applies (log 37: DEDUCED, unsafe). A drop deferred to the last write-back is made at once where the store
stops before it, after a RESTART (R193) or with the card PROTECTED (log 56: DEDUCED, unsafe), and a hold waits for it
(R189). -/
def State.boundaryStop (s : State) : Option State :=
  let stops := s.csu.restarted || s.csu.card == .protect
  if s.discarding && (!s.defers .drop || stops) then some s.leaveExchange.completeDrop
  else if s.csu.restarted then some s.leaveExchange.enterDisabled
  else if (s.holdWaits && !s.defers .hold && !s.defers .drop) || s.csu.card == .protect then
    some s.leaveExchange.enterPaused
  else none

/-- A cluster is written and the store acts at the boundary (R184). -/
def State.clusterBoundary (s : State) (e : Exchange) : State :=
  match s.csu.placement with
  | none => s
  | some p =>
    let q := p.clusterWritten
    let t := s.onCsu fun c =>
      { c with placement := some q, exchange := some { e with counted := e.counted + 1 } }
    match t.boundaryStop with
    | some u => u
    | none =>
      if clustersOf q.fragments ≤ q.written then t.leaveExchange.enterNotifying
      else if e.clusters ≤ e.counted + 1 then t.leaveExchange.startExchange
      else t

/-! ## Faults (R183, R187, R188) -/

/-- The continuation a new fault record takes (R187). -/
def State.newContinuation (s : State) : Continuation :=
  if s.discarding then .drop else if s.holdWaits then .hold else .none

/-- The store enters FAULTED with a fault record, and ATTENTION is raised (R187). -/
def State.enterFaulted (s : State) (f : FaultRecord) : State :=
  (s.onCsu fun c =>
    { c with store := .faulted, fault := some f, exchange := none, restarted := false }).attention .store .fault f.format

/-- First block of a cluster of the current placement. -/
def State.clusterBlock (s : State) (k : Nat) : Nat :=
  match clusterPlace s.csu.cluster s.placed k with
  | some (b, _) => b
  | none => 0

/-- A block fault: a fault record of format 1 (R183, R187). `sent` is the number of blocks of the exchange sent; blocks of the
next cluster sent in an earlier exchange do not count (log 70: DESIGN CHOICE, unsafe). -/
def State.blockFault (s : State) (block sent : Nat) (response : FaultResponse) : State :=
  match s.csu.current, s.csu.placement with
  | some id, some p =>
    let k := p.written
    let counted := match s.csu.exchange with | some e => e.counted | none => 0
    let next := decide ((counted + 1) * s.csu.cluster < sent) && decide (k + 1 < clustersOf p.fragments)
    s.enterFaulted
      { format := 1, picture := id, written := p.count, place := some (k, block), response := some response,
        continuation := s.newContinuation, repeats := if p.writeBacks = [] then 0 else p.repeats,
        writeBacks := { cluster := k, block := s.clusterBlock k, valid := true } ::
          (if next then [{ cluster := k + 1, block := s.clusterBlock (k + 1), valid := true }] else []) }
  | _, _ => s

/-- A card loss during writing, or with clusters written: a fault record of format 2 (R187, R188). -/
def State.cardLossFault (s : State) (id written : Nat) : State :=
  s.enterFaulted
    { format := 2, picture := id, written := written, place := none, response := none,
      continuation := s.newContinuation, repeats := 0, writeBacks := [] }

/-- Number of block `i` of an exchange. -/
def State.exchangeBlock (s : State) (e : Exchange) (i : Nat) : Nat := s.clusterBlock e.first + i

/-- Blocks of an exchange sent: the card accepts one block ahead of the one whose token is awaited (R182). -/
def Exchange.sent (e : Exchange) (cluster : Nat) : Nat :=
  min (e.clusters * cluster) (e.accepted + if e.busy then 1 else 2)

/-- A token other than ACCEPTED (R183). -/
def State.badToken (s : State) (e : Exchange) (token : FaultResponse) : State :=
  match s.csu.placement with
  | none => s
  | some p =>
    if token = .crcError ∧ p.retries < 2 then
      State.startExchange
        (s.leaveExchange.onCsu fun c => { c with placement := some { p with retries := p.retries + 1 } })
    else
      let t := s.blockFault (s.exchangeBlock e e.accepted) (e.sent s.csu.cluster) token
      t.onCsu fun c => { c with awaiting := some .stop }

/-- The card's token for the block whose token is awaited (R182, R183). Every ACCEPTED token begins a busy, and no token is
read before it ends (log 79: DESIGN CHOICE, unsafe). -/
def State.takeToken (s : State) (token : Token) : State :=
  match s.csu.exchange with
  | none => s
  | some e =>
    if s.csu.store = .writing ∧ s.csu.awaiting = none ∧ e.busy = false ∧ e.accepted < e.clusters * s.csu.cluster then
      match token with
      | .accepted =>
        s.onCsu fun c => { c with exchange := some { e with accepted := e.accepted + 1, busy := true } }
      | .crcError => s.badToken e .crcError
      | .writeError => s.badToken e .writeError
    else s

/-- The card's busy ends, after a block or after a stop command (R182, R184). -/
def State.busyEnd (s : State) : State :=
  if s.csu.stopBusy then
    let t := s.onCsu fun c => { c with stopBusy := false }
    if t.csu.store = .writing then t.startExchange else t
  else
    match s.csu.exchange with
    | none => s
    | some e =>
      if s.csu.store = .writing ∧ e.busy = true then
        let d := { e with busy := false }
        let t := s.onCsu fun c => { c with exchange := some d }
        if d.accepted % s.csu.cluster = 0 then t.clusterBoundary d else t
      else s

/-- The store stands with an exchange left, or in one. -/
def StoreState.left : StoreState → Bool
  | .writing => true
  | .paused => true
  | .disabled => true
  | _ => false

/-- A timeout before the first block of the cluster in progress: a command left unanswered (R182), or the busy after a
stop command, that finds a cluster still to be written, in PAUSED and DISABLED too (R183; log 23: DEDUCED, unsafe). The
fault record names the first block of the first cluster not yet written (log 69: DESIGN CHOICE, unsafe). -/
def State.commandFault (s : State) : State :=
  match s.csu.placement with
  | some p =>
    if s.csu.store.left = true ∧ p.written < clustersOf p.fragments then
      s.blockFault (s.clusterBlock p.written) 0 .timeout
    else s
  | none => s

/-- A busy period of more than 250 ms (R182, R183). -/
def State.busyTimeout (s : State) : State :=
  if s.csu.stopBusy then (s.onCsu fun c => { c with stopBusy := false }).commandFault
  else
    match s.csu.exchange with
    | none => s
    | some e =>
      if s.csu.store = .writing ∧ e.busy = true then
        s.blockFault (s.exchangeBlock e (e.accepted - 1)) (e.sent s.csu.cluster) .timeout
      else s

/-! ## The block on the data lines (R182) -/

/-- The picture byte at an offset, as its pages hold it; zero beyond the picture's length. -/
def State.pictureByte (s : State) (r : PicRecord) (i : Nat) : Byte :=
  if i < r.length.getD 0 then
    readCell s.pbf.memory (r.pages.getD (i / pageBytes) 0 * pageBytes + i % pageBytes)
  else 0

/-- The block whose token is awaited: its number, its 512 bytes, and the check of each of the four data lines over the
bits that line carries, the register starting at 0 (R182). -/
def State.blockOnLines (s : State) : Option (Nat × List Byte × List (BitVec 16)) :=
  match s.csu.exchange, s.csu.current.bind s.record with
  | some e, some r =>
    let base := (e.first * s.csu.cluster + e.accepted) * 512
    let bytes := (List.range 512).map fun i => s.pictureByte r (base + i)
    some (s.exchangeBlock e e.accepted, bytes,
      [0, 1, 2, 3].map fun lane => checkOver 0#16 (Config.laneBits lane bytes))
  | _, _ => none

/-! ## Opening the card (R174) -/

/-- The CARD-OPEN ends: its command is given up, and the card is PRESENT unless OPENED (R174). -/
def State.endOpening (s : State) (cls : EndClass) (cause : Cause) (result : Option Nat) : State :=
  let stage := s.csu.opening.getD 0
  let opened := result == some 0
  let t := s.onCsu fun c =>
    { c with opening := none, awaiting := none, capacity := if opened then c.capacity else none,
             card := if opened then (if c.protect then .protect else .opened) else c.card }
  match t.entryOfKind .cardOpen with
  | none => t
  | some e =>
    t.ending e.tag cls cause .absent result (.cardOpen stage (if opened then t.csu.capacity else none) t.csu.protect)

/-- A stage of the opening has ended well: a unit; a STOP ends it after stage 1 or 2, else the next command is sent. -/
def State.stageDone (s : State) (command : CardCommand) : State :=
  match s.entryOfKind .cardOpen with
  | none => s
  | some e =>
    let t := s.countUnit e.tag
    if e.state = .stopping then t.endOpening .partialEnd (s.recordedCause e.tag) none
    else t.onCsu fun c => { c with opening := c.opening.map (· + 1), awaiting := some command }

/-- Stage 3 has ended well: COMPLETE, OPENED. -/
def State.openingDone (s : State) : State :=
  let t := s.onCsu fun c => { c with wide := true, clockFull := true }
  match t.entryOfKind .cardOpen with
  | none => t
  | some e => (t.countUnit e.tag).endOpening .complete .none (some 0)

/-- A card response in the opening (R174, log 36: DEDUCED, unsafe). A stage that fails while the opening is STOPPING ends it
COMPLETE with its result code (R7, log 66: DESIGN CHOICE, unsafe). -/
def State.openingResponse (s : State) (command : CardCommand) (r : CardResponse) : State :=
  match command, r with
  | .reset, .accepted => s.onCsu fun c => { c with awaiting := none }
  | .reset, .refused => s.onCsu fun c => { c with awaiting := none }
  | .conditionQuery, .ready => s.stageDone .identity
  | .conditionQuery, .notReady => s.onCsu fun c => { c with awaiting := none }
  | .identity, .identity blockSize capacity =>
    if blockSize ≠ 512 ∨ capacity = 0 then s.endOpening .complete .none (some 2)
    else (s.onCsu fun c => { c with capacity := some capacity }).stageDone .select
  | .select, .accepted => s.onCsu fun c => { c with awaiting := some .busWidth }
  | .select, .refused => s.endOpening .complete .none (some 2)
  | .busWidth, .accepted => s.openingDone
  | .busWidth, .refused => s.endOpening .complete .none (some 2)
  | _, _ => s

/-- A card response in a write exchange (R182): a refusal counts as a command unanswered (log 22: DEDUCED, unsafe). -/
def State.writeResponse (s : State) (command : CardCommand) (r : CardResponse) : State :=
  match command, r with
  | .blockCount _, .accepted =>
    (match s.csu.exchange with
     | some e => s.onCsu fun c => { c with awaiting := some (.writeMultiple (s.clusterBlock e.first)) }
     | none => s)
  | .writeMultiple _, .accepted => s.onCsu fun c => { c with awaiting := none }
  | .stop, .accepted => s.onCsu fun c => { c with awaiting := none, stopBusy := true }
  | .blockCount _, .refused => (s.onCsu fun c => { c with awaiting := none }).commandFault
  | .writeMultiple _, .refused => (s.onCsu fun c => { c with awaiting := none }).commandFault
  | .stop, .refused => (s.onCsu fun c => { c with awaiting := none }).commandFault
  | _, _ => s

/-- The card answers the command sent to it; a response to no command, or one that does not fit it, is not read
(log 32: DEDUCED, unsafe). -/
def State.cardAnswers (s : State) (r : CardResponse) : State :=
  match s.csu.awaiting with
  | none => s
  | some command => if s.csu.opening.isSome then s.openingResponse command r else s.writeResponse command r

/-- A command stays unanswered for 5 ms (R174, R182): the first one ends an opening, in stage 1 too (log 68: DEDUCED,
unsafe), and a stopping one ends COMPLETE, NO_RESPONSE as well (log 66: DESIGN CHOICE, unsafe). -/
def State.cardSilent (s : State) : State :=
  match s.csu.awaiting with
  | none => s
  | some _ =>
    if s.csu.opening.isSome then s.endOpening .complete .none (some 1)
    else (s.onCsu fun c => { c with awaiting := none }).commandFault

/-! ## Card detect and write-protect (R172, R188) -/

/-- The store at a card removal, its current record not DISCARDING (R188). -/
def State.storeLosesCard (s : State) : State :=
  let forget : State := s.onCsu fun c => { c with placement := none }
  let written := match s.csu.placement with | some p => p.count | none => 0
  match s.csu.store, s.csu.current with
  | .writing, some id => s.cardLossFault id written
  | .paused, some id => if 0 < written then s.cardLossFault id written else forget.enterDisabled
  | .disabled, some id => if 0 < written then s.cardLossFault id written else forget.enterDisabled
  | .notifying, _ => s
  | .faulted, _ => s
  | _, _ => forget.enterDisabled

/-- A card removal (R172, R188). The ENDING of an opening joins the outbox before ATTENTION CARD (log 59: DESIGN CHOICE,
unsafe). -/
def State.cardRemoved (s : State) : State :=
  let t := if s.csu.opening.isSome then s.endOpening .terminated .cardGone none else s
  let t := t.onCsu fun c =>
    { c with card := .absent, cdet := false, capacity := none, pool := [], awaiting := none, exchange := none,
             stopBusy := false }
  let t := t.attention .card .removed 0
  match t.csu.current with
  | some id =>
    if t.discarding = true ∧ t.csu.store ≠ .faulted then (t.freeRecord id).forgetCurrent.enterDisabled
    else t.storeLosesCard
  | none => t.storeLosesCard

/-- A card is seated (R172); the level the flag takes is the one the event carries, the line's or the one last taken
(log 80: DESIGN CHOICE, unsafe). -/
def State.cardInserted (s : State) (protectLevel : Bool) : State :=
  (s.onCsu fun c => { c with card := .present, cdet := true, cwp := protectLevel, protect := protectLevel }).attention
    .card .inserted (flagCode protectLevel)

/-- The write-protect switch changes (R172). A change that a PRESENT card takes with the flag at its level already, from a
switch that moved within the 20 ms before the insertion, leaves the flag and raises no ATTENTION (log 80: DESIGN CHOICE,
unsafe); a level that an OPEN or PROTECTED card stands at already is no change (log 3: DESIGN CHOICE, safe). -/
def State.protectChanged (s : State) (level : Bool) : State :=
  let t := s.onCsu fun c => { c with cwp := level }
  let on := (t.onCsu fun c => { c with protect := true }).attention .card .protectOn 0
  let off := (t.onCsu fun c => { c with protect := false }).attention .card .protectOff 0
  match s.csu.card with
  | .absent => t
  | .present => if level = s.csu.protect then t else if level then on else off
  | .opened => if level then on.onCsu fun c => { c with card := .protect } else t
  | .protect => if level then t else off.onCsu fun c => { c with card := .opened }

/-! ## FAULT-RETURN (R190 to R192) -/

/-- A relocation of an edited record: the write-back's cluster and its new start block. -/
def relocations (w : List WriteBackOperand) : List (Nat × Nat) :=
  w.filterMap fun x => x.relocation.map fun b => (x.cluster, b)

/-- One relocated cluster is cut out of its fragment (R191, step 2). -/
def recutOne (cluster k block : Nat) : List Fragment → List Fragment
  | [] => []
  | f :: rest =>
    if k < f.clusters then
      (if k = 0 then [] else [{ start := f.start, clusters := k }]) ++
        { start := block, clusters := 1 } ::
          (if k + 1 = f.clusters then rest
           else { start := f.start + (k + 1) * cluster, clusters := f.clusters - (k + 1) } :: rest)
    else f :: recutOne cluster (k - f.clusters) block rest

/-- The re-cut fragment list of a RETRY. -/
def recut (cluster : Nat) (fragments : List Fragment) (moves : List (Nat × Nat)) : List Fragment :=
  moves.foldl (fun fs m => recutOne cluster m.1 m.2 fs) fragments

/-- A cluster lies wholly inside the extent, a whole number of clusters from its start (R190, check 6). -/
def clusterInside (cluster block : Nat) (e : Extent) : Bool :=
  decide (e.start ≤ block) && decide (block + cluster ≤ e.start + e.len) && (block - e.start) % cluster == 0

/-- The relocations of a RETRY stand on set write-backs (log 71), lie in the pool and do not overlap (R190, check 6). -/
def relocationsFit (cluster : Nat) (pool : List Extent) (w : List WriteBackOperand) : Bool :=
  (w.all fun x => x.relocation.isNone || x.valid != 0) &&
    ((relocations w).all fun m => pool.any (clusterInside cluster m.2)) &&
    (firstOverlap 1 [] ((relocations w).map fun m => { start := m.2, len := cluster })).isNone

/-- The write-backs of an edited record agree with the held ones (R190, check 4); a valid flag is set when it is not 0 (log
71: DESIGN CHOICE, unsafe). -/
def writeBacksAgree (held : List WriteBack) (w : List WriteBackOperand) : Bool :=
  held.length == w.length &&
    (held.zip w).all fun p => p.1.cluster == p.2.cluster && (p.2.valid == 0 || p.1.valid)

/-- The number of the first check of R190 that an edited record fails. -/
def State.formatFault (s : State) (h : FaultRecord) (disposition : Nat) (f : FaultOperands) : Option Nat :=
  if f.format ≠ h.format then some 1
  else if f.picture ≠ h.picture then some 2
  else if continuationOf f.continuation ≠ some h.continuation ∧ continuationOf f.continuation ≠ some .none then some 3
  else if writeBacksAgree h.writeBacks f.writeBacks = false then some 4
  else if disposition = 0 ∧ h.format = 2 then some 5
  else if disposition = 0 ∧ relocationsFit s.csu.cluster s.csu.pool f.writeBacks = false then some 6
  else if disposition = 0 ∧ 16 < (recut s.csu.cluster s.placed (relocations f.writeBacks)).length then some 7
  else none

/-- The refusal of a FAULT-RETURN, or the fault record it returns (R190). -/
def State.returnFault (s : State) (disposition : Nat) (f : FaultOperands) : (Code × Nat) ⊕ FaultRecord :=
  match s.csu.fault with
  | none => .inl (.noSuch, 0)
  | some h =>
    if 2 < disposition then .inl (.field, 0)
    else
      match s.formatFault h disposition f with
      | some k => .inl (.format, k)
      | none =>
        if disposition = 0 ∧ s.csu.card ≠ .opened then .inl (.noCard, if s.csu.card = .protect then 1 else 0)
        else .inr h

/-- A relocation cluster is taken out of the pool extent that holds it (R191, step 1). -/
def takeCluster (cluster block : Nat) : List Extent → List Extent
  | [] => []
  | e :: rest =>
    if clusterInside cluster block e then
      (if block = e.start then [] else [{ start := e.start, len := block - e.start }]) ++
        (if block + cluster = e.start + e.len then rest
         else { start := block + cluster, len := e.start + e.len - (block + cluster) } :: rest)
    else e :: takeCluster cluster block rest

/-- The clusters that count as written after a RETRY is taken, from the first not yet written on: the write-backs whose
valid flag is cleared, and those an earlier RETRY counted and this record does not name (R191, step 3). -/
def countedAhead (ahead : List Nat) (w : List WriteBackOperand) : List Nat :=
  (w.filter fun x => x.valid == 0).map (·.cluster) ++ ahead.filter fun j => !(w.any fun x => x.cluster == j)

/-- A RETRY is carried out (R191, log 41: DEDUCED, unsafe); the repeat count of a fault to come is the returned record's plus
one. With no write-back left to write, its continuation is carried out at once (log 72: DESIGN CHOICE, unsafe). -/
def State.retry (s : State) (id : Nat) (k : Continuation) (f : FaultOperands) : State :=
  match s.csu.placement with
  | none => s
  | some p =>
    let moves := relocations f.writeBacks
    let t := s.onCsu fun c => { c with pool := moves.foldl (fun l m => takeCluster c.cluster m.2 l) c.pool }
    let next := passAhead p.written (countedAhead p.ahead f.writeBacks)
    let left := (f.writeBacks.filter fun w => w.valid != 0).map (·.cluster)
    let q : Placement :=
      { fragments := recut s.csu.cluster p.fragments moves, written := next.1, ahead := next.2, retries := 0,
        writeBacks := left, deferred := k, repeats := min 255 (f.repeats + 1) }
    let t := if k = .drop then t.trimPool else t.trimPool.setRecord id fun r => { r with state := .storing }
    let t := t.onCsu fun c => { c with placement := some q, store := .writing, restarted := false }
    if left = [] then
      (if k = .drop then t.completeDrop
       else if k = .hold then t.enterPaused
       else t.resumeWriting)
    else t.resumeWriting

/-- The end of a RESTART or DROP disposition (R192). -/
def State.afterDisposition (s : State) (k : Continuation) : State :=
  let t := s.forgetCurrent
  if k = .hold then t.enterPaused else t.boundaryChoice

/-- The disposition of an accepted FAULT-RETURN is carried out with the edited continuation (R190 to R192): 0 RETRY,
1 RESTART, 2 DROP. -/
def State.dispose (s : State) (h : FaultRecord) (disposition : Nat) (f : FaultOperands) : State :=
  let k := (continuationOf f.continuation).getD .none
  let t := s.onCsu fun c => { c with fault := none }
  if disposition = 0 then t.retry h.picture k f
  else if disposition = 1 ∧ k ≠ .drop then
    ((t.setRecord h.picture fun r => { r with state := .complete }).onCsu fun c =>
      { c with queue := h.picture :: c.queue }).afterDisposition k
  else (t.freeRecord h.picture).afterDisposition k

/-- Set the continuation of the fault record, if one is held. -/
def State.setContinuation (s : State) (f : Continuation → Continuation) : State :=
  s.onCsu fun c => { c with fault := c.fault.map fun r => { r with continuation := f r.continuation } }

/-! ## PICTURE-DROP of the current record (R168, R186, R189) -/

/-- The current record has become DISCARDING. -/
def State.dropCurrent (s : State) : State :=
  match s.csu.store with
  | .waitSpace => s.completeDrop
  | .paused => s.completeDrop
  | .disabled => s.completeDrop
  | .faulted => s.setContinuation fun _ => .drop
  | _ => s

/-! ## STORED sent, and the RESTART (R185, R193) -/

/-- The transmission of a STORED notice has ended (R185). -/
def State.storedSent (s : State) (id : Nat) : State :=
  if s.csu.store = .notifying ∧ s.csu.current = some id then (s.freeRecord id).forgetCurrent.boundaryChoice else s

/-- CSU at a RESTART, the operation table already emptied (R174, R193). -/
def State.restartCsu (s : State) : State :=
  let t :=
    if s.csu.opening.isSome then
      s.onCsu fun c => { c with opening := none, awaiting := none, capacity := none }
    else s
  let t := t.forgetHold
  match t.csu.store with
  | .writing => t.onCsu fun c => { c with restarted := true }
  | .faulted => t.setContinuation fun k => if k = .hold then .none else k
  | _ => t.onCsu fun c => { c with store := .disabled }

end Sys2Proof.Machine
end

