-- ==== Sys2Proof/Machine/Layout.lean ====
section
/-! DEFINITION. Byte layouts of what the part sends (section 12.7, R202, R203): replies, notices, the QUERY sections (R200),
and the whole packet with its check (R197). What R203 leaves open in the layouts is log 20's (DESIGN CHOICE, unsafe). -/

namespace Sys2Proof.Machine

/-! ## Pieces -/

def putFlag (b : Bool) : List Byte := put1 (flagCode b)

/-- A signed 16-bit field that may be absent: FFFF hex (R202). -/
def putSignedOption : Option Int → List Byte
  | none => put2 65535
  | some x => putSigned x

/-- A list after a count byte. -/
def putCounted {α : Type} (put : α → List Byte) (l : List α) : List Byte := put1 l.length ++ l.flatMap put

/-- The 14 bytes of a shot record (section 12.7); an absent one in absent forms (log 20: DESIGN CHOICE, unsafe). -/
def putShot : Option ShotRecord → List Byte
  | some r =>
    putSigned r.tv ++ putSigned r.av ++ putSigned r.gv ++ put2 r.focal ++ put2 r.d ++ put1 (stuStateCode r.stu) ++
      putFlag r.late ++ put2 r.frame
  | none => put2 65535 ++ put2 65535 ++ put2 65535 ++ put2 65535 ++ put2 65535 ++ put1 255 ++ put1 255 ++ put2 65535

def putAxisOption (a : Option Axis) : List Byte := putOption1 (a.map axisCode)

/-- One picture of a SHOOT's list: 7 bytes; an outcome is always known when a SHOOT ends. -/
def putPicture (p : Picture) : List Byte :=
  put2 p.id ++ put1 p.pos ++ putSigned p.x ++ put1 (clampCode p.clamp) ++ putOption1 (p.outcome.map outcomeCode)

/-! ## ENDING (section 12.7) -/

/-- Resume operands in the byte form of the request's payload. -/
def resumeBytes : Resume → List Byte
  | .absent => []
  | .home mask => put1 mask
  | .move axis target => put1 (axisCode axis) ++ put2 target
  | .zoom target => put2 target
  | .scan ops => putScan ops
  | .prepare start stop => put2 start ++ put2 stop
  | .context z d => put2 z ++ put2 d
  | .shoot program count => put1 program ++ put1 count

/-- One axis in the result fields of a HOME (R31). -/
def putHomeField (f : HomeField) : List Byte := putFlag f.named ++ putOption2 f.pp ++ put2 f.count

/-- The result fields of a SCAN (R107); the linked window takes one byte (log 20: DESIGN CHOICE, unsafe). -/
def putScanFields (f : ScanFields) : List Byte :=
  putOption2 f.finalPP ++ put2 f.start ++ put2 f.stop ++ putFlag f.clampFlag ++ putFlag f.countFlag ++
    putOption2 (f.best.map (·.1)) ++ putOption4 (f.best.map (·.2)) ++ put2 f.rise ++ putOption1 f.window ++ put2 f.d

/-- Result fields of an ending, in the order the kind's chapter lists them; of a GYRO-CAL's last window yaw's spread and
mean go before pitch's, and a CARD-OPEN's stage reached takes one byte (log 20: DESIGN CHOICE, unsafe). -/
def fieldBytes : EndFields → List Byte
  | .home z f i => putHomeField z ++ putHomeField f ++ putHomeField i
  | .move axis pp clampFlag target d =>
    put1 (axisCode axis) ++ putOption2 pp ++ putFlag clampFlag ++ put2 target ++ put2 d
  | .zoom zoomPP focusPP lost clampFlag target d =>
    putOption2 zoomPP ++ putOption2 focusPP ++ putAxisOption lost ++ putFlag clampFlag ++ put2 target ++ put2 d
  | .park zoomPP focusPP irisPP lost =>
    putOption2 zoomPP ++ putOption2 focusPP ++ putOption2 irisPP ++ putAxisOption lost
  | .scan f => putScanFields f
  | .prepare f x stu => putScanFields f ++ putSignedOption x ++ put1 (stuStateCode stu)
  | .gyro offset windows last =>
    putValue (offset.map (·.1)) ++ putValue (offset.map (·.2)) ++ put2 windows ++
      putOption2 (last.map (·.spreadYaw)) ++ putSignedOption (last.map (·.meanYaw)) ++
      putOption2 (last.map (·.spreadPitch)) ++ putSignedOption (last.map (·.meanPitch))
  | .context left leftStatus active kind link clampFlag zoomPP focusPP d focusTarget exc stu =>
    put1 left ++ put1 (slotStatusCode leftStatus) ++ put1 active ++ put1 (contextKindCode kind) ++ putOption1 link ++
      putFlag clampFlag ++ putOption2 zoomPP ++ putOption2 focusPP ++ put2 d ++ putOption2 focusTarget ++
      put1 (excStateCode exc) ++ put1 (stuStateCode stu)
  | .shoot program first last shutter x own scan pictures =>
    put1 program ++ put1 first ++ put1 last ++ put1 (shutterCode shutter) ++ putSignedOption x ++ putFlag own ++
      putOption1 (scan.map fun e => classCode e.cls) ++ putOption1 (scan.map fun e => causeCode e.cause) ++
      putOption1 (scan.bind fun e => e.result.map scanResultCode) ++ putOption2 (scan.bind (·.finalPP)) ++
      putCounted putPicture pictures
  | .cardOpen stage capacity protect => put1 stage ++ putOption4 capacity ++ putFlag protect
  | .storeHold store current queue =>
    put1 (storeStateCode store) ++ putOption2 (current.map (·.1)) ++ putOption2 (current.map (·.2)) ++ put2 queue

/-- The payload of an ENDING. -/
def endingBytes (e : Ending) : List Byte :=
  put1 (opKindCode e.kind) ++ put1 (classCode e.cls) ++ put1 (causeCode e.cause) ++ put2 e.done ++
    put1 (resumeBytes e.resume).length ++ resumeBytes e.resume ++ putOption1 e.result ++ fieldBytes e.fields

/-- The payload of a notice. -/
def noticeBytes : Notice → List Byte
  | .ending e => endingBytes e
  | .attention source condition detail count =>
    put1 (sourceCode source) ++ put1 (conditionCode condition) ++ put4 detail ++ put1 count
  | .exposure serial tv av gv time clamp =>
    put2 serial ++ putSigned tv ++ putSigned av ++ putSigned gv ++ put4 time ++ put1 (clampCode clamp) ++
      put1 (clampAmount clamp)
  | .expose picture tv av gv time shutter =>
    put2 picture ++ putSigned tv ++ putSigned av ++ putSigned gv ++ put4 time ++ put1 (shutterCode shutter)
  | .stored picture length cluster shot fragments =>
    put2 picture ++ put4 length ++ put2 cluster ++ putShot shot ++ putCounted putFragment fragments
  | .ready reason => put1 (readyCode reason)

/-- The kind code of a notice (section 12.5). -/
def noticeKind : Notice → Nat
  | .ending _ => 0x90
  | .exposure _ _ _ _ _ _ => 0x91
  | .expose _ _ _ _ _ _ => 0x92
  | .stored _ _ _ _ _ => 0x93
  | .attention _ _ _ _ => 0x94
  | .ready _ => 0x95

/-- The tag of a notice: the operation's on ENDING, 0 on the others (R12). -/
def noticeTag : Notice → Nat
  | .ending e => e.tag
  | _ => 0

/-! ## Replies -/

def replyKind : ReplyBody → Nat
  | .done _ => 0x80
  | .accepted _ => 0x81
  | .refused _ _ => 0x82

def replyBytes : ReplyBody → List Byte
  | .done payload => payload
  | .accepted kind => put1 (opKindCode kind)
  | .refused code detail => put1 (refusalCode code) ++ put2 detail

/-! ## Packets (section 12.2) -/

/-- A byte on the line (R195): a start bit, low, eight data bits, the least significant first, and a stop bit, high. -/
def lineBits (b : Byte) : List Bool := false :: (List.range 8).map (fun i => b.getLsbD i) ++ [true]

/-- The bytes of a packet on LTX. -/
def packetBytes (kind tag : Nat) (payload : List Byte) : List Byte :=
  let covered := [byteOf payload.length, byteOf kind, byteOf tag] ++ payload
  0xA5#8 :: covered ++ put2 (packetCheck covered).toNat

/-- The packet of a reply or notice. -/
def txPacket : TxItem → TxPacket
  | .reply r => { item := .reply r, bytes := packetBytes (replyKind r.body) r.tag (replyBytes r.body) }
  | .notice n => { item := .notice n, bytes := packetBytes (noticeKind n) (noticeTag n) (noticeBytes n) }

/-- The bits of the packet being sent, its bytes back to back (R195). -/
def State.ltxBits (s : State) : List Bool :=
  match s.lif.tx with
  | some p => p.bytes.flatMap lineBits
  | none => []

/-- The level of LTX, `i` bit times into the packet being sent; LTX idles high (R195). -/
def State.ltxLevel (s : State) (i : Nat) : Bool := s.ltxBits.getD i true

/-- Bits in a second on LRX and LTX, by the strap as sampled at hardware reset (R195). -/
def State.bitRate (s : State) : Nat := if s.lif.rateHigh then 3000000 else 1500000

/-! ## QUERY (R200) -/

/-- The fields of a frame record that FMN's part reports as flags (R66). -/
def putFrameFlags (r : FrameRec) : List Byte :=
  putFlag r.movingZoom ++ putFlag r.movingFocus ++ putFlag r.movingIris ++ putFlag r.unsteady ++ putFlag r.hostMark ++
    putFlag r.expChanged ++ putFlag r.stats ++ putFlag r.offerHeld

/-- R18; the entries go in the order in which they were accepted (log 67: DESIGN CHOICE, unsafe), a tag in one byte (log 20:
DESIGN CHOICE, unsafe). -/
def State.queryOpt (s : State) : List Byte :=
  putCounted
      (fun e : OpEntry =>
        put1 e.tag ++ put1 (opKindCode e.kind) ++ put1 (opStateCode e.state) ++ put2 e.done ++ putOption2 e.planned)
      s.opt.table ++
    put2 (s.opt.outbox.filter fun n => match n with | .ending _ => true | _ => false).length ++
    put2 s.opt.outbox.length

/-- One axis in LDU's part. -/
def putAxis (r : AxisRec) : List Byte :=
  putOption2 r.pp ++ put1 (axisStateCode r.state) ++ putOption2 r.target ++ putOption1 (r.owner.map ownerCode) ++
    put2 r.homingCount

/-- LDU's part (R200); the axes that hold the slots go in code order (log 20: DESIGN CHOICE, unsafe). -/
def State.queryLdu (s : State) : List Byte :=
  putAxis s.ldu.zoom ++ putAxis s.ldu.focus ++ putAxis s.ldu.iris ++ put2 s.ldu.d ++
    putAxisOption s.slotHolders[0]? ++ putAxisOption s.slotHolders[1]? ++
    putCounted (fun a => put1 (axisCode a)) s.ldu.waitList ++ putOption2 (s.ldu.pendingIris.map (·.value))

def State.queryOtb (s : State) : List Byte :=
  put1 (tableStateCode s.otb.state) ++ put2 (s.otb.nodes.filter (·.written)).length ++
    (if s.otb.state = .valid then put2 s.wideEnd ++ put2 s.teleEnd else put2 65535 ++ put2 65535)

/-- R66. -/
def State.queryFmn (s : State) : List Byte :=
  let filed := s.fmn.ring.filter (·.stats)
  put2 s.fmn.counter ++ put2 s.fmn.ring.length ++ put2 filed.length ++
    (match s.openRecord with
     | some r => putFrameFlags r
     | none => List.replicate 8 0#8) ++
    (match filed.getLast? with
     | some r => put2 r.number ++ putFrameFlags r
     | none => put2 65535 ++ List.replicate 8 0xFF#8) ++
    put2 s.fmn.stale

/-- R91; the setting of the newest entry is sent as EXPOSURE carries one, its X left out, and the clamp state as EXPOSURE
carries it, the code and then the amount in one byte, and the linked window in one byte (log 20: DESIGN CHOICE, unsafe). -/
def State.queryExc (s : State) : List Byte :=
  put1 (excStateCode s.excState) ++ put1 (lockCode s.exc.lock) ++ putSignedOption s.xLocked ++ putValue s.exc.x ++
    putSignedOption s.exc.latest ++ put1 (clampCode s.exc.clamp) ++ put1 (clampAmount s.exc.clamp) ++
    put1 s.exc.window ++ put2 s.exc.ring.length ++
    (match s.exc.ring.getLast? with
     | some e => put2 e.serial ++ putSigned e.tv ++ putSigned e.av ++ putSigned e.gv
     | none => put2 65535 ++ put2 65535 ++ put2 65535 ++ put2 65535)

/-- The user of a scan: 0 SCAN and its tag, 1 PREPARE, 2 focus-first, 3 REFINE; one byte each (log 20: DESIGN CHOICE,
unsafe). -/
def putScanUser : ScanUser → List Byte
  | .scan tag _ => put1 0 ++ put1 tag
  | .prepare => put1 1 ++ put1 255
  | .focusFirst => put1 2 ++ put1 255
  | .refine _ _ => put1 3 ++ put1 255

/-- R110; an IDLE scan is sent as code 0 and absent forms (log 20: DESIGN CHOICE, unsafe). -/
def State.queryFsu (s : State) : List Byte :=
  match s.fsu.scan with
  | none =>
    put1 0 ++ put1 255 ++ put1 255 ++ put1 255 ++ put2 65535 ++ put2 65535 ++ put2 65535 ++ put2 65535 ++ put2 65535 ++
      put4 4294967295
  | some c =>
    put1 (scanPhaseCode c.phase) ++ putScanUser c.user ++ put1 c.index ++ put2 c.plan.planned ++ put2 c.p ++
      putOption2 c.mark ++ put2 c.waitCount ++ putOption2 (c.best.map (·.pos)) ++ putOption4 (c.best.map (·.value))

/-- One axis of R127: shift target and measured shift as signed 2-byte fields (log 20: DESIGN CHOICE, unsafe). -/
def putSteadyAxis (a : SteadyAxis) : List Byte :=
  putSigned a.target ++ putSigned a.measured ++ put2 a.saturated ++ put2 a.supervised

/-- R127; the leak takes one byte (log 20: DESIGN CHOICE, unsafe). -/
def State.queryStu (s : State) : List Byte :=
  put1 (stuStateCode s.stu.state) ++ put1 (steadyModeCode s.stu.mode) ++ put1 s.stu.leak ++
    putValue (s.stu.offset.map (·.1)) ++ putValue (s.stu.offset.map (·.2)) ++ putFlag s.stu.window ++
    putFlag s.stu.fault ++ putSteadyAxis s.stu.yaw ++ putSteadyAxis s.stu.pitch ++
    putOption2 (s.stu.cal.map (·.failed)) ++ putOption2 (s.stu.cal.map (·.samples))

/-- Present descriptors below the limit (R130, R140). -/
def State.presentPrograms (s : State) : Nat := ((s.pcs.programs.take s.pcs.limit).filter (·.isSome)).length

/-- Status, kind and back link of a slot; an EMPTY one has no kind. -/
def putSlotHead (c : Slot) : List Byte :=
  put1 (slotStatusCode c.status) ++ (if c.status = .empty then put1 255 else put1 (contextKindCode c.kind)) ++
    putOption1 c.link

/-- R140; the program limit and the unit in progress take one byte each (log 20: DESIGN CHOICE, unsafe). -/
def State.queryPcs (s : State) : List Byte :=
  put1 s.pcs.limit ++ put2 s.presentPrograms ++ put1 s.activeIndex ++ s.pcs.slots.flatMap putSlotHead ++
    (match s.pcs.op with
     | some { phase := .zoom, target := target, .. } => put1 2 ++ put2 target
     | some { phase := .focus, target := target, .. } => put1 3 ++ put2 target
     | _ => put1 255 ++ put2 65535)

/-- The picture in hand, while its record holds a reservation: until its intake ends (R147, R158). -/
def State.handId (s : State) : Option Nat :=
  (s.csq.capture.bind (·.hand)).bind fun h =>
    (s.record h.id).bind fun r => if r.state = .reserved ∨ r.state = .filling then some h.id else none

/-- R158; the user is a kind code and its tag, one byte each (log 20: DESIGN CHOICE, unsafe). -/
def State.queryCsq (s : State) : List Byte :=
  let c := s.csq.capture
  let shoot := c.bind fun c => if c.kind = .shoot then some c else none
  let hand := c.bind (·.hand)
  let failure := c.bind (·.failure)
  put1 (csqStateCode s.csq.state) ++ putOption1 (c.map fun c => opKindCode c.kind) ++ putOption1 (c.map (·.tag)) ++
    putOption2 (shoot.map (·.pos)) ++ putOption2 (shoot.map (·.first)) ++ putOption2 (shoot.map (·.last)) ++
    putOption2 s.handId ++ putCounted put2 s.csq.pendingIntake ++
    putFlag ((hand.map (·.arming)).getD false) ++ putFlag s.csq.recharge ++
    putOption1 (failure.map fun f => classCode f.1) ++ putOption1 (failure.map fun f => causeCode f.2) ++
    put2 s.csq.nextId

/-- The count of records in a state. -/
def State.recordsIn (s : State) (state : RecordState) : Nat :=
  (s.pbf.records.filter fun r => r.state == state).length

/-- R171; bytes received and the drain count take four bytes, the bytes held by the FIFO two (log 20: DESIGN CHOICE,
unsafe). -/
def State.queryPbf (s : State) : List Byte :=
  let intake := match s.pbf.engine with | .data id => s.record id | _ => none
  let drain := match s.pbf.engine with | .drain n => some n | _ => none
  put2 s.pbf.freePages.length ++ put2 s.pbf.reserve ++ put2 (s.recordsIn .reserved) ++ put2 (s.recordsIn .filling) ++
    put2 (s.recordsIn .complete) ++ put2 (s.recordsIn .storing) ++ put2 (s.recordsIn .discarding) ++
    putFlag s.pbf.request ++ put1 (engineCode s.pbf.engine) ++ putOption2 (intake.map (·.id)) ++
    putOption4 (intake.bind (·.length)) ++ putOption4 (intake.map (·.received)) ++ putOption4 drain ++
    put2 s.fifoBytes ++ putFlag (s.pbf.fifo.any fun i => match i with | .gap _ => true | .byte _ => false) ++
    putFlag s.ihold

/-- R194; the cluster size and the length of the store queue take two bytes each (log 20: DESIGN CHOICE, unsafe), and the
clusters of a pool that holds more than 65,535 are sent modulo 65,536 (log 73: DESIGN CHOICE, unsafe). -/
def State.queryCsu (s : State) : List Byte :=
  let needed := s.csu.current.map fun id => clustersFor s.csu.cluster (((s.record id).bind (·.length)).getD 0)
  let written := s.csu.current.map fun _ => match s.csu.placement with | some p => p.count | none => 0
  put1 (cardStateCode s.csu.card) ++ putFlag s.csu.protect ++
    putOption4 (if s.csu.card.ready then s.csu.capacity else none) ++ put1 (storeStateCode s.csu.store) ++
    put2 s.csu.cluster ++ put2 s.csu.queue.length ++ putOption2 s.csu.current ++ putOption2 needed ++
    putOption2 written ++ put2 s.csu.pool.length ++ put2 s.poolClusters ++ putFlag s.csu.fault.isSome ++
    putOption1 (s.csu.fault.map (·.format)) ++ putOption2 (s.csu.fault.map (·.repeats))

/-- The part of a block a QUERY section names (R200); none above section 10. -/
def State.querySection (s : State) : Nat → Option (List Byte)
  | 0 => some s.queryOpt
  | 1 => some s.queryLdu
  | 2 => some s.queryOtb
  | 3 => some s.queryFmn
  | 4 => some s.queryExc
  | 5 => some s.queryFsu
  | 6 => some s.queryStu
  | 7 => some s.queryPcs
  | 8 => some s.queryCsq
  | 9 => some s.queryPbf
  | 10 => some s.queryCsu
  | _ => none

/-! ## DONE payloads of other requests -/

/-- The contents of a descriptor as PROGRAM-SET carries them; an absent one in absent forms (R129). -/
def programBytes (index : Nat) : Option Program → List Byte
  | none => put1 index ++ put1 0 ++ List.replicate 7 0xFF#8
  | some p =>
    put1 index ++ put1 1 ++ put1 (programKindCode p.kind) ++ put1 p.mask ++ put1 p.count ++ putOption1 p.step ++
      put1 p.interval ++ putFlag p.refine ++ putFlag p.focusFirst

/-- The reply of a CONTEXT-READ (R134): for the ACTIVE slot the working copy; the settings have the layouts that METER-SET,
AF-SET and CONTEXT-SET give their operands (log 20: DESIGN CHOICE, unsafe). -/
def State.contextBytes (s : State) (i : Nat) : List Byte :=
  let c := s.slot i
  let live := if c.status = .active then s.workingCopy c else c
  let zoom := if c.status = .active then s.ldu.zoom.pp else some c.zoomStep
  if c.status = .empty then put1 (slotStatusCode .empty)
  else
    putSlotHead c ++ putOption2 zoom ++ put2 live.d ++ putValue live.x ++ putMeter (meterOperands live.meter) ++
      putAf (afOperands live.af) ++ put1 (steadyModeCode live.mode) ++ put1 live.leak ++ putOption2 live.interval

/-- The reply of a PICTURE-READ (R169). R203 names no width for a tag or for the bytes received: the capture tag takes
1 byte, the bytes received take 4, and an absent shot record its 14 bytes (log 20: DESIGN CHOICE, unsafe). -/
def pictureBytes (r : PicRecord) : List Byte :=
  put2 r.id ++ put1 r.tag ++ put1 r.pos ++ put1 (recordStateCode r.state) ++ put2 r.reserved.length ++
    put2 r.pages.length ++ putOption4 r.length ++ put4 r.received ++ putShot r.shot

/-- The store fault record as FAULT-READ carries it (section 12.7): relocations are absent as made, the fragments are the
placement's. -/
def State.faultOperands (s : State) (f : FaultRecord) : FaultOperands :=
  { format := f.format, picture := f.picture, written := f.written, cluster := f.place.map (·.1),
    block := f.place.map (·.2), response := f.response.map faultResponseCode,
    continuation := continuationCode f.continuation, repeats := f.repeats,
    writeBacks := f.writeBacks.map fun w =>
      { cluster := w.cluster, block := w.block, valid := flagCode w.valid, relocation := none },
    fragments := s.placed }

end Sys2Proof.Machine
end

