-- ==== Sys2Proof/Machine/Stops.lean ====
section
/-! DEFINITION. STOP and preemption as OPT passes them to an operation's owner (R10, R11), each kind's part by its own
chapter. -/

namespace Sys2Proof.Machine

/-- A STOP or preemption of a HOME, MOVE, ZOOM or PARK: its axes halt; an operation that ends with it frees the lens for a
capture that waits for it (R11, R31, R32, R35, R36). -/
def State.stopLens (s : State) (tag : Nat) (waiting : Bool) : State :=
  let t := s.stopLensOp tag waiting
  if (t.lensOp tag).isNone then t.lensFreed tag else t

/-- A STOP of a waiting STORE-HOLD ends it SUPPRESSED, and a continuation HOLD, held or deferred by a RETRY, becomes NONE
(R180, R189, R191). -/
def State.stopHold (s : State) (tag : Nat) : State :=
  ((s.ending tag .suppressed (s.recordedCause tag) .absent none s.holdFields).setContinuation fun k =>
    if k = .hold then .none else k).forgetHold

/-- The owner takes the stop of its operation, the entry as it was found before it was marked. A GYRO-CAL window, a context
operation and a CARD-OPEN carry their unit to its end and look at the mark there (R115, R138, R174, log 29: DEDUCED,
unsafe). -/
def State.ownerStop (s : State) (e : OpEntry) (cause : StopCause) : State :=
  let waiting := e.state == .waiting
  match e.kind with
  | .home => s.stopLens e.tag waiting
  | .move => s.stopLens e.tag waiting
  | .zoom => s.stopLens e.tag waiting
  | .park => s.stopLens e.tag waiting
  | .scan => State.deliver (s.stopScan cause)
  | .prepare => s.stopCapture e.tag waiting
  | .shoot => s.stopCapture e.tag waiting
  | .storeHold => s.stopHold e.tag
  | .gyroCal => s.stopCalibration e.tag
  | .switch => s
  | .enter => s
  | .leave => s
  | .cardOpen => s

/-- A stop reaches the entry of a tag: a STOPPING entry keeps its cause and nothing follows; any other becomes STOPPING
and its owner is told (R10, R11). -/
def State.stopEntry (s : State) (e : OpEntry) (cause : StopCause) : State :=
  if e.state = .stopping then s else (s.markStopping e.tag cause).ownerStop e cause

/-- CSQ asks OPT to preempt the SCAN or ZOOM of a tag (R11). -/
def State.preempt (s : State) (tag : Nat) : State :=
  match s.entry tag with
  | some e => s.stopEntry e .preempted
  | none => s

end Sys2Proof.Machine
end

