-- ==== Sys2Proof/Machine/Link.lean ====
section
/-! DEFINITION. The control link (12_control_link_and_message_formats.md): the packet assembler (R196, R197), the receive
queue (R198), the order on LTX (R199), and the resets (R16, R201) with the parts of the blocks that have no file of their
own for them (R17, R38, R65, R90, R95, R126, R138). -/

namespace Sys2Proof.Machine

/-- Change LIF. -/
def State.onLif (s : State) (f : Lif → Lif) : State := { s with lif := f s.lif }

/-! ## The packet assembler (R196, R197) -/

/-- A packet is discarded: HUNT, and the link-error flag is set. -/
def State.discardPacket (s : State) : State := s.onLif fun l => { l with assembler := .hunt, linkError := true }

/-- A complete packet is offered to the receive queue of four (R198). -/
def State.offerPacket (s : State) (p : Packet) : State :=
  s.onLif fun l =>
    if l.queue.length < 4 then { l with assembler := .hunt, queue := l.queue ++ [p] }
    else { l with assembler := .hunt, linkError := true }

/-- The packet's bytes after SYNC carry a check that matches (R197). -/
def checkMatches (bytes : List Byte) (len : Nat) : Bool :=
  (packetCheck (bytes.take (len + 3))).toNat == get2 bytes (len + 3)

/-- The bytes after SYNC, the last one just taken: the packet is too long, not yet whole, or judged (R196). -/
def State.collect (s : State) (bytes : List Byte) : State :=
  let len := get1 bytes 0
  if 240 < len then s.discardPacket
  else if bytes.length < len + 5 then s.onLif fun l => { l with assembler := .collect bytes }
  else if checkMatches bytes len then
    s.offerPacket { kind := bytes.getD 1 0, tag := bytes.getD 2 0, payload := (bytes.drop 3).take len }
  else s.discardPacket

/-- A byte on LRX (R196). A framing error in HUNT discards the byte and leaves the flag as it is. -/
def State.linkByte (s : State) (b : Byte) (framingError : Bool) : State :=
  match s.lif.assembler with
  | .hunt => if b = 0xA5#8 ∧ framingError = false then s.onLif fun l => { l with assembler := .collect [] } else s
  | .collect bytes => if framingError then s.discardPacket else s.collect (bytes ++ [b])

/-- More than 2 ms pass between two bytes of a packet (R196). -/
def State.linkGap (s : State) : State :=
  match s.lif.assembler with
  | .hunt => s
  | .collect _ => s.discardPacket

/-! ## The receive queue (R198) -/

/-- The head packet, a request LIF may take, is judged by checks 1, 3 and 4 and handed to its owner (check 5). -/
def State.takeRequest (s : State) (p : Packet) : State :=
  let kind := p.kind.toNat
  let tag := p.tag.toNat
  if requestKinds.contains kind = false then s.refuse tag .unknownKind kind
  else if tag = 0 then s.refuse 0 .field 255
  else
    match decodeRequest kind tag p.payload with
    | none => s.refuse tag .length p.payload.length
    | some c =>
      s.onLif fun l =>
        { l with handed := l.handed ++ [c], restart := if kind = 0x02 then .taken else l.restart }

/-- The head packet, a feed, is handed to its owner or discarded for its length (check 2). -/
def State.takeFeed (s : State) (p : Packet) : State :=
  match decodeFeed p.kind.toNat p.payload with
  | none => s.onLif fun l => { l with linkError := true }
  | some c => s.onLif fun l => { l with handed := l.handed ++ [c] }

/-- LIF may take a packet: a feed always, a request while fewer than 4 replies are owed, a RESTART while none is (R198,
R201). -/
def State.mayTake (s : State) (p : Packet) : Bool :=
  feedKinds.contains p.kind.toNat || (if p.kind = 0x02#8 then s.owed == 0 else decide (s.owed < 4))

/-- LIF takes the head packet of the receive queue; after a RESTART has been taken it takes none (R198, R201). -/
def State.takePacket (s : State) : State :=
  match s.lif.queue with
  | [] => s
  | p :: rest =>
    if s.lif.restart = .none ∧ s.mayTake p = true then
      let t := s.onLif fun l => { l with queue := rest }
      if feedKinds.contains p.kind.toNat then t.takeFeed p else t.takeRequest p
    else s

/-! ## LTX (R13, R199) -/

/-- A packet starts on LTX: the oldest reply, or else the head of the outbox, which leaves it. -/
def State.startPacket (s : State) : State :=
  match s.lif.tx with
  | some _ => s
  | none =>
    match s.lif.replies with
    | r :: rest => s.onLif fun l => { l with replies := rest, tx := some (txPacket (.reply r)) }
    | [] =>
      match s.opt.outbox with
      | n :: rest =>
        State.onLif { s with opt := { s.opt with outbox := rest } } fun l => { l with tx := some (txPacket (.notice n)) }
      | [] => s

/-! ## RESTART (R17, R201) -/

/-- One axis at a RESTART (R38): claims released, target absent; a step in progress is completed. -/
def AxisRec.restart (r : AxisRec) : AxisRec :=
  let q := { r with owner := none, target := none }
  match r.state with
  | .moving => { q with homing := .none, after := .hold }
  | .homing => { q with after := .hold }
  | .released => { q with homing := .none }
  | _ => q.hold

/-- LDU at a RESTART (R38). -/
def State.restartLdu (s : State) : State :=
  { s with ldu := { s.ldu with
      zoom := s.ldu.zoom.restart, focus := s.ldu.focus.restart, iris := s.ldu.iris.restart, waitList := [],
      pendingIris := none, irisWriter := none, ops := [] } }

/-- EXC at a RESTART (R90). -/
def State.restartExc (s : State) : State :=
  { s with exc := { s.exc with x := none, lock := .none, ring := [], clamp := .none, latest := none } }

/-- LIF at a RESTART (R201): the receive queue is emptied, the assembler hunts, the link-error flag is cleared; requests
handed are discarded with the packets they came from. -/
def State.restartLif (s : State) : State :=
  s.onLif fun l =>
    { l with assembler := .hunt, queue := [], linkError := false, handed := [], replies := [], restart := .none }

/-- OPT at a RESTART (R17): table and outbox emptied, READY placed. -/
def State.restartOpt (s : State) : State := { s with opt := { table := [], outbox := [.ready .restart] } }

/-- FMN, FSU and PCS at a RESTART (R65, R95, R138). -/
def State.restartLoops (s : State) : State :=
  { s with fmn := { s.fmn with ring := [] }, fsu := { s.fsu with scan := none }, pcs := { s.pcs with op := none } }

/-- A RESTART is carried out: every block takes its RESTART action (R201). The blocks whose axes, pictures and card act by
their own state stand after OPT's, so that an ATTENTION joins the outbox after READY. -/
def State.carryOutRestart (s : State) : State :=
  ((((s.restartLif.restartOpt.restartLdu.restartExc.restartLoops).restartStu).restartCsq).restartPbf).restartCsu

/-- A packet has been sent whole (R13, R17, R199): the block concerned is told, and an answered RESTART is carried out
when its DONE, the last reply owed, has been sent. An ENDING's tag is free from here on (R4). -/
def State.endPacket (s : State) : State :=
  match s.lif.tx with
  | none => s
  | some p =>
    let t := s.onLif fun l => { l with tx := none }
    match p.item with
    | .notice (.expose id _ _ _ _ _) => t.exposeSent id
    | .notice (.stored id _ _ _ _) => t.storedSent id
    | .notice _ => t
    | .reply _ => if t.lif.restart = .answered ∧ t.lif.replies = [] then t.carryOutRestart else t

/-! ## Hardware reset (R16, R195) -/

/-- Every block at its hardware-reset state, the LRATE strap sampled and the reference flags as they read now. The
contents of the picture memory, an attached device, and the model's own fields are not reset (log 12: DESIGN CHOICE,
unsafe). -/
def State.hardwareReset (s : State) (rateHigh : Bool) (flags : RefFlags) : State :=
  { State.reset with
      pending := s.pending,
      freeCount := s.freeCount,
      lif := { State.reset.lif with rateHigh := rateHigh },
      ldu := { State.reset.ldu with flags := flags },
      pbf := { State.reset.pbf with memory := s.pbf.memory } }

end Sys2Proof.Machine
end

