-- ==== Sys2Proof/Machine/CommandsLink.lean ====
section
/-! DEFINITION. Meanings of the commands of the link, the tracker and the resets: HARDWARE_RESET to STOP. A timer or line
event that finds the condition it names not standing has no effect (log 3: DESIGN CHOICE, safe). -/

namespace Sys2Proof.Machine

/-- What a command answers. -/
abbrev Result := Host.Outcome State Fault Refusal

/-- HARDWARE_RESET (R16, R195). -/
def execHardwareReset (rateHigh : Bool) (flags : RefFlags) (s : State) : Result := .next (s.hardwareReset rateHigh flags)

/-- LINK_BYTE_RECEIVED (R196, R197). -/
def execLinkByteReceived (b : Byte) (framingError : Bool) (s : State) : Result := .next (s.linkByte b framingError)

/-- INTER_BYTE_GAP_TIMEOUT (R196). -/
def execInterByteGapTimeout (s : State) : Result := .next s.linkGap

/-- RECEIVE_QUEUE_TAKE (R198, log 5: DESIGN CHOICE, unsafe). -/
def execReceiveQueueTake (s : State) : Result := .next s.takePacket

/-- PACKET_TRANSMISSION_START (R199). -/
def execPacketTransmissionStart (s : State) : Result := .next s.startPacket

/-- PACKET_TRANSMISSION_END (R13, R17, R201). -/
def execPacketTransmissionEnd (s : State) : Result := .next s.endPacket

/-- What a QUERY of a section clears: the link-error flag, and with section 3 the stale statistics counter (R200). -/
def State.clearRead (s : State) (part : Nat) : State :=
  let t := s.onLif fun l => { l with linkError := false }
  if part = 3 then { t with fmn := { t.fmn with stale := 0 } } else t

/-- The decision of a QUERY (R200); a refused one clears nothing (log 38: DEDUCED, unsafe). -/
def State.query (s : State) (tag part : Nat) : State :=
  match s.querySection part with
  | none => s.refuse tag .field 0
  | some bytes => (s.done tag (putFlag s.lif.linkError ++ bytes)).clearRead part

/-- QUERY (R200). -/
def execQuery (tag part : Nat) (s : State) : Result :=
  .next (s.onRequest (.query tag part) tag fun t => t.query tag part)

/-- The decision of a RESTART: DONE, to be carried out when it has been sent; from here on LIF takes no packet (R17,
R201). -/
def State.askRestart (s : State) (tag : Nat) : State :=
  (s.done tag []).onLif fun l => { l with restart := .answered }

/-- RESTART (R17, R201): straight from the link it is taken only when no reply is owed (log 30: DEDUCED, safe). -/
def execRestart (tag : Nat) (s : State) : Result :=
  .next
    (if s.lif.handed.contains (.restart tag) ∨ s.owed = 0 then
      s.onRequest (.restart tag) tag fun t => t.askRestart tag
     else s)

/-- The decision of a STOP (R10). -/
def State.stopRequest (s : State) (tag operation : Nat) : State :=
  match s.entry operation with
  | some e => (s.stopEntry e .stopped).done tag []
  | none => s.refuse tag .noSuch (if s.endingTags.contains operation then 1 else 0)

/-- STOP (R10). -/
def execStop (tag operation : Nat) (s : State) : Result :=
  .next (s.onRequest (.stop tag operation) tag fun t => t.stopRequest tag operation)

end Sys2Proof.Machine
end

