-- ==== Sys2Proof/Machine/Frames.lean ====
section
/-! DEFINITION. The frame monitor (04_frames_and_statistics.md): frame starts (R54 to R56), the STATS feed (R60 to R62) and
the offers (R63). -/

namespace Sys2Proof.Machine

/-! ## Offers (R63) -/

/-- A filed record is offered to EXC, which meters it with the linked window in force before FSU reports, and to FSU
(log 10: DEDUCED, safe). -/
def State.offer (s : State) (r : FrameRec) : State :=
  match s.excOffer r with
  | (t, locked) => State.deliver ((if locked then t.goOnPreparing else t).fsuOffer r)

/-- A record's offer-held field is cleared. -/
def State.clearOffer (s : State) (number : Nat) : State :=
  { s with fmn := { s.fmn with
      ring := s.fmn.ring.map fun r => if r.number = number then { r with offerHeld := false } else r } }

/-! ## Frame start (R54, R56) -/

/-- A newly opened record (R55, R56). -/
def State.newRecord (s : State) (number : Nat) : FrameRec :=
  { number := number, movingZoom := s.ldu.zoom.stepping, movingFocus := s.ldu.focus.stepping,
    movingIris := s.ldu.iris.stepping, unsteady := false, hostMark := false, expChanged := false, stats := false,
    serial := none, zones := [], contrasts := [], offerHeld := false }

/-- The counter advances and a record opens; a ring of eight loses its oldest (R54). -/
def State.openFrame (s : State) : State :=
  let n := (s.fmn.counter + 1) % 65536
  let ring := s.fmn.ring ++ [s.newRecord n]
  { s with fmn := { s.fmn with counter := n, ring := ring.drop (ring.length - 8) } }

/-- The offer held by the record that the frame start closed is made (R63). -/
def State.heldOffer (s : State) : Option FrameRec → State
  | some r => if r.offerHeld then (s.offer r).clearOffer r.number else s
  | none => s

/-- A frame start up to FSU's part: the new record, EXC's issue, the held offer (R56, R63). -/
def State.frameBegun (s : State) : State := (s.openFrame.excFrame).heldOffer s.openRecord

/-- CSQ counts a frame start in INTERVAL (R153). -/
def State.countInterval (s : State) : State :=
  if s.csq.state = .interval then (s.onCapture fun c => { c with frames := c.frames + 1 }).checkInterval else s

/-- One rising edge on FSTART (R54, R56). -/
def State.frameStart (s : State) : State :=
  (State.deliver (s.frameBegun.fsuFrame (s.openRecord.map (·.number)))).countInterval

/-- At this frame start the wait of a scan unit or refine runs out (R99, R109). -/
def State.frameExpires (s : State) : Bool := s.frameBegun.waitExpires (s.openRecord.map (·.number))

/-- This frame start ends the INTERVAL in progress (R153). -/
def State.frameEndsInterval (s : State) : Bool :=
  s.csq.state == .interval && s.frameStart.csq.state == .waitBuffer

/-! ## The STATS feed (R60 to R62) -/

/-- The nearest record with stats present before the one of a number, by place in the ring. -/
def olderFiled (ring : List FrameRec) (number : Nat) : Option FrameRec :=
  ((ring.takeWhile fun r => r.number != number).filter (·.stats)).getLast?

/-- The EXP_CHANGED judgement (R62). -/
def State.judgeChanged (s : State) (number : Nat) (serial : Option Nat) : Bool :=
  match serial with
  | none => true
  | some n =>
    (s.expEntry n).isNone ||
      (match olderFiled s.fmn.ring number with
       | none => true
       | some r => r.serial != some n)

/-- The record with a feed filed in it (R60, R62). -/
def State.filed (s : State) (r : FrameRec) (f : StatsFeed) : FrameRec :=
  let serial := if f.serial = 0 then none else some f.serial
  { r with stats := true, serial := serial, hostMark := f.hostMark != 0, zones := f.zones.map (min 4095),
           contrasts := f.contrasts, expChanged := s.judgeChanged r.number serial }

/-- A stale or duplicate feed is dropped and counted (R61). -/
def State.dropStats (s : State) : State := { s with fmn := { s.fmn with stale := min 255 (s.fmn.stale + 1) } }

/-- A feed reaches FMN (R60, R63). -/
def State.fileStats (s : State) (f : StatsFeed) : State :=
  match s.fmn.ring.find? fun r => r.number == f.frame with
  | none => s.dropStats
  | some r =>
    if r.stats then s.dropStats
    else
      let isOpen := s.fmn.ring.getLast?.map (·.number) == some r.number
      let q := { s.filed r f with offerHeld := isOpen }
      let t : State :=
        { s with fmn := { s.fmn with ring := updateFirst (fun x => x.number == f.frame) (fun _ => q) s.fmn.ring } }
      if isOpen then t else t.offer q

end Sys2Proof.Machine
end

