-- ==== Sys2Proof/Machine/CommandsCapture.lean ====
section
/-! DEFINITION. Meanings of the capture commands: PREPARE to INTERVAL_END. -/

namespace Sys2Proof.Machine

/-! ## Shared checks (R142, R145) -/

/-- Detail of a BUSY that CSQ's state causes (R141). -/
def State.csqDetail (s : State) : Nat := 16 + csqStateCode s.csq.state

/-- The iris is owned, or an axis is UNREFERENCED (checks 5 and 6 of R142, 4 and 5 of R145). -/
def State.captureLensFault (s : State) : Option (Code × Nat) :=
  if s.ldu.iris.owner.isSome then some (.busy, 2)
  else (s.firstUnreferenced allAxes).map fun a => (.unreferenced, axisCode a)

/-! ## PREPARE and RELEASE (R142 to R144) -/

/-- The checks of a PREPARE (R142). -/
def State.prepareFault (s : State) : Option (Code × Nat) :=
  match s.noTable with
  | some detail => some (.noTable, detail)
  | none =>
    if s.activeKind = .review then some (.contextKind, 2)
    else if s.csq.state ≠ .idle then some (.busy, s.csqDetail)
    else
      match s.firstOwned [.zoom, .focus] with
      | some a => some (.busy, axisCode a)
      | none => s.captureLensFault

/-- CSQ enters PREPARING with its capture record, asks for the lock and opens the capture window (R142, R146). -/
def State.startPreparing (s : State) (c : Capture) : State :=
  let t : State := { s with csq := { s.csq with state := .preparing, capture := some c } }
  t.requestLock.1.setWindow true

/-- An accepted PREPARE begins (R142, R143). -/
def State.beginPrepare (s : State) (tag : Nat) (plan : ScanPlan) : State :=
  let c := { newCapture .prepare tag s.shutterKind with plan := some plan }
  ((s.claim [.zoom, .focus] (.capture .prepare)).startPreparing c).goOnPreparing

/-- The decision of a PREPARE. -/
def State.prepareRequest (s : State) (tag : Nat) : State :=
  match s.prepareFault with
  | some (code, detail) => s.refuse tag code detail
  | none =>
    let plan := s.planScan s.fsu.live none none
    s.accept tag .prepare .waiting (some plan.planned) fun t => t.beginPrepare tag plan

/-- PREPARE (R142, R143). -/
def execPrepare (tag : Nat) (s : State) : Result := .next (s.onRequest (.prepare tag) tag fun t => t.prepareRequest tag)

/-- The decision of a RELEASE (R144). -/
def State.releaseRequest (s : State) (tag : Nat) : State :=
  match s.csq.state with
  | .ready => s.csqIdle.done tag []
  | .idle => s.refuse tag .wrongState 0
  | _ => s.refuse tag .busy s.csqDetail

/-- RELEASE (R144). -/
def execRelease (tag : Nat) (s : State) : Result := .next (s.onRequest (.release tag) tag fun t => t.releaseRequest tag)

/-! ## SHOOT (R131, R145, R146) -/

/-- The program a SHOOT names, or the refusal of PCS (R131). -/
def State.shootProgram (s : State) (index : Nat) : (Code × Nat) ⊕ Program :=
  if s.pcs.limit ≤ index then .inl (.range, index)
  else
    match s.pcs.programs.getD index none with
    | none => .inl (.absent, index)
    | some p => if p.mask.testBit (contextKindCode s.activeKind) then .inr p else .inl (.contextKind, contextKindCode s.activeKind)

/-- A SHOOT may have an axis: unowned, held by the capture, or by a SCAN or ZOOM it preempts (R145, check 3). -/
def shootable : Option Owner → Bool
  | none => true
  | some (.capture _) => true
  | some (.op kind _) => kind == .scan || kind == .zoom

/-- The checks of R145. -/
def State.shootFault (s : State) (p : Program) (count : Option Nat) : Option (Code × Nat) :=
  if (match count with | some c => decide (c < 1 ∨ p.count < c) | none => false) then some (.field, 1)
  else if s.csq.state ≠ .idle ∧ s.csq.state ≠ .ready then some (.busy, s.csqDetail)
  else if shootable s.ldu.zoom.owner = false then some (.busy, 0)
  else if shootable s.ldu.focus.owner = false then some (.busy, 1)
  else s.captureLensFault

/-- The capture record of a SHOOT: the descriptor copied, the sequence and the shutter kind fixed (R141, R145). -/
def State.shootCapture (s : State) (tag index : Nat) (p : Program) (units : Nat) (own : Bool) : Capture :=
  { newCapture .shoot tag s.shutterKind with
      program := some p, programIndex := index, first := p.count - units, last := p.count - 1, pos := p.count - units,
      ownPreparation := own }

/-- A SHOOT that found CSQ READY begins its first picture; lock, window and claim carry over (R146). -/
def State.shootFromReady (s : State) (c : Capture) : State :=
  (State.claim { s with csq := { s.csq with capture := some c } } [.zoom, .focus] (.capture .shoot)).beginPicture c.first

/-- A SHOOT that found CSQ IDLE prepares, preempting the SCAN or ZOOM that owns zoom or focus (R11, R146). -/
def State.shootFromIdle (s : State) (c : Capture) : State :=
  match s.lensOwner with
  | some victim => (s.startPreparing { c with preempting := some victim }).preempt victim
  | none => ((s.claim [.zoom, .focus] (.capture .shoot)).startPreparing c).goOnPreparing

/-- An accepted SHOOT begins (R146). -/
def State.beginShoot (s : State) (tag index : Nat) (p : Program) (units : Nat) : State :=
  if s.csq.state = .ready then s.shootFromReady (s.shootCapture tag index p units false)
  else s.shootFromIdle (s.shootCapture tag index p units true)

/-- The decision of a SHOOT. -/
def State.shootRequest (s : State) (tag index : Nat) (count : Option Nat) : State :=
  match s.noTable with
  | some detail => s.refuse tag .noTable detail
  | none =>
    match s.shootProgram index with
    | .inl (code, detail) => s.refuse tag code detail
    | .inr p =>
      match s.shootFault p count with
      | some (code, detail) => s.refuse tag code detail
      | none =>
        let units := count.getD p.count
        s.accept tag .shoot .waiting (some units) fun t => t.beginShoot tag index p units

/-- SHOOT (R145, R146). -/
def execShoot (tag index : Nat) (count : Option Nat) (s : State) : Result :=
  .next (s.onRequest (.shoot tag index count) tag fun t => t.shootRequest tag index count)

/-! ## One picture (R147 to R151) -/

/-- RESERVATION_GRANT (R147, R161). -/
def execReservationGrant (s : State) : Result :=
  .next
    (match s.csq.capture with
     | some c => if s.csq.state = .waitBuffer ∧ s.canGrant = true then s.grantPicture c else s
     | none => s)

/-- A MECHANICAL exposure waits for the recharge (R151), and for a shutter closing that runs on after a RESTART (log
31: DEDUCED, safe). -/
def State.mustRecharge (s : State) (c : Capture) : Bool :=
  c.shutter == .mechanical && (s.csq.recharge || s.csq.closeTimer)

/-- The exposure of the picture in hand begins, or waits armed for the recharge (R151). -/
def State.exposeOrWait (s : State) (c : Capture) (h : Hand) : State :=
  if s.mustRecharge c then s.onCapture fun c => { c with hand := some { h with arming := false, armed := true } }
  else s.beginExposure h

/-- CSQ takes an ARMED feed (R150). -/
def State.takeArmed (s : State) (picture : Nat) : State :=
  match s.csq.state, s.csq.capture with
  | .arming, some c =>
    (match c.hand with
     | some h => if h.id = picture ∧ h.arming = true then s.exposeOrWait c h else s
     | none => s)
  | _, _ => s

/-- ARMED (R150, R151). -/
def execArmed (picture : Nat) (s : State) : Result := .next (s.onFeed (.armed picture) fun t => t.takeArmed picture)

/-- ARM_TIMEOUT (R150): the picture is withdrawn. -/
def execArmTimeout (s : State) : Result :=
  .next
    (match s.csq.state, s.csq.capture.bind (·.hand) with
     | .arming, some h =>
       if h.arming then (s.failHand h.id .withdrawn .nullified .armTimeout).enterFinishing else s
     | _, _ => s)

/-- The exposure of an ELECTRONIC picture has ended (R151 to R153). -/
def State.endElectronic (s : State) (id : Nat) : State := (s.joinIntake id).afterExposure

/-- XSTART drops at the end of the exposure time (R151). -/
def State.exposureTimeOut (s : State) (c : Capture) (h : Hand) : State :=
  let t : State := { s with csq := { s.csq with xstart := false } }
  match c.shutter with
  | .electronic => t.endElectronic h.id
  | .mechanical => { t with csq := { t.csq with xclose := true, closeTimer := true, state := .closing } }

/-- EXPOSURE_TIME_END (R151). -/
def execExposureTimeEnd (s : State) : Result :=
  .next
    (match s.csq.state, s.csq.capture with
     | .exposing, some c =>
       (match c.hand with
        | some h => s.exposureTimeOut c h
        | none => s)
     | _, _ => s)

/-- XCLOSE drops and the recharge timer starts (R151, R157). -/
def State.startRecharge (s : State) : State :=
  { s with csq := { s.csq with xclose := false, closeTimer := false, recharge := true } }

/-- BLADE_CLOSED (R151, R152); XBLADE is read only in CLOSING. -/
def execBladeClosed (s : State) : Result :=
  .next
    (match s.csq.state, s.csq.capture.bind (·.hand) with
     | .closing, some h => (s.startRecharge.joinIntake h.id).setCsq .recharge
     | _, _ => s)

/-- The blade did not confirm: the picture is dropped, and CSQ still runs the recharge (R151). -/
def State.bladeFault (s : State) (id : Nat) : State :=
  ((s.startRecharge.failHand id .dropped .terminated .shutterFault).attention .shutter .bladeTimeout id).setCsq .recharge

/-- BLADE_TIMEOUT (R151); after a RESTART the 10 ms only end the closing (R157). -/
def execBladeTimeout (s : State) : Result :=
  .next
    (if s.csq.closeTimer then
      match s.csq.state, s.csq.capture.bind (·.hand) with
      | .closing, some h => s.bladeFault h.id
      | _, _ => s.startRecharge
     else s)

/-- The recharge is over: CSQ goes on after the exposure, or an armed picture's exposure begins (R151, R153). -/
def State.recharged (s : State) : State :=
  match s.csq.state, s.csq.capture with
  | .recharge, _ => s.afterExposure
  | .arming, some c =>
    (match c.hand with
     | some h => if h.armed = true ∧ s.mustRecharge c = false then s.beginExposure h else s
     | none => s)
  | _, _ => s

/-- RECHARGE_TIMEOUT (R151). -/
def execRechargeTimeout (s : State) : Result :=
  .next (if s.csq.recharge then State.recharged { s with csq := { s.csq with recharge := false } } else s)

/-! ## Intake limit and interval (R152, R153) -/

/-- INTAKE_LIMIT_EXPIRY (R152, R166): the head picture is dropped. -/
def execIntakeLimitExpiry (s : State) : Result :=
  .next
    (match s.csq.pendingIntake with
     | id :: _ => (s.dropAtLimit id).leaveIntake id .dropped (some .intakeTimeout)
     | [] => s)

/-- INTERVAL_END (R153): the frame start that ends an INTERVAL; any other is not this event (log 4: DESIGN CHOICE,
safe). -/
def execIntervalEnd (s : State) : Result := .next (if s.frameEndsInterval then s.frameStart else s)

end Sys2Proof.Machine
end

