-- ==== Sys2Proof/Machine/CommandsCard.lean ====
section
/-! DEFINITION. Meanings of the picture and card commands: INTAKE_STROBE to FAULT_RETURN. -/

namespace Sys2Proof.Machine

/-! ## The intake port (R164 to R167) -/

/-- INTAKE_STROBE (R164). -/
def execIntakeStrobe (b : Byte) (s : State) : Result := .next (s.strobe b)

/-- INTAKE_ENGINE_BYTE (R164 to R167): the head of the FIFO is taken and CSQ takes the report (R152). -/
def execIntakeEngineByte (s : State) : Result :=
  match s.engineTake with
  | .inl f => .fault f
  | .inr (t, report) => .next (t.intakeReported report)

/-! ## Picture requests (R168, R169) -/

/-- The decision of a PICTURE-READ. -/
def State.pictureRead (s : State) (tag picture : Nat) : State :=
  match s.record picture with
  | none => s.refuse tag .noSuch 0
  | some r => s.done tag (pictureBytes r)

/-- PICTURE_READ (R169). -/
def execPictureRead (tag picture : Nat) (s : State) : Result :=
  .next (s.onRequest (.pictureRead tag picture) tag fun t => t.pictureRead tag picture)

/-- A STORING record becomes DISCARDING (R168, R186). -/
def State.discard (s : State) (picture : Nat) : State :=
  (s.setRecord picture fun r => { r with state := .discarding }).dropCurrent

/-- The decision of a PICTURE-DROP (R168). -/
def State.pictureDrop (s : State) (tag picture : Nat) : State :=
  match s.record picture with
  | none => s.refuse tag .noSuch 0
  | some r =>
    match r.state with
    | .reserved => s.refuse tag .busy 0
    | .filling => s.refuse tag .busy 1
    | .complete => (s.freeRecord picture).done tag (putFlag false)
    | .storing =>
      if s.storedInFlight picture then s.refuse tag .busy 5 else (s.discard picture).done tag (putFlag true)
    | .discarding => s.done tag (putFlag true)

/-- PICTURE_DROP (R168, R186, R189). -/
def execPictureDrop (tag picture : Nat) (s : State) : Result :=
  .next (s.onRequest (.pictureDrop tag picture) tag fun t => t.pictureDrop tag picture)

/-! ## The socket (R172, R188) -/

/-- CARD_DETECT_CHANGE (R172, R188). A level that stands already is no change (log 3: DESIGN CHOICE, safe); the level of
CWP that an insertion carries is the line's or the one last taken (log 80: DESIGN CHOICE, unsafe). -/
def execCardDetectChange (present protectLevel : Bool) (s : State) : Result :=
  .next
    (match s.csu.card, present with
     | .absent, true => s.cardInserted protectLevel
     | .absent, false => s
     | _, true => s
     | _, false => s.cardRemoved)

/-- WRITE_PROTECT_CHANGE (R172, log 80: DESIGN CHOICE, unsafe). -/
def execWriteProtectChange (level : Bool) (s : State) : Result := .next (s.protectChanged level)

/-! ## Opening (R173, R174) -/

/-- The checks of a CARD-OPEN (R173). -/
def State.cardOpenFault (s : State) : Option (Code × Nat) :=
  if s.csu.cdet = false then some (.noCard, 0)
  else if s.hasKind .cardOpen then some (.busy, 0)
  else if s.csu.store ≠ .disabled ∧ s.csu.store ≠ .faulted then some (.wrongState, storeStateCode s.csu.store)
  else none

/-- An accepted CARD-OPEN begins its reset stage: the card clock slow and the reset command sent (R173, R174). A stop command
or a busy still in progress is abandoned (log 77: DESIGN CHOICE, unsafe). -/
def State.beginOpening (s : State) : State :=
  s.onCsu fun c =>
    { c with card := .present, capacity := none, opening := some 1, awaiting := some .reset, clockFull := false,
             exchange := none, stopBusy := false }

/-- The decision of a CARD-OPEN. -/
def State.cardOpenRequest (s : State) (tag : Nat) : State :=
  match s.cardOpenFault with
  | some (code, detail) => s.refuse tag code detail
  | none => s.accept tag .cardOpen .running (some 3) State.beginOpening

/-- CARD_OPEN (R173, R174). -/
def execCardOpen (tag : Nat) (s : State) : Result := .next (s.onRequest (.cardOpen tag) tag fun t => t.cardOpenRequest tag)

/-- CARD_RESPONSE (R174, R182). -/
def execCardResponse (r : CardResponse) (s : State) : Result := .next (s.cardAnswers r)

/-- CONDITION_QUERY_POLL (R174): in the reset stage, with no command awaited, the condition query is sent. -/
def execConditionQueryPoll (s : State) : Result :=
  .next
    (if s.csu.opening = some 1 ∧ s.csu.awaiting = none then s.onCsu fun c => { c with awaiting := some .conditionQuery }
     else s)

/-- CARD_RESET_TIMEOUT (R174): NO_RESPONSE, COMPLETE in a stopping opening too (log 66: DESIGN CHOICE, unsafe). -/
def execCardResetTimeout (s : State) : Result :=
  .next (if s.csu.opening = some 1 then s.endOpening .complete .none (some 1) else s)

/-- CARD_COMMAND_TIMEOUT (R174, R182). -/
def execCardCommandTimeout (s : State) : Result := .next s.cardSilent

/-! ## The store's requests (R175, R177, R179, R180) -/

/-- Cluster sizes of R175. -/
def clusterSizes : List Nat := [8, 16, 32, 64, 128, 256]

/-- No card space is in the part's keeping: the cluster size may change (R175, check 3). -/
def State.clusterFree (s : State) : Bool :=
  s.csu.store == .disabled && s.csu.pool.isEmpty && s.csu.placement.isNone && s.csu.fault.isNone

/-- The checks of a STORE-SET (R175). -/
def State.storeSetFault (s : State) (cluster pages : Nat) : Option (Code × Nat) :=
  if clusterSizes.contains cluster = false then some (.field, 1)
  else if pages < 1 ∨ 512 < pages then some (.field, 2)
  else if cluster ≠ s.csu.cluster ∧ s.clusterFree = false then some (.wrongState, storeStateCode s.csu.store)
  else none

/-- The decision of a STORE-SET: R is handed to PBF (R160). -/
def State.storeSet (s : State) (tag cluster pages : Nat) : State :=
  match s.storeSetFault cluster pages with
  | some (code, detail) => s.refuse tag code detail
  | none =>
    let t : State := { s with csu := { s.csu with cluster := cluster }, pbf := { s.pbf with reserve := pages } }
    t.done tag (put2 cluster ++ put2 pages)

/-- STORE_SET (R160, R175). -/
def execStoreSet (tag cluster pages : Nat) (s : State) : Result :=
  .next (s.onRequest (.storeSet tag cluster pages) tag fun t => t.storeSet tag cluster pages)

/-- The decision of an EXTENTS-GIVE; in WAIT_SPACE the store places again (R176, R177, R181). The clusters of a pool that
holds more than 65,535 are answered modulo 65,536 (log 73: DESIGN CHOICE, unsafe), and they are those before the store
places (log 75: DESIGN CHOICE, unsafe). -/
def State.extentsGive (s : State) (tag : Nat) (es : List Extent) : State :=
  match s.extentsFault es with
  | some (code, detail) => s.refuse tag code detail
  | none =>
    let t := s.onCsu fun c => { c with pool := addExtents c.pool es }
    let u := t.done tag (put2 t.csu.pool.length ++ put2 t.poolClusters)
    if u.csu.store = .waitSpace then u.placeCurrent else u

/-- EXTENTS_GIVE (R176, R177). -/
def execExtentsGive (tag : Nat) (es : List Extent) (s : State) : Result :=
  .next (s.onRequest (.extentsGive tag es) tag fun t => t.extentsGive tag es)

/-- The checks of a STORE-ON (R179). -/
def State.storeOnFault (s : State) : Option (Code × Nat) :=
  match s.csu.card with
  | .protect => some (.protect, 0)
  | .absent => some (.noCard, 0)
  | .present => some (.noCard, 1)
  | .opened => if s.csu.store = .faulted then some (.wrongState, 7) else none

/-- The store leaves DISABLED or PAUSED (R179). -/
def State.enableStore (s : State) : State :=
  match s.csu.current, s.csu.placement with
  | some _, some _ => s.resumeWriting
  | some _, none => (s.onCsu fun c => { c with store := .placing }).placeCurrent
  | none, _ => s.takeOrIdle

/-- The effect of an accepted STORE-ON. -/
def State.storeOn (s : State) : State :=
  match s.csu.store with
  | .disabled => s.enableStore
  | .paused => s.enableStore
  | _ => s

/-- The decision of a STORE-ON. -/
def State.storeOnRequest (s : State) (tag : Nat) : State :=
  match s.storeOnFault with
  | some (code, detail) => s.refuse tag code detail
  | none => s.storeOn.done tag (put1 (storeStateCode s.storeOn.csu.store))

/-- STORE_ON (R179). -/
def execStoreOn (tag : Nat) (s : State) : Result := .next (s.onRequest (.storeOn tag) tag fun t => t.storeOnRequest tag)

/-- The entry state of a STORE-HOLD (R180). -/
def holdState : StoreState → OpState
  | .writing => .waiting
  | .notifying => .waiting
  | .faulted => .waiting
  | _ => .running

/-- An accepted STORE-HOLD acts by the store state (R180, R189). -/
def State.beginHold (s : State) : State :=
  match s.csu.store with
  | .disabled => s.endHold false
  | .idle => s.enterPaused
  | .paused => s.enterPaused
  | .waitSpace => s.enterPaused
  | .placing => s.enterPaused
  | .writing => s
  | .notifying => s
  | .faulted => s.setContinuation fun k => if k = .none then .hold else k

/-- The decision of a STORE-HOLD. -/
def State.storeHoldRequest (s : State) (tag : Nat) : State :=
  if s.hasKind .storeHold then s.refuse tag .busy 0
  else s.accept tag .storeHold (holdState s.csu.store) (some 1) State.beginHold

/-- STORE_HOLD (R180). -/
def execStoreHold (tag : Nat) (s : State) : Result :=
  .next (s.onRequest (.storeHold tag) tag fun t => t.storeHoldRequest tag)

/-- STORE_TAKE_RECORD (R178): an IDLE store takes the head of its queue. -/
def execStoreTakeRecord (s : State) : Result :=
  .next
    (match s.csu.store, s.csu.queue with
     | .idle, id :: _ => s.takeHead id
     | _, _ => s)

/-! ## The write exchange (R182 to R184) -/

/-- BLOCK_STATUS_TOKEN (R182, R183). -/
def execBlockStatusToken (token : Token) (s : State) : Result := .next (s.takeToken token)

/-- CARD_BUSY_END (R182, R184). -/
def execCardBusyEnd (s : State) : Result := .next s.busyEnd

/-- CARD_BUSY_TIMEOUT (R182, R183). -/
def execCardBusyTimeout (s : State) : Result := .next s.busyTimeout

/-! ## Fault requests (R189 to R192) -/

/-- The decision of a FAULT-READ. -/
def State.faultRead (s : State) (tag : Nat) : State :=
  match s.csu.fault with
  | none => s.refuse tag .noSuch 0
  | some f => s.done tag (putFault (s.faultOperands f))

/-- FAULT_READ (R189). -/
def execFaultRead (tag : Nat) (s : State) : Result := .next (s.onRequest (.faultRead tag) tag fun t => t.faultRead tag)

/-- The decision of a FAULT-RETURN. -/
def State.faultReturn (s : State) (tag disposition : Nat) (f : FaultOperands) : State :=
  match s.returnFault disposition f with
  | .inl (code, detail) => s.refuse tag code detail
  | .inr h => (s.dispose h disposition f).done tag []

/-- FAULT_RETURN (R190 to R192). -/
def execFaultReturn (tag disposition : Nat) (f : FaultOperands) (s : State) : Result :=
  .next (s.onRequest (.faultReturn tag disposition f) tag fun t => t.faultReturn tag disposition f)

end Sys2Proof.Machine
end

