-- ==== Sys2Proof/Machine/CommandsContexts.lean ====
section
/-! DEFINITION. Meanings of the program and context commands: PROGRAM_SET to CONTEXT_TRAVEL_BEGIN. -/

namespace Sys2Proof.Machine

/-! ## Programs (R129, R130) -/

/-- A descriptor is written or made absent, and the reply carries it. -/
def State.writeProgram (s : State) (tag index : Nat) (p : Option Program) : State :=
  State.done { s with pcs := { s.pcs with programs := s.pcs.programs.set index p } } tag (programBytes index p)

/-- The decision of a PROGRAM-SET (R129). -/
def State.programSet (s : State) (tag : Nat) (o : ProgramOperands) : State :=
  if 15 < o.index then s.refuse tag .range o.index
  else if 1 < o.present then s.refuse tag .field 1
  else if o.present = 0 then s.writeProgram tag o.index none
  else
    match takeProgram o with
    | .inl field => s.refuse tag .field field
    | .inr p => s.writeProgram tag o.index (some p)

/-- PROGRAM_SET (R128, R129). -/
def execProgramSet (tag : Nat) (o : ProgramOperands) (s : State) : Result :=
  .next (s.onRequest (.programSet tag o) tag fun t => t.programSet tag o)

/-- The decision of a PROGRAM-LIMIT (R130). -/
def State.programLimit (s : State) (tag limit : Nat) : State :=
  if 16 < limit then s.refuse tag .field 0
  else
    let t : State := { s with pcs := { s.pcs with limit := limit } }
    t.done tag (put1 limit ++ put2 t.presentPrograms)

/-- PROGRAM_LIMIT (R130). -/
def execProgramLimit (tag limit : Nat) (s : State) : Result :=
  .next (s.onRequest (.programLimit tag limit) tag fun t => t.programLimit tag limit)

/-! ## Slots (R133, R134) -/

/-- The checks of a CONTEXT-SET (R133). -/
def State.slotFault (s : State) (o : ContextOperands) : Option (Code × Nat) :=
  if 3 < o.slot then some (.range, o.slot)
  else
    match (s.slot o.slot).status with
    | .active => some (.contextBusy, 2)
    | .nested => some (.contextBusy, 3)
    | _ => (contextCodeFault o).map fun detail => (.field, detail)

/-- The decision of a CONTEXT-SET. -/
def State.contextSet (s : State) (tag : Nat) (o : ContextOperands) : State :=
  match s.slotFault o with
  | some (code, detail) => s.refuse tag code detail
  | none =>
    let c := bringContext o s.otb.glob.tvMaxElectronic
    (s.setSlot o.slot c).done tag (putContext (contextOperands o.slot c))

/-- CONTEXT_SET (R133). -/
def execContextSet (tag : Nat) (o : ContextOperands) (s : State) : Result :=
  .next (s.onRequest (.contextSet tag o) tag fun t => t.contextSet tag o)

/-- The decision of a CONTEXT-READ. -/
def State.contextRead (s : State) (tag slot : Nat) : State :=
  if 3 < slot then s.refuse tag .range slot else s.done tag (s.contextBytes slot)

/-- CONTEXT_READ (R134). -/
def execContextRead (tag slot : Nat) (s : State) : Result :=
  .next (s.onRequest (.contextRead tag slot) tag fun t => t.contextRead tag slot)

/-! ## Context operations (R135 to R138) -/

/-- A context operation to a slot its checks allow goes to OPT, its entry RUNNING (R135, R136). -/
def State.acceptContext (s : State) (tag : Nat) (kind : OpKind) (i : Nat) : State :=
  s.accept tag kind .running (some (s.contextUnits i)) fun t => t.beginContext tag kind i

/-- The decision of a SWITCH or ENTER. -/
def State.contextRequest (s : State) (tag : Nat) (kind : OpKind) (slot : Nat) : State :=
  match s.contextFault slot with
  | some (code, detail) => s.refuse tag code detail
  | none => s.acceptContext tag kind slot

/-- SWITCH (R135, R136). -/
def execSwitch (tag slot : Nat) (s : State) : Result :=
  .next (s.onRequest (.switch tag slot) tag fun t => t.contextRequest tag .switch slot)

/-- ENTER (R135, R136). -/
def execEnter (tag slot : Nat) (s : State) : Result :=
  .next (s.onRequest (.enter tag slot) tag fun t => t.contextRequest tag .enter slot)

/-- The decision of a LEAVE. -/
def State.leaveRequest (s : State) (tag : Nat) : State :=
  match s.leaveTarget with
  | .inl (code, detail) => s.refuse tag code detail
  | .inr i => s.acceptContext tag .leave i

/-- LEAVE (R135, R136). -/
def execLeave (tag : Nat) (s : State) : Result := .next (s.onRequest (.leave tag) tag fun t => t.leaveRequest tag)

/-- CONTEXT_TRAVEL_BEGIN (R137): the event after the exchange. -/
def execContextTravelBegin (s : State) : Result :=
  .next
    (match s.pcs.op with
     | some o => if o.phase = .pending then s.contextTravel o else s
     | none => s)

end Sys2Proof.Machine
end

