-- ==== Sys2Proof/Machine/CommandsControl.lean ====
section
/-! DEFINITION. Meanings of the frame, exposure, focus and steadying commands: FRAME_START to RECENTRE_TIMEOUT. -/

namespace Sys2Proof.Machine

/-! ## Frames (R54, R60, R99) -/

/-- FRAME_START (R54, R56). -/
def execFrameStart (s : State) : Result := .next s.frameStart

/-- STATS (R60 to R63). -/
def execStats (f : StatsFeed) (s : State) : Result := .next (s.onFeed (.stats f) fun t => t.fileStats f)

/-- FRAME_WAIT_EXPIRY (R99): the frame start that brings a wait to its limit; any other is not this event (log 4:
DESIGN CHOICE, safe). -/
def execFrameWaitExpiry (s : State) : Result := .next (if s.frameExpires then s.frameStart else s)

/-! ## METER-SET and AF-SET (R71, R93) -/

/-- The decision of a METER-SET. -/
def State.meterSet (s : State) (tag : Nat) (m : MeterOperands) : State :=
  match takeMeter m s.otb.glob.tvMaxElectronic with
  | .inl field => s.refuse tag .field field
  | .inr v => State.done { s with exc := { s.exc with live := v } } tag (putMeter (meterOperands v))

/-- METER_SET (R71). -/
def execMeterSet (tag : Nat) (m : MeterOperands) (s : State) : Result :=
  .next (s.onRequest (.meterSet tag m) tag fun t => t.meterSet tag m)

/-- The decision of an AF-SET. -/
def State.afSet (s : State) (tag : Nat) (a : AfOperands) : State :=
  match takeAf a with
  | .inl field => s.refuse tag .field field
  | .inr v => State.done { s with fsu := { s.fsu with live := v } } tag (putAf (afOperands v))

/-- AF_SET (R93). -/
def execAfSet (tag : Nat) (a : AfOperands) (s : State) : Result :=
  .next (s.onRequest (.afSet tag a) tag fun t => t.afSet tag a)

/-! ## SCAN (R96, R97) -/

/-- An override of the condition carries a code outside its list. -/
def badCondition (o : ScanOperands) : Bool :=
  match o.condition with
  | some code => (focusConditionOf code).isNone
  | none => false

/-- Checks 4 and 5 of a SCAN: references and owner. -/
def State.scanLensFault (s : State) : Option (Code × Nat) :=
  match s.firstUnreferenced [.zoom, .focus] with
  | some a => some (.unreferenced, axisCode a)
  | none => if s.ldu.focus.owner.isSome then some (.busy, 1) else none

/-- The checks of a SCAN (R96). -/
def State.scanFault (s : State) (o : ScanOperands) : Option (Code × Nat) :=
  match s.noTable with
  | some detail => some (.noTable, detail)
  | none =>
    if o.start.isSome ≠ o.stop.isSome then some (.field, 0)
    else if badCondition o then some (.field, 3)
    else if s.activeKind = .review then some (.contextKind, 2)
    else s.scanLensFault

/-- The decision of a SCAN; its entry is RUNNING when the focus PP already equals the start (R97). -/
def State.scanRequest (s : State) (tag : Nat) (o : ScanOperands) : State :=
  match s.scanFault o with
  | some (code, detail) => s.refuse tag code detail
  | none =>
    let plan := s.planScan (overrideAf s.fsu.live o) o.start o.stop
    let state : OpState := if s.ldu.focus.pp = some plan.start then .running else .waiting
    s.accept tag .scan state (some plan.planned) fun t =>
      State.deliver ((t.claim [.focus] (.op .scan tag)).startScan (.scan tag o) plan)

/-- SCAN (R96 to R98). -/
def execScan (tag : Nat) (o : ScanOperands) (s : State) : Result :=
  .next (s.onRequest (.scan tag o) tag fun t => t.scanRequest tag o)

/-! ## STEADY-SET and GYRO-CAL (R113, R116) -/

/-- The new settings are taken, a FAULT cleared when the mode changes, and the state derived afresh (R116, R125). -/
def State.takeSteady (s : State) (mode : SteadyMode) (leak : Nat) : State :=
  let fault := s.stu.fault && (mode == s.stu.mode)
  State.deriveStu { s with stu := { s.stu with mode := mode, leak := leak, fault := fault } }

/-- The decision of a STEADY-SET; a recentre it ends is answered in the same event (R116, R123). -/
def State.steadySet (s : State) (tag mode leak : Nat) : State :=
  match steadyModeOf mode with
  | none => s.refuse tag .field 1
  | some m =>
    let t := s.takeSteady m (bringLeak leak)
    let u := if s.stu.state = .recentering ∧ t.stu.state ≠ .recentering then t.centred false else t
    u.done tag (put1 (steadyModeCode m) ++ put1 (bringLeak leak) ++ put1 (stuStateCode u.stu.state))

/-- STEADY_SET (R116). -/
def execSteadySet (tag mode leak : Nat) (s : State) : Result :=
  .next (s.onRequest (.steadySet tag mode leak) tag fun t => t.steadySet tag mode leak)

/-- A GYRO-CAL with no window judged and no sample taken (R113). -/
def newCalibration : Calibration :=
  { failed := 0, judged := 0, samples := 0, yaw := emptyWindow, pitch := emptyWindow, last := none }

/-- The checks of a GYRO-CAL (R113). -/
def State.gyroFault (s : State) : Option (Code × Nat) :=
  if s.hasKind .gyroCal then some (.busy, 0)
  else if s.csq.state ≠ .idle then some (.busy, 1)
  else if s.stu.state = .fault then some (.wrongState, 0)
  else none

/-- The decision of a GYRO-CAL. -/
def State.gyroRequest (s : State) (tag : Nat) : State :=
  match s.gyroFault with
  | some (code, detail) => s.refuse tag code detail
  | none =>
    s.accept tag .gyroCal .running none fun t => { t with stu := { t.stu with cal := some newCalibration } }

/-- GYRO_CAL (R113). -/
def execGyroCal (tag : Nat) (s : State) : Result := .next (s.onRequest (.gyroCal tag) tag fun t => t.gyroRequest tag)

/-! ## Samples (R111, R114, R121, R123, R125) -/

/-- A sample event (R111); CSQ takes the answer "centred" (R123). -/
def State.sample (s : State) (x : Sample) : State :=
  match s.sampleStu x with
  | (t, true) => t.centred false
  | (t, false) => t

/-- RATE_SAMPLE (R111). -/
def execRateSample (x : Sample) (s : State) : Result := .next (s.sample x)

/-- GYRO_CAL_WINDOW_END (R114): the sample that is the 512th of a window; any other is not this event (log 4: DESIGN
CHOICE, safe). -/
def execGyroCalWindowEnd (x : Sample) (s : State) : Result := .next (if s.endsWindow then s.sample x else s)

/-- PANNING_ENTRY (R121): the sample at which ACTIVE passes into PANNING; any other is not this event (log 4: DESIGN
CHOICE, safe). -/
def execPanningEntry (x : Sample) (s : State) : Result :=
  .next (if s.stu.state = .active ∧ (s.sample x).stu.state = .panning then s.sample x else s)

/-- ACTUATOR_FAULT (R125): the sample at which the fault is latched; any other is not this event (log 4: DESIGN
CHOICE, safe). -/
def execActuatorFault (x : Sample) (s : State) : Result :=
  .next (if s.stu.fault = false ∧ (s.sample x).stu.fault = true then s.sample x else s)

/-- RECENTRE_TIMEOUT (R123): "centred" with the late flag set. -/
def execRecentreTimeout (s : State) : Result :=
  .next (if s.stu.state = .recentering then (s.enterStu .active).centred true else s)

end Sys2Proof.Machine
end

