-- ==== Sys2Proof/Machine/Optics.lean ====
section
/-! DEFINITION. The optics table (03_optics_table_and_zoom_tracking.md): the field checks of TABLE-LOAD (R41), its busy
conditions (R42), the checks of TABLE-COMMIT (R43), and the effect of each (R40, R44, R45, R72). -/

namespace Sys2Proof.Machine

/-- The number of the first field outside its range, numbered from `k`. -/
def firstOutside (k : Nat) : List (Nat × Nat × Nat) → Option Nat
  | [] => none
  | (lo, hi, v) :: rest => if v < lo ∨ hi < v then some k else firstOutside (k + 1) rest

/-- The seven fields of a node against their ranges (R39). -/
def nodeFault (f : NodeFields) : Option Nat :=
  firstOutside 1
    [(0, 2600, f.zoomStep), (1, 65535, f.focal), (1, 9999, f.equiv), (32, 255, f.avOpen), (0, 1600, f.fInf),
     (0, 1600, f.fNear), (0, 16777215, f.gain)]

/-- The five fields of the global part against their ranges, and Tv_max mechanical against electronic (R39, R41, log
40: DEDUCED, unsafe). -/
def globalFault (f : GlobalFields) : Option Nat :=
  firstOutside 1
    [(32, 255, f.avCap), (160, 383, f.tvMaxElectronic), (160, min 383 f.tvMaxElectronic, f.tvMaxMechanical),
     (500, 4000, f.stroke), (4, 64, f.follow)]

/-- An axis stands in a state that makes a TABLE-LOAD BUSY (R42). -/
def AxisRec.busy (r : AxisRec) : Bool := !r.atRest

/-- The detail of a TABLE-LOAD's BUSY (R42). -/
def State.tableBusy (s : State) : Option Nat :=
  if s.ldu.zoom.busy then some 0
  else if s.ldu.focus.busy then some 1
  else if s.ldu.iris.busy then some 2
  else if s.csq.state ≠ .idle then some 3
  else if s.hasKind .zoom || s.hasKind .scan || s.hasKind .switch || s.hasKind .enter || s.hasKind .leave then some 4
  else none

/-- The lowest index, from `k`, of the later of two neighbouring nodes that fail a check. -/
def firstPair (bad : NodeFields → NodeFields → Bool) (k : Nat) : List Node → Option Nat
  | a :: b :: rest => if bad a.fields b.fields then some k else firstPair bad (k + 1) (b :: rest)
  | _ => none

/-- The detail of a TABLE-COMMIT's FIELD: 16 times the check plus the failing node (R43), or none when all pass. -/
def State.commitFault (s : State) : Option Nat :=
  match s.otb.nodes.findIdx? (fun n => !n.written) with
  | some i => some (16 + i)
  | none =>
    match firstPair (fun a b => decide (b.zoomStep ≤ a.zoomStep)) 1 s.otb.nodes with
    | some i => some (32 + i)
    | none =>
      match firstPair (fun a b => decide (b.focal < a.focal) || decide (b.equiv < a.equiv)) 1 s.otb.nodes with
      | some i => some (48 + i)
      | none =>
        match s.otb.nodes.findIdx? (fun n => decide (s.otb.glob.avCap < n.fields.avOpen)) with
        | some i => some (64 + i)
        | none => none

/-- A part is written: the node's written mark is set and the table is STAGED (R40, R41); EXC and STU hear that lens geometry
is gone when the table leaves VALID (R45, R53, R68). -/
def State.writeTable (s : State) (selector : Nat) (fields : TableFields) : State :=
  let t : State :=
    match fields with
    | .node f =>
      { s with otb := { s.otb with state := .staged,
                                   nodes := s.otb.nodes.set selector { written := true, fields := f } } }
    | .global f => { s with otb := { s.otb with state := .staged, glob := f } }
  if s.otb.state = .valid then t.geometryLost else t

/-- A STAGED table whose checks pass becomes VALID: EXC brings its knee and floor (R72) and learns of the lens (R68). -/
def State.commitTable (s : State) : State :=
  State.excFound
    { s with
        otb := { s.otb with state := .valid },
        exc := { s.exc with live := s.exc.live.fit s.otb.glob.tvMaxElectronic } }

end Sys2Proof.Machine
end

