-- ==== Sys2Proof/Machine/CommandsLens.lean ====
section
/-! DEFINITION. Meanings of the lens and table commands: AXIS_SET to TABLE_COMMIT. -/

namespace Sys2Proof.Machine

/-- The flags as read in this event (R19, log 8: DESIGN CHOICE, unsafe). -/
def State.readFlags (s : State) (flags : RefFlags) : State := { s with ldu := { s.ldu with flags := flags } }

/-! ## AXIS-SET (R24) -/

/-- The decision of an AXIS-SET. -/
def State.axisSet (s : State) (tag axis interval energize settle hold : Nat) : State :=
  match axisOf axis with
  | none => s.refuse tag .field 0
  | some a =>
    let u := bringSetup a interval energize settle hold
    (s.setAxis a { s.axis a with setup := u }).done tag
      (put2 u.interval ++ put2 u.energize ++ put2 u.settle ++ put2 u.hold)

/-- AXIS_SET (R24). -/
def execAxisSet (tag axis interval energize settle hold : Nat) (s : State) : Result :=
  .next
    (s.onRequest (.axisSet tag axis interval energize settle hold) tag fun t =>
      t.axisSet tag axis interval energize settle hold)

/-! ## HOME (R29) -/

/-- The axes a mask names, in the order zoom, focus, iris. -/
def maskAxes (mask : Nat) : List Axis := allAxes.filter fun a => mask.testBit (axisCode a)

/-- Homing is asked for on an axis: it begins when the axis is granted a slot, or at the end of the step in progress (R29);
so too on an axis still HOMING past a RESTART, for which R29 has no row (log 48: DEDUCED, unsafe), or still MOVING past
one (log 74: DEDUCED, unsafe). -/
def State.askHoming (s : State) (a : Axis) : State :=
  let r := { s.axis a with target := none, after := .goOn, homing := .pending }
  match r.state with
  | .released => s.energizeAxis a r
  | .held => s.joinWait a r
  | .settling => s.joinWait a r
  | .energizing => s.setAxis a r
  | .awaitingSlot => s.setAxis a r
  | .moving => s.setAxis a r
  | .homing => s.setAxis a r

/-- A HOME's data at its begin. -/
def homeBody (axes : List Axis) : LensBody :=
  let part (a : Axis) : HomePart := if axes.contains a then .homing else .notNamed
  .home (part .zoom) (part .focus) (part .iris)

/-- An accepted HOME begins (R29). -/
def State.beginHome (s : State) (tag : Nat) (axes : List Axis) (flags : RefFlags) : State :=
  let t := (s.readFlags flags).addLensOp tag .home (homeBody axes)
  let u := if axes.contains .iris then t.discardIris else t
  (axes.foldl State.askHoming u).arbitrate

/-- The checks of a HOME (R29). -/
def State.homeFault (s : State) (axes : List Axis) : Option (Code × Nat) :=
  if axes = [] then some (.field, 0)
  else
    match s.firstOwned axes with
    | some a => some (.busy, axisCode a)
    | none => if s.csq.state ≠ .idle then some (.busy, 0) else none

/-- The decision of a HOME. -/
def State.homeRequest (s : State) (tag mask : Nat) (flags : RefFlags) : State :=
  let axes := maskAxes mask
  match s.homeFault axes with
  | some (code, detail) => s.refuse tag code detail
  | none => s.accept tag .home .waiting none fun t => t.beginHome tag axes flags

/-- HOME (R29 to R31). -/
def execHome (tag mask : Nat) (flags : RefFlags) (s : State) : Result :=
  .next (s.onRequest (.home tag mask flags) tag fun t => t.homeRequest tag mask flags)

/-! ## MOVE, ZOOM and PARK (R32, R33, R36) -/

/-- The steps between two positions. -/
def distance (a b : Nat) : Nat := if a ≤ b then b - a else a - b

/-- An operation whose units planned is 0 ends COMPLETE as soon as its entry is created (R4); it gives no targets (log 49:
DEDUCED, unsafe). -/
def State.endIfPlannedNone (s : State) (tag planned : Nat) (go : State → State) : State :=
  if planned = 0 then
    match s.lensOp tag with
    | some o => s.endLensOp o
    | none => s
  else go s

/-- The checks of a MOVE (R32): the refusal, or the axis and its PP. -/
def State.moveCheck (s : State) (axis : Nat) : (Code × Nat) ⊕ (Axis × Nat) :=
  match axisOf axis with
  | none => .inl (.field, 0)
  | some .iris => .inl (.field, 0)
  | some a =>
    if (s.axis a).owner.isSome then .inl (.busy, axisCode a)
    else
      match (s.axis a).pp with
      | none => .inl (.unreferenced, axisCode a)
      | some p => .inr (a, p)

/-- The decision of a MOVE. -/
def State.moveRequest (s : State) (tag axis target : Nat) : State :=
  match s.moveCheck axis with
  | .inl (code, detail) => s.refuse tag code detail
  | .inr (a, p) =>
    let v := min (axisRange a) target
    let planned := distance p v
    s.accept tag .move .waiting (some planned) fun t =>
      (t.addLensOp tag .move (.move a v (v != target))).endIfPlannedNone tag planned fun u =>
        (u.giveTarget a v).1.arbitrate

/-- MOVE (R32). -/
def execMove (tag axis target : Nat) (s : State) : Result :=
  .next (s.onRequest (.move tag axis target) tag fun t => t.moveRequest tag axis target)

/-- The checks of a ZOOM (R33). -/
def State.zoomFault (s : State) : Option (Code × Nat) :=
  match s.noTable with
  | some detail => some (.noTable, detail)
  | none => s.contextLensFault

/-- The decision of a ZOOM. -/
def State.zoomRequest (s : State) (tag target : Nat) : State :=
  match s.zoomFault with
  | some (code, detail) => s.refuse tag code detail
  | none =>
    let v := bring s.wideEnd s.teleEnd target
    let planned := distance s.zoomStep v
    s.accept tag .zoom .waiting (some planned) fun t =>
      (t.addLensOp tag .zoom (.zoom s.zoomStep v s.otb.glob.follow (v != target) none)).endIfPlannedNone tag planned
        fun u => (u.giveTarget .zoom v).1.arbitrate

/-- ZOOM (R33 to R35). -/
def execZoom (tag target : Nat) (s : State) : Result :=
  .next (s.onRequest (.zoom tag target) tag fun t => t.zoomRequest tag target)

/-- The checks of a PARK (R36). -/
def State.parkFault (s : State) : Option (Code × Nat) :=
  match s.firstOwned allAxes with
  | some a => some (.busy, axisCode a)
  | none =>
    if s.csq.state ≠ .idle then some (.busy, 0)
    else
      match s.firstUnreferenced allAxes with
      | some a => some (.unreferenced, axisCode a)
      | none => none

/-- Steps from the three PPs to 0. -/
def State.parkUnits (s : State) : Nat := s.ldu.zoom.pp.getD 0 + s.ldu.focus.pp.getD 0 + s.ldu.iris.pp.getD 0

/-- The decision of a PARK. -/
def State.parkRequest (s : State) (tag : Nat) : State :=
  match s.parkFault with
  | some (code, detail) => s.refuse tag code detail
  | none =>
    s.accept tag .park .waiting (some s.parkUnits) fun t =>
      ((t.addLensOp tag .park (.park none)).discardIris).endIfPlannedNone tag s.parkUnits fun u =>
        (allAxes.foldl (fun w a => (w.giveTarget a 0).1) u).arbitrate

/-- PARK (R36). -/
def execPark (tag : Nat) (s : State) : Result := .next (s.onRequest (.park tag) tag fun t => t.parkRequest tag)

/-! ## Axis events (R21 to R23, R28, R30) -/

/-- ENERGIZE_TIMEOUT (R21). -/
def execEnergizeTimeout (a : Axis) (flags : RefFlags) (s : State) : Result :=
  .next
    (if (s.axis a).state = .energizing ∧ (s.axis a).timer.isSome = true then (s.readFlags flags).energized a else s)

/-- AXIS_STEP_COMPLETE (R22, R28, R30): an axis that is not stepping has no step to complete. -/
def execAxisStepComplete (a : Axis) (flags : RefFlags) (s : State) : Result :=
  .next (if (s.axis a).stepping then (s.readFlags flags).stepCompleted a else s)

/-- The step in progress, read with these flag levels, is a homing step that uses up the home limit without finding the
reference (R30, step 3). -/
def State.reachesLimit (s : State) (a : Axis) (flags : RefFlags) : Bool :=
  let r := s.axis a
  r.state == .homing && r.homing.begun && r.after != .hold &&
    !(r.homing == .down && !flagLevel flags a) && decide (homeLimit a ≤ r.homingCount + 1)

/-- HOME_LIMIT_REACHED (R30): the step completion that uses up the home limit; any other is not this event (log 4:
DESIGN CHOICE, safe). -/
def execHomeLimitReached (a : Axis) (flags : RefFlags) (s : State) : Result :=
  .next (if s.reachesLimit a flags then (s.readFlags flags).stepCompleted a else s)

/-- SETTLE_TIMEOUT (R21). -/
def execSettleTimeout (a : Axis) (s : State) : Result :=
  .next (if (s.axis a).state = .settling ∧ (s.axis a).timer.isSome = true then s.settled a else s)

/-- HOLD_RELEASE_TIMEOUT (R21, R23): coil current off, PP kept. -/
def execHoldReleaseTimeout (a : Axis) (s : State) : Result :=
  .next
    (if (s.axis a).state = .held ∧ (s.axis a).timer.isSome = true then
      s.setAxis a { s.axis a with state := .released, timer := none }
     else s)

/-! ## The optics table (R41 to R44) -/

/-- Payload length of a TABLE-LOAD with these fields (R203). -/
def tableLen : TableFields → Nat
  | .node _ => 17
  | .global _ => 11

/-- The form of the fields fits the selector (R203). -/
def tableSuits : TableFields → Nat → Bool
  | .node _, selector => decide (selector < 16)
  | .global _, selector => selector == 16

/-- The first field of a TABLE-LOAD outside its range (R41, check 2). -/
def tableOutside : TableFields → Option Nat
  | .node f => nodeFault f
  | .global f => globalFault f

/-- The checks of a TABLE-LOAD (R41, R42, R203). -/
def State.loadFault (s : State) (selector : Nat) (fields : TableFields) : Option (Code × Nat) :=
  if 16 < selector then some (.field, 0)
  else if tableSuits fields selector = false then some (.length, tableLen fields)
  else
    match tableOutside fields with
    | some k => some (.field, k)
    | none => s.tableBusy.map fun detail => (.busy, detail)

/-- The decision of a TABLE-LOAD. -/
def State.tableLoad (s : State) (tag selector : Nat) (fields : TableFields) : State :=
  match s.loadFault selector fields with
  | some (code, detail) => s.refuse tag code detail
  | none =>
    let t := s.writeTable selector fields
    t.done tag (put1 selector ++ put1 (tableStateCode t.otb.state))

/-- TABLE_LOAD (R40 to R42, R45). -/
def execTableLoad (tag selector : Nat) (fields : TableFields) (s : State) : Result :=
  .next (s.onRequest (.tableLoad tag selector fields) tag fun t => t.tableLoad tag selector fields)

/-- The decision of a TABLE-COMMIT; a VALID table is left as it is (R43, R44). -/
def State.tableCommit (s : State) (tag : Nat) : State :=
  match s.commitFault with
  | some detail => s.refuse tag .field detail
  | none =>
    (if s.otb.state = .valid then s else s.commitTable).done tag (put2 s.wideEnd ++ put2 s.teleEnd)

/-- TABLE_COMMIT (R43 to R45). -/
def execTableCommit (tag : Nat) (s : State) : Result :=
  .next (s.onRequest (.tableCommit tag) tag fun t => t.tableCommit tag)

end Sys2Proof.Machine
end

