-- ==== Sys2Proof/Machine/Dispatch.lean ====
section
/-! DEFINITION. The dispatch of a command to its meaning. -/

namespace Sys2Proof.Machine

/-- The effect of a command on everything but the queue of waiting commands. -/
def exec (i : Instr) (s : State) : Host.Outcome State Fault Refusal :=
  match i with
  | .hardwareReset rateHigh flags => Sys2Proof.Machine.execHardwareReset rateHigh flags s
  | .linkByteReceived byte framingError => Sys2Proof.Machine.execLinkByteReceived byte framingError s
  | .interByteGapTimeout => Sys2Proof.Machine.execInterByteGapTimeout s
  | .receiveQueueTake => Sys2Proof.Machine.execReceiveQueueTake s
  | .packetTransmissionStart => Sys2Proof.Machine.execPacketTransmissionStart s
  | .packetTransmissionEnd => Sys2Proof.Machine.execPacketTransmissionEnd s
  | .query tag part => Sys2Proof.Machine.execQuery tag part s
  | .restart tag => Sys2Proof.Machine.execRestart tag s
  | .stop tag operation => Sys2Proof.Machine.execStop tag operation s
  | .axisSet tag axis interval energize settle hold => Sys2Proof.Machine.execAxisSet tag axis interval energize settle hold s
  | .home tag mask flags => Sys2Proof.Machine.execHome tag mask flags s
  | .move tag axis target => Sys2Proof.Machine.execMove tag axis target s
  | .zoom tag target => Sys2Proof.Machine.execZoom tag target s
  | .park tag => Sys2Proof.Machine.execPark tag s
  | .energizeTimeout axis flags => Sys2Proof.Machine.execEnergizeTimeout axis flags s
  | .axisStepComplete axis flags => Sys2Proof.Machine.execAxisStepComplete axis flags s
  | .homeLimitReached axis flags => Sys2Proof.Machine.execHomeLimitReached axis flags s
  | .settleTimeout axis => Sys2Proof.Machine.execSettleTimeout axis s
  | .holdReleaseTimeout axis => Sys2Proof.Machine.execHoldReleaseTimeout axis s
  | .tableLoad tag selector fields => Sys2Proof.Machine.execTableLoad tag selector fields s
  | .tableCommit tag => Sys2Proof.Machine.execTableCommit tag s
  | .frameStart => Sys2Proof.Machine.execFrameStart s
  | .stats feed => Sys2Proof.Machine.execStats feed s
  | .meterSet tag ops => Sys2Proof.Machine.execMeterSet tag ops s
  | .afSet tag ops => Sys2Proof.Machine.execAfSet tag ops s
  | .scan tag ops => Sys2Proof.Machine.execScan tag ops s
  | .frameWaitExpiry => Sys2Proof.Machine.execFrameWaitExpiry s
  | .steadySet tag mode leak => Sys2Proof.Machine.execSteadySet tag mode leak s
  | .gyroCal tag => Sys2Proof.Machine.execGyroCal tag s
  | .rateSample sample => Sys2Proof.Machine.execRateSample sample s
  | .gyroCalWindowEnd sample => Sys2Proof.Machine.execGyroCalWindowEnd sample s
  | .panningEntry sample => Sys2Proof.Machine.execPanningEntry sample s
  | .actuatorFault sample => Sys2Proof.Machine.execActuatorFault sample s
  | .recentreTimeout => Sys2Proof.Machine.execRecentreTimeout s
  | .programSet tag ops => Sys2Proof.Machine.execProgramSet tag ops s
  | .programLimit tag limit => Sys2Proof.Machine.execProgramLimit tag limit s
  | .contextSet tag ops => Sys2Proof.Machine.execContextSet tag ops s
  | .contextRead tag slot => Sys2Proof.Machine.execContextRead tag slot s
  | .switch tag slot => Sys2Proof.Machine.execSwitch tag slot s
  | .enter tag slot => Sys2Proof.Machine.execEnter tag slot s
  | .leave tag => Sys2Proof.Machine.execLeave tag s
  | .contextTravelBegin => Sys2Proof.Machine.execContextTravelBegin s
  | .prepare tag => Sys2Proof.Machine.execPrepare tag s
  | .release tag => Sys2Proof.Machine.execRelease tag s
  | .shoot tag program count => Sys2Proof.Machine.execShoot tag program count s
  | .reservationGrant => Sys2Proof.Machine.execReservationGrant s
  | .armed picture => Sys2Proof.Machine.execArmed picture s
  | .armTimeout => Sys2Proof.Machine.execArmTimeout s
  | .exposureTimeEnd => Sys2Proof.Machine.execExposureTimeEnd s
  | .bladeClosed => Sys2Proof.Machine.execBladeClosed s
  | .bladeTimeout => Sys2Proof.Machine.execBladeTimeout s
  | .rechargeTimeout => Sys2Proof.Machine.execRechargeTimeout s
  | .intakeLimitExpiry => Sys2Proof.Machine.execIntakeLimitExpiry s
  | .intervalEnd => Sys2Proof.Machine.execIntervalEnd s
  | .intakeStrobe byte => Sys2Proof.Machine.execIntakeStrobe byte s
  | .intakeEngineByte => Sys2Proof.Machine.execIntakeEngineByte s
  | .pictureRead tag picture => Sys2Proof.Machine.execPictureRead tag picture s
  | .pictureDrop tag picture => Sys2Proof.Machine.execPictureDrop tag picture s
  | .cardDetectChange present protectLevel => Sys2Proof.Machine.execCardDetectChange present protectLevel s
  | .writeProtectChange protectLevel => Sys2Proof.Machine.execWriteProtectChange protectLevel s
  | .cardOpen tag => Sys2Proof.Machine.execCardOpen tag s
  | .cardResponse response => Sys2Proof.Machine.execCardResponse response s
  | .conditionQueryPoll => Sys2Proof.Machine.execConditionQueryPoll s
  | .cardResetTimeout => Sys2Proof.Machine.execCardResetTimeout s
  | .cardCommandTimeout => Sys2Proof.Machine.execCardCommandTimeout s
  | .storeSet tag cluster pages => Sys2Proof.Machine.execStoreSet tag cluster pages s
  | .extentsGive tag extents => Sys2Proof.Machine.execExtentsGive tag extents s
  | .storeOn tag => Sys2Proof.Machine.execStoreOn tag s
  | .storeHold tag => Sys2Proof.Machine.execStoreHold tag s
  | .storeTakeRecord => Sys2Proof.Machine.execStoreTakeRecord s
  | .blockStatusToken token => Sys2Proof.Machine.execBlockStatusToken token s
  | .cardBusyEnd => Sys2Proof.Machine.execCardBusyEnd s
  | .cardBusyTimeout => Sys2Proof.Machine.execCardBusyTimeout s
  | .faultRead tag => Sys2Proof.Machine.execFaultRead tag s
  | .faultReturn tag disposition edited => Sys2Proof.Machine.execFaultReturn tag disposition edited s

end Sys2Proof.Machine
end

