-- ==== Sys2Proof/Safety.lean ====
section
/-! DEFINITION. What a sound state is and what a run is, in the terms the statements use: picture memory in its one form,
every page in one place, at most eight operations tracked, at most two axes stepping; and the arrival of a request, of a
feed and of a run of link bytes. -/

namespace Sys2Proof.Machine

/-! ## Sound states -/

/-- The picture memory stands in its canonical form (R159). -/
def State.memorySound (s : State) : Prop := Memory.wf s.pbf.memory = true

/-- Every page, in the order of the free pool and then of the records that hold pages (R159, R162). -/
def State.pages (s : State) : List Nat := s.pbf.freePages ++ s.pbf.records.flatMap PicRecord.held

/-- Each of the 2,048 pages is in the free pool or in one record, and in one place only (R159, R163). -/
def State.pagesSound (s : State) : Prop := s.pages.Perm (List.range 2048)

/-- Operations in the table and ENDING notices not yet sent are eight at most (R3, R4, R13). -/
def State.trackedSound (s : State) : Prop := s.tracked ≤ 8

/-- At most two axes hold a stepping slot (R25). -/
def State.slotsSound (s : State) : Prop := s.slotHolders.length ≤ 2

/-! ## Arrivals -/

/-- A request with a TAG above 0 reaches its owner, which decides it in the state `t` (R198). -/
def State.reaches (s : State) (c : Instr) (tag : Nat) (t : State) : Prop := tag ≠ 0 ∧ s.takeHanded c = some t

/-- A long request its owner would accept passes the tracker's checks (R4). -/
def State.hasRoom (s : State) (tag : Nat) : Prop := s.trackerRefusal tag = none

/-- An accepted long request: its entry in the operation table and ACCEPTED in the reply queue (R4). -/
def State.accepted (s : State) (tag : Nat) (kind : OpKind) (state : OpState) (planned : Option Nat) : State :=
  (s.enter tag kind state planned).reply tag (.accepted kind)

/-- Bytes arrive on LRX one after the other, none with a framing error (R195, R196). -/
def receiveBytes : List Byte → State → Result
  | [], s => .next s
  | b :: rest, s =>
    match exec (.linkByteReceived b false) s with
    | .next t => receiveBytes rest t
    | stop => stop

end Sys2Proof.Machine
end

