-- ==== Sys2Proof/Certificates/Slice0/Obligations.lean ====
section
/-! DEFINITION. The statements for the provers. `s.reaches c tag t`: the request has reached its owner, which decides it in
the state `t`. Where a conclusion is an equation, the record update in it is the frame: every field not written in it is
as it was. `s.record id` is the older record where two carry an id (log 65: DESIGN CHOICE, unsafe). -/

open Sys2Proof Sys2Proof.Machine

/-! ## The queue, the resets, the link -/

/-- A step takes the command at the front of the queue and runs it with the queue's rest; on an empty queue the block
idles (the model's choice, log 1). -/
def Obligations.StepRunsFrontCommand : Prop :=
  (∀ (c : Instr) (rest : List Instr) (s : State),
    step { s with pending := c :: rest } = exec c { s with pending := rest }) ∧
  ∀ s : State, s.pending = [] → step s = .next s

/-- What hardware reset leaves in each block (R16, R20, R24, R39, R54, R65, R70, R92, R116, R132, R141, R160, R193),
the link's assembler hunting with the link-error flag clear, no packet, reply or transmission (R196, R198, R199). -/
def Obligations.ResetLeaves : Prop :=
  State.reset.opt.table = [] ∧ State.reset.opt.outbox = [.ready .hardware] ∧
  State.reset.lif.assembler = .hunt ∧ State.reset.lif.linkError = false ∧ State.reset.lif.queue = [] ∧
  State.reset.lif.replies = [] ∧ State.reset.lif.tx = none ∧
  (∀ a : Axis, (State.reset.axis a).pp = none ∧ (State.reset.axis a).state = .released ∧
    (State.reset.axis a).target = none ∧ (State.reset.axis a).owner = none) ∧
  State.reset.ldu.zoom.setup = { interval := 1000, energize := 6, settle := 6, hold := 64 } ∧
  State.reset.ldu.focus.setup = { interval := 400, energize := 6, settle := 6, hold := 64 } ∧
  State.reset.ldu.iris.setup = { interval := 1000, energize := 6, settle := 6, hold := 0 } ∧
  State.reset.ldu.d = 0 ∧ State.reset.otb.state = .empty ∧ State.reset.otb.nodes.length = 16 ∧
  (∀ n ∈ State.reset.otb.nodes, n.written = false) ∧ State.reset.fmn.counter = 0 ∧ State.reset.fmn.ring = [] ∧
  State.reset.exc.live.target = 470 ∧ State.reset.exc.x = none ∧ State.reset.exc.ring = [] ∧
  State.reset.fsu.live.step = 8 ∧ State.reset.fsu.live.threshold = 20000 ∧ State.reset.fsu.scan = none ∧
  State.reset.stu.mode = .off ∧ State.reset.stu.leak = 11 ∧ State.reset.stu.offset = none ∧
  (∀ i < 16, State.reset.pcs.programs[i]? = some none) ∧ State.reset.activeIndex = 0 ∧
  State.reset.activeKind = .still ∧ State.reset.csq.state = .idle ∧ State.reset.pbf.reserve = 192 ∧
  State.reset.pbf.records = [] ∧ State.reset.csu.card = .absent ∧ State.reset.csu.store = .disabled ∧
  State.reset.csu.cluster = 64 ∧ State.reset.csu.pool = [] ∧ State.reset.pending = []

/-- A hardware reset puts every block at its hardware-reset state, samples the LRATE strap and keeps the levels of the
reference flags as they read then, which is the model's choice (log 8); the fields of the reset state that the spec
gives no value have log 9's, which is the model's choice too; the picture memory, the model's counter of free
values and the queue stay, which is the model's choice (log 12). -/
def Obligations.HardwareResetTaken : Prop :=
  ∀ (rate : Bool) (flags : RefFlags) (s : State),
    exec (.hardwareReset rate flags) s =
      .next
        { State.reset with
            pending := s.pending, freeCount := s.freeCount,
            lif := { State.reset.lif with rateHigh := rate },
            ldu := { State.reset.ldu with flags := flags },
            pbf := { State.reset.pbf with memory := s.pbf.memory } }

/-- What a byte on LRX, and a gap of more than 2 ms, make of the packet assembler (R196, R197, R198). -/
def Obligations.LinkByteTaken : Prop :=
  ∀ (b : Byte) (s : State),
    (s.lif.assembler = .hunt →
      exec (.linkByteReceived b true) s = .next s ∧ exec .interByteGapTimeout s = .next s ∧
      exec (.linkByteReceived b false) s =
        .next (if b = 0xA5#8 then { s with lif := { s.lif with assembler := .collect [] } } else s)) ∧
    ∀ bytes : List Byte, s.lif.assembler = .collect bytes →
      let discarded : State := { s with lif := { s.lif with assembler := .hunt, linkError := true } }
      let all := bytes ++ [b]
      let len := (all.getD 0 0).toNat
      let check := 256 * (all.getD (len + 3) 0).toNat + (all.getD (len + 4) 0).toNat
      exec (.linkByteReceived b true) s = .next discarded ∧
      exec .interByteGapTimeout s = .next discarded ∧
      (240 < len → exec (.linkByteReceived b false) s = .next discarded) ∧
      (len ≤ 240 → all.length < len + 5 →
        exec (.linkByteReceived b false) s = .next { s with lif := { s.lif with assembler := .collect all } }) ∧
      (len ≤ 240 → len + 5 ≤ all.length → (packetCheck (all.take (len + 3))).toNat ≠ check →
        exec (.linkByteReceived b false) s = .next discarded) ∧
      (len ≤ 240 → len + 5 ≤ all.length → (packetCheck (all.take (len + 3))).toNat = check →
        exec (.linkByteReceived b false) s =
          .next
            (if s.lif.queue.length < 4 then
              { s with lif := { s.lif with
                  assembler := .hunt,
                  queue := s.lif.queue ++
                    [{ kind := all.getD 1 0, tag := all.getD 2 0, payload := (all.drop 3).take len }] } }
             else discarded))

/-- A packet's bytes, received whole while the assembler hunts and the receive queue has room, put that packet at the
tail of the receive queue and change nothing else (section 12.2, R196 to R198). -/
def Obligations.PacketReceivedWhole : Prop :=
  ∀ (kind tag : Byte) (payload : List Byte) (s : State),
    payload.length ≤ 240 → s.lif.assembler = .hunt → s.lif.queue.length < 4 →
      receiveBytes (packetBytes kind.toNat tag.toNat payload) s =
        .next
          { s with lif := { s.lif with queue := s.lif.queue ++ [{ kind := kind, tag := tag, payload := payload }] } }

/-- A field is sent high byte first, a signed one in two's complement, an absent one and NO-VALUE in their forms; a
request read from its own payload is the request, and a feed likewise, with every operand at every value its layout
admits (R202, R203). HOME's flag levels are no part of its packet. -/
def Obligations.PayloadsReadBack : Prop :=
  (∀ n : Nat,
    put1 n = [BitVec.ofNat 8 n] ∧ put2 n = [BitVec.ofNat 8 (n / 256), BitVec.ofNat 8 n] ∧
    put4 n = put2 (n / 65536) ++ put2 n ∧ putSigned n = put2 n ∧
    (n ≤ 65536 → putSigned (-n) = put2 (65536 - n)) ∧ putOption1 (some n) = put1 n ∧ putOption2 (some n) = put2 n ∧
    putOption4 (some n) = put4 n) ∧
  (∀ x : Int, putValue (some x) = putSigned x) ∧ putOption1 none = [0xFF#8] ∧ putOption2 none = [0xFF#8, 0xFF#8] ∧
  putOption4 none = [0xFF#8, 0xFF#8, 0xFF#8, 0xFF#8] ∧ putValue none = [0x80#8, 0#8] ∧
  ∀ c : Instr, c.wellFormed = true →
    (∀ (kind tag : Nat) (payload : List Byte), encodeRequest c = some (kind, tag, payload) →
      decodeRequest kind tag payload = some c.atLink) ∧
    ∀ (kind : Nat) (payload : List Byte), encodeFeed c = some (kind, payload) → decodeFeed kind payload = some c

/-- What LIF does with the head packet of the receive queue (R198, R201): the checks of a request in their order, a
feed, a request that must wait because four replies are owed, a RESTART packet, which waits for every reply owed, and
the packets that stay in the queue once a RESTART has been taken. That the taking is a command of its own is the
model's choice (log 5); that what was taken stands in a list until its owner decides it, and that LENGTH is judged at
the taking, is log 2. -/
def Obligations.HeadPacketTaken : Prop :=
  (∀ s : State, s.lif.restart ≠ .none → exec .receiveQueueTake s = .next s) ∧
  ∀ (s : State) (p : Packet) (rest : List Packet), s.lif.queue = p :: rest → s.lif.restart = .none →
    let kind := p.kind.toNat
    let tag := p.tag.toNat
    let t : State := { s with lif := { s.lif with queue := rest } }
    (feedKinds.contains kind = true →
      exec .receiveQueueTake s =
        .next
          (match decodeFeed kind p.payload with
           | some c => { t with lif := { t.lif with handed := t.lif.handed ++ [c] } }
           | none => { t with lif := { t.lif with linkError := true } })) ∧
    (feedKinds.contains kind = false → p.kind ≠ 2#8 → 4 ≤ s.owed → exec .receiveQueueTake s = .next s) ∧
    (feedKinds.contains kind = false → p.kind ≠ 2#8 → s.owed < 4 →
      (requestKinds.contains kind = false →
        exec .receiveQueueTake s = .next (t.reply tag (.refused .unknownKind kind))) ∧
      (requestKinds.contains kind = true → tag = 0 →
        exec .receiveQueueTake s = .next (t.reply 0 (.refused .field 255))) ∧
      (requestKinds.contains kind = true → tag ≠ 0 → decodeRequest kind tag p.payload = none →
        exec .receiveQueueTake s = .next (t.reply tag (.refused .length p.payload.length))) ∧
      ∀ c, requestKinds.contains kind = true → tag ≠ 0 → decodeRequest kind tag p.payload = some c →
        exec .receiveQueueTake s = .next { t with lif := { t.lif with handed := t.lif.handed ++ [c] } }) ∧
    (p.kind = 2#8 →
      (s.owed ≠ 0 → exec .receiveQueueTake s = .next s) ∧
      (s.owed = 0 → tag = 0 → exec .receiveQueueTake s = .next (t.reply 0 (.refused .field 255))) ∧
      (s.owed = 0 → tag ≠ 0 → p.payload ≠ [] →
        exec .receiveQueueTake s = .next (t.reply tag (.refused .length p.payload.length))) ∧
      (s.owed = 0 → tag ≠ 0 → p.payload = [] →
        exec .receiveQueueTake s =
          .next { t with lif := { t.lif with handed := t.lif.handed ++ [.restart tag], restart := .taken } }))

/-- What goes out on LTX and what its end does (R13, R199): replies before notices, the oldest first, one packet at a
time; the end of a packet that is no EXPOSE, no STORED and no answer to a RESTART only frees the line; the end of an
EXPOSE starts the arm timer of its picture (R150); the end of the STORED of the record a NOTIFYING store works on frees
the record and its pages (to the pool's tail, log 11), discards the placement and makes the choice of a picture
boundary (R163, R178, R185). That the start of a packet is a command of its own is the model's choice (log 5). -/
def Obligations.PacketsLeaveInOrder : Prop :=
  ∀ s : State,
    (∀ p, s.lif.tx = some p → exec .packetTransmissionStart s = .next s) ∧
    (∀ r rest, s.lif.tx = none → s.lif.replies = r :: rest →
      exec .packetTransmissionStart s =
        .next { s with lif := { s.lif with replies := rest, tx := some (txPacket (.reply r)) } }) ∧
    (∀ n rest, s.lif.tx = none → s.lif.replies = [] → s.opt.outbox = n :: rest →
      exec .packetTransmissionStart s =
        .next { s with opt := { s.opt with outbox := rest }, lif := { s.lif with tx := some (txPacket (.notice n)) } }) ∧
    (∀ r bytes, s.lif.tx = some { item := .reply r, bytes := bytes } → s.lif.restart ≠ .answered →
      exec .packetTransmissionEnd s = .next { s with lif := { s.lif with tx := none } }) ∧
    (∀ n bytes, s.lif.tx = some { item := .notice n, bytes := bytes } → noticeKind n ≠ 0x92 → noticeKind n ≠ 0x93 →
      exec .packetTransmissionEnd s = .next { s with lif := { s.lif with tx := none } }) ∧
    (∀ id tv av gv time shutter bytes c h,
      s.lif.tx = some { item := .notice (.expose id tv av gv time shutter), bytes := bytes } →
      s.csq.state = .arming → s.csq.capture = some c → c.hand = some h → h.id = id →
        exec .packetTransmissionEnd s =
          .next
            { s with
                lif := { s.lif with tx := none },
                csq := { s.csq with capture := some { c with hand := some { h with arming := true } } } }) ∧
    ∀ id len cluster shot fragments bytes,
      s.lif.tx = some { item := .notice (.stored id len cluster shot fragments), bytes := bytes } →
      (s.csu.store ≠ .notifying ∨ s.csu.current ≠ some id →
        exec .packetTransmissionEnd s = .next { s with lif := { s.lif with tx := none } }) ∧
      ∀ r, s.csu.store = .notifying → s.csu.current = some id → s.record id = some r →
        let queue := s.csu.queue.filter fun p => p != id
        let freed : Pbf :=
          { s.pbf with freePages := s.pbf.freePages ++ (r.pages ++ r.reserved), records := s.pbf.records.erase r }
        let chosen (store : StoreState) (restarted : Bool) (opt : Opt) : Prop :=
          exec .packetTransmissionEnd s =
            .next
              { s with
                  lif := { s.lif with tx := none }, pbf := freed, opt := opt,
                  csu := { s.csu with queue := queue, current := none, placement := none, store := store,
                                      restarted := restarted } }
        (s.hasKind .storeHold = false →
          (s.csu.card = .absent ∨ s.csu.card = .present → chosen .disabled false s.opt) ∧
          (s.csu.card = .protect → chosen .paused s.csu.restarted s.opt) ∧
          (s.csu.card = .opened → queue = [] → chosen .idle s.csu.restarted s.opt) ∧
          ∀ next rest q n, s.csu.card = .opened → queue = next :: rest → s.record next = some q → q.length = some n →
            (∀ fs left, walkPool s.csu.cluster (clustersFor s.csu.cluster n) s.csu.pool = some (fs, left) →
              16 < fs.length) →
              exec .packetTransmissionEnd s =
                .next
                  (State.attention
                    { s with
                        lif := { s.lif with tx := none },
                        pbf := { freed with
                          records := updateFirst (fun x => x.id == next) (fun x => { x with state := .storing })
                            freed.records },
                        csu := { s.csu with queue := rest, current := some next, placement := none,
                                            store := .waitSpace } }
                    .store .needSpace (clustersFor s.csu.cluster n))) ∧
        ∀ e, s.csu.card = .opened ∨ s.csu.card = .protect → s.entryOfKind .storeHold = some e →
          s.entry e.tag = some e →
            chosen .paused s.csu.restarted
              { table := s.opt.table.filter fun f => f.tag != e.tag,
                outbox := s.opt.outbox ++
                  [.ending { tag := e.tag, kind := e.kind, cls := .complete, cause := .none,
                             done := min 65535 (e.done + 1), resume := .absent, result := some 0,
                             fields := .storeHold .paused none queue.length }] }

/-- A RESTART is answered DONE, and from its taking on no packet is taken; when its DONE, the last reply owed, has
been sent, the restart is carried out, and this is the whole state it leaves: operations and notices are gone, READY
is the one notice; axes have no owner and no target, each HELD, RELEASED, or with its step still to end; the stage is
at rest in the state of R117's table with the window closed; a mechanical exposure is closed, and the 10 ms and the
recharge run on; the pictures whose intake has not ended are freed by their state, their pages back in the pool (at
its tail, log 11), the engine drains what was still to come; the others and the store queue are kept; the store is
DISABLED, but for WRITING, which goes on to its boundary, and FAULTED; settings, tables and numbers stand (R17, R38,
R65, R90, R95, R117, R126, R138, R157, R170, R174, R193, R201). The step carried past it ends in HELD (R38), with
ATTENTION where it is lost (R28, R53); the 10 ms of XCLOSE end in the recharge. That what was handed to an owner is
discarded with the packet it came from is log 2, that a RESTART straight from the link is taken only when no reply is
owed is log 30, that the flag levels stand in the state as last read is log 8, that the lost step leaves the axis HELD
and not SETTLING is the model's choice, log 27, and what else it leaves is logs 50 and 60. -/
def Obligations.RestartCarriedOut : Prop :=
  (∀ s : State, s.lif.restart ≠ .none → exec .receiveQueueTake s = .next s) ∧
  (∀ (tag : Nat) (s t : State), s.reaches (.restart tag) tag t →
    s.lif.handed.contains (.restart tag) = true ∨ s.owed = 0 →
      exec (.restart tag) s =
        .next
          { t with lif := { t.lif with
              replies := t.lif.replies ++ [{ tag := tag, body := .done [] }], restart := .answered } }) ∧
  (∀ (s : State) (r : Reply) (bytes : List Byte), s.lif.tx = some { item := .reply r, bytes := bytes } →
    s.lif.restart = .answered → s.lif.replies = [] →
      let carried (a : AxisRec) : AxisRec :=
        let free := { a with owner := none, target := none }
        match a.state with
        | .moving => { free with homing := .none, after := .hold }
        | .homing => { free with after := .hold }
        | .released => { free with homing := .none }
        | _ =>
          { free with state := .held, homing := .none, after := .goOn,
                      timer := if a.setup.hold = 0 then none else some a.setup.hold }
      let row : StuState :=
        if s.stu.fault then .fault
        else if s.stu.mode = .off then .off
        else if s.activeKind = .review ∨ s.stu.mode = .shotOnly then .hold
        else if s.stu.offset = none then .uncalibrated
        else .active
      let rested (a : SteadyAxis) : SteadyAxis :=
        { theta := 0, target := 0, measured := if row = .off ∨ row = .fault then 0 else a.measured, saturated := 0,
          supervised := 0 }
      let closes : Bool :=
        decide (s.csq.state = .exposing) && decide (s.csq.capture.map (·.shutter) = some .mechanical)
      let gone (r : PicRecord) : Bool := r.state == .reserved || r.state == .filling
      let bytes := (s.pbf.fifo.map fun i => match i with | .byte _ => 1 | .gap lost => lost).sum
      let drains (left : Nat) : Engine := if left = 0 then .seek false false else .drain left
      let engine : Engine :=
        match s.pbf.engine with
        | .data id =>
          (match s.record id with
           | some r => drains (r.length.getD 0 - r.received - bytes)
           | none => .seek false false)
        | .drain n => drains (n - bytes)
        | .header _ => .seek false false
        | .seek afterA5 raised => .seek afterA5 raised
      let kept (k : Continuation) : Continuation := if k = .hold then .none else k
      let csu : Csu :=
        { s.csu with
            opening := none, awaiting := if s.csu.opening = none then s.csu.awaiting else none,
            capacity := if s.csu.opening = none then s.csu.capacity else none,
            placement := s.csu.placement.map fun p => { p with deferred := kept p.deferred } }
      exec .packetTransmissionEnd s =
        .next
          { s with
              lif := { s.lif with assembler := .hunt, queue := [], linkError := false, handed := [], tx := none,
                                  restart := .none },
              opt := { table := [], outbox := [.ready .restart] },
              ldu := { s.ldu with
                zoom := carried s.ldu.zoom, focus := carried s.ldu.focus, iris := carried s.ldu.iris, waitList := [],
                pendingIris := none, irisWriter := none, ops := [] },
              fmn := { s.fmn with ring := [] },
              exc := { s.exc with x := none, lock := .none, ring := [], clamp := .none, latest := none },
              fsu := { s.fsu with scan := none },
              stu := { s.stu with
                state := row, yaw := rested s.stu.yaw, pitch := rested s.stu.pitch, window := false, cal := none },
              pcs := { s.pcs with op := none },
              csq := { s.csq with
                state := .idle, capture := none, pendingIntake := [], xstart := false,
                xclose := s.csq.xclose || closes, closeTimer := s.csq.closeTimer || closes },
              pbf := { s.pbf with
                records := s.pbf.records.filter (fun r => !gone r),
                freePages := s.pbf.freePages ++
                  (s.pbf.records.filter gone).flatMap fun r => r.pages ++ r.reserved,
                request := false, fifo := [], engine := engine },
              csu :=
                match s.csu.store with
                | .writing => { csu with restarted := true }
                | .faulted =>
                  { csu with fault := s.csu.fault.map fun f => { f with continuation := kept f.continuation } }
                | _ => { csu with store := .disabled } }) ∧
  (∀ (a : Axis) (flags : RefFlags) (s : State) (r : AxisRec), s.axis a = r → r.owner = none → r.after = .hold →
    s.ldu.waitList = [] → s.fsu.scan = none → s.ldu.irisWriter = none →
      let read : State := { s with ldu := { s.ldu with flags := flags } }
      let rests (q : AxisRec) : State :=
        (read.reportStep a).setAxis a
          { q with state := .held, homing := .none, after := .goOn,
                   timer := if r.setup.hold = 0 then none else some r.setup.hold }
      (r.state = .homing →
        exec (.axisStepComplete a flags) s = .next (rests { r with homingCount := r.homingCount + 1 })) ∧
      ∀ p, r.state = .moving → r.homing = .none → r.pp = some p →
        let q := if r.stepUp then p + 1 else p - 1
        let lost := (flagLevel flags a ≠ decide (referencePosition a < q)) ∧
          (referencePosition a + 4 ≤ q ∨ q + 4 ≤ referencePosition a)
        (¬ lost → exec (.axisStepComplete a flags) s = .next (rests { r with pp := some q })) ∧
        (lost →
          let w := (rests { r with pp := none, target := none }).attention (axisSource a) .lostStep q
          let still (x : SteadyAxis) : SteadyAxis := { x with theta := 0, target := 0, saturated := 0 }
          let centred (v : State) : State :=
            if v.stu.state = .active ∨ v.stu.state = .panning then
              { v with stu := { v.stu with yaw := still v.stu.yaw, pitch := still v.stu.pitch } }
            else v
          exec (.axisStepComplete a flags) s =
            .next (match a with | .zoom => centred w.excLost | .focus => w | .iris => w.excLost))) ∧
  ∀ s : State, s.csq.closeTimer = true → s.csq.state = .idle →
    exec .bladeTimeout s =
      .next { s with csq := { s.csq with xclose := false, closeTimer := false, recharge := true } }

/-- QUERY (R200) answers the link-error flag and the part of the block its section names, written out item by item with
the codes of section 12.5: the operation table and the outbox (R18); the axes, d, slots, wait list and pending iris
target; the table's state and ends; the frame ring (R66); exposure, its state by the rows of R67 (R91); the scan
(R110); steadying (R127); program limit and slots (R140); the capture (R158); the picture buffer (R171); the store
(R194). It clears the flag, with section 3 the stale counter too, and changes nothing else; a section above 10 is
refused. That a refused QUERY clears nothing is the model's choice (log 38), as are the widths and absent forms R203
leaves open (log 20), the order of the table's entries (log 67) and a cluster count above 65,535 (log 73). -/
def Obligations.QueryAnswered : Prop :=
  ([.home, .move, .zoom, .park, .scan, .gyroCal, .switch, .enter, .leave, .prepare, .shoot, .cardOpen,
      .storeHold].map opKindCode =
    [0x11, 0x12, 0x13, 0x14, 0x23, 0x24, 0x34, 0x35, 0x36, 0x40, 0x42, 0x50, 0x54] ∧
  [.waiting, .running, .stopping].map opStateCode = [0, 1, 2] ∧ [.zoom, .focus, .iris].map axisCode = [0, 1, 2] ∧
  [.released, .energizing, .held, .awaitingSlot, .moving, .homing, .settling].map axisStateCode =
    [0, 1, 2, 3, 4, 5, 6] ∧
  [.empty, .staged, .valid].map tableStateCode = [0, 1, 2] ∧
  [.off, .fault, .hold, .uncalibrated, .active, .panning, .recentering].map stuStateCode = [0, 1, 2, 3, 4, 5, 6] ∧
  [.off, .continuous, .shotOnly].map steadyModeCode = [0, 1, 2] ∧
  [.still, .movie, .review].map contextKindCode = [0, 1, 2] ∧
  [.empty, .available, .active, .nested].map slotStatusCode = [0, 1, 2, 3] ∧
  [.idle, .preparing, .ready, .waitBuffer, .waitIntake, .waitIris, .recentring, .arming, .exposing, .closing, .recharge,
      .interval, .finishing].map csqStateCode = List.range 13 ∧
  [.complete, .partialEnd, .suppressed, .nullified, .terminated].map classCode = [0, 1, 2, 3, 4] ∧
  [.none, .stopped, .preempted, .lostStep, .noReference, .markedFrame, .noStats, .steadyFault, .armTimeout,
      .shutterFault, .intakeOverflow, .intakeTimeout, .cardGone].map causeCode = List.range 13 ∧
  (∀ a b bytes id n, [.seek a b, .header bytes, .data id, .drain n].map engineCode = [0, 1, 2, 3]) ∧
  [.absent, .present, .opened, .protect].map cardStateCode = [0, 1, 2, 3] ∧
  [.disabled, .idle, .placing, .waitSpace, .writing, .notifying, .paused, .faulted].map storeStateCode =
    List.range 8) ∧
  ∀ (tag part : Nat) (s t : State), s.reaches (.query tag part) tag t →
    (10 < part → exec (.query tag part) s = .next (t.reply tag (.refused .field 0))) ∧
    let answers (k : Nat) (bytes : List Byte) : Prop :=
      part = k →
        exec (.query tag part) s =
          .next
            { t with
                lif := { t.lif with
                  replies := t.lif.replies ++
                    [{ tag := tag, body := .done ((if t.lif.linkError then 1#8 else 0#8) :: bytes) }],
                  linkError := false },
                fmn := if part = 3 then { t.fmn with stale := 0 } else t.fmn }
    let flag (b : Bool) : List Byte := [if b then 1#8 else 0#8]
    let ending (n : Notice) : Bool := match n with | .ending _ => true | _ => false
    let owner (o : Option Owner) : List Byte :=
      match o with
      | none => [0xFF#8]
      | some (.op kind _) => put1 (opKindCode kind)
      | some (.capture kind) => put1 (opKindCode kind)
    let axis (r : AxisRec) : List Byte :=
      putOption2 r.pp ++ put1 (axisStateCode r.state) ++ putOption2 r.target ++ owner r.owner ++ put2 r.homingCount
    let steps (a : Axis) : Bool := (t.axis a).state == .moving || (t.axis a).state == .homing
    let holders := [Axis.zoom, .focus, .iris].filter steps
    let marks (r : FrameRec) : List Byte :=
      flag r.movingZoom ++ flag r.movingFocus ++ flag r.movingIris ++ flag r.unsteady ++ flag r.hostMark ++
        flag r.expChanged ++ flag r.stats ++ flag r.offerHeld
    let exposure : Nat :=
      if t.activeKind = .review then 0
      else if t.otb.state ≠ .valid ∨ t.ldu.zoom.pp = none ∨ t.ldu.iris.pp = none then 1
      else match t.exc.lock with
        | .held _ => 2
        | _ => if t.exc.x = none then 3 else 4
    let shift (a : SteadyAxis) : List Byte :=
      putSigned a.target ++ putSigned a.measured ++ put2 a.saturated ++ put2 a.supervised
    let slot (c : Slot) : List Byte :=
      put1 (slotStatusCode c.status) ++ (if c.status = .empty then [0xFF#8] else put1 (contextKindCode c.kind)) ++
        putOption1 c.link
    let records (state : RecordState) : List Byte := put2 (t.pbf.records.countP fun r => r.state == state)
    let isByte (i : FifoItem) : Bool := match i with | .byte _ => true | .gap _ => false
    let bytesHeld := t.pbf.fifo.countP isByte
    answers 0
      (put1 t.opt.table.length ++
        t.opt.table.flatMap
          (fun e => put1 e.tag ++ put1 (opKindCode e.kind) ++ put1 (opStateCode e.state) ++ put2 e.done ++
            putOption2 e.planned) ++
        put2 (t.opt.outbox.countP ending) ++ put2 t.opt.outbox.length) ∧
    answers 1
      (axis t.ldu.zoom ++ axis t.ldu.focus ++ axis t.ldu.iris ++ put2 t.ldu.d ++
        putOption1 (holders[0]?.map axisCode) ++ putOption1 (holders[1]?.map axisCode) ++
        put1 t.ldu.waitList.length ++ t.ldu.waitList.flatMap (fun a => put1 (axisCode a)) ++
        (match t.ldu.pendingIris with | some v => put2 v.value | none => [0xFF#8, 0xFF#8])) ∧
    answers 2
      (put1 (tableStateCode t.otb.state) ++ put2 (t.otb.nodes.countP (·.written)) ++
        (if t.otb.state = .valid then put2 t.wideEnd ++ put2 t.teleEnd else List.replicate 4 0xFF#8)) ∧
    answers 3
      (put2 t.fmn.counter ++ put2 t.fmn.ring.length ++ put2 (t.fmn.ring.countP (·.stats)) ++
        (match t.fmn.ring.getLast? with | some r => marks r | none => List.replicate 8 0#8) ++
        (match (t.fmn.ring.filter (·.stats)).getLast? with
         | some r => put2 r.number ++ marks r
         | none => List.replicate 10 0xFF#8) ++
        put2 t.fmn.stale) ∧
    answers 4
      (put1 exposure ++
        (match t.exc.lock with
         | .none => [0#8, 0xFF#8, 0xFF#8]
         | .pending => [1#8, 0xFF#8, 0xFF#8]
         | .held x => 2#8 :: putSigned x) ++
        putValue t.exc.x ++ (match t.exc.latest with | some x => putSigned x | none => [0xFF#8, 0xFF#8]) ++
        (match t.exc.clamp with
         | .none => [0#8, 0#8]
         | .under n => [1#8, byteOf (min n 255)]
         | .over n => [2#8, byteOf (min n 255)]) ++
        put1 t.exc.window ++ put2 t.exc.ring.length ++
        (match t.exc.ring.getLast? with
         | some e => put2 e.serial ++ putSigned e.tv ++ putSigned e.av ++ putSigned e.gv
         | none => List.replicate 8 0xFF#8)) ∧
    answers 5
      (match t.fsu.scan with
       | none => 0#8 :: List.replicate 17 0xFF#8
       | some c =>
         put1 (match c.phase with | .travel => 1 | .frameWait => 2 | .finalTravel => 3) ++
           (match c.user with
            | .scan tag _ => [0#8, byteOf tag]
            | .prepare => [1#8, 0xFF#8]
            | .focusFirst => [2#8, 0xFF#8]
            | .refine _ _ => [3#8, 0xFF#8]) ++
           put1 c.index ++ put2 c.plan.planned ++ put2 c.p ++ putOption2 c.mark ++ put2 c.waitCount ++
           (match c.best with | some b => put2 b.pos ++ put4 b.value | none => List.replicate 6 0xFF#8)) ∧
    answers 6
      (put1 (stuStateCode t.stu.state) ++ put1 (steadyModeCode t.stu.mode) ++ put1 t.stu.leak ++
        (match t.stu.offset with
         | some (yaw, pitch) => putSigned yaw ++ putSigned pitch
         | none => [0x80#8, 0#8, 0x80#8, 0#8]) ++
        flag t.stu.window ++ flag t.stu.fault ++ shift t.stu.yaw ++ shift t.stu.pitch ++
        (match t.stu.cal with
         | some c => put2 c.failed ++ put2 c.samples
         | none => List.replicate 4 0xFF#8)) ∧
    answers 7
      (put1 t.pcs.limit ++ put2 ((t.pcs.programs.take t.pcs.limit).countP (·.isSome)) ++ put1 t.activeIndex ++
        t.pcs.slots.flatMap slot ++
        (match t.pcs.op with
         | some o =>
           (match o.phase with
            | .zoom => 2#8 :: put2 o.target
            | .focus => 3#8 :: put2 o.target
            | .pending => List.replicate 3 0xFF#8)
         | none => List.replicate 3 0xFF#8)) ∧
    answers 8
      (put1 (csqStateCode t.csq.state) ++
        (match t.csq.capture with
         | some c =>
           put1 (opKindCode c.kind) ++ put1 c.tag ++
             (if c.kind = .shoot then put2 c.pos ++ put2 c.first ++ put2 c.last else List.replicate 6 0xFF#8)
         | none => List.replicate 8 0xFF#8) ++
        (match t.csq.capture.bind (·.hand) with
         | some h =>
           (match t.record h.id with
            | some r => if r.state = .reserved ∨ r.state = .filling then put2 h.id else [0xFF#8, 0xFF#8]
            | none => [0xFF#8, 0xFF#8])
         | none => [0xFF#8, 0xFF#8]) ++
        put1 t.csq.pendingIntake.length ++ t.csq.pendingIntake.flatMap put2 ++
        (match t.csq.capture.bind (·.hand) with | some h => flag h.arming | none => [0#8]) ++
        flag t.csq.recharge ++
        (match t.csq.capture.bind (·.failure) with
         | some f => put1 (classCode f.1) ++ put1 (causeCode f.2)
         | none => [0xFF#8, 0xFF#8]) ++
        put2 t.csq.nextId) ∧
    answers 9
      (put2 t.pbf.freePages.length ++ put2 t.pbf.reserve ++ records .reserved ++ records .filling ++
        records .complete ++ records .storing ++ records .discarding ++ flag t.pbf.request ++
        put1 (engineCode t.pbf.engine) ++
        (match t.pbf.engine with
         | .data id =>
           (match t.record id with
            | some r => put2 r.id ++ putOption4 r.length ++ put4 r.received
            | none => List.replicate 10 0xFF#8)
         | _ => List.replicate 10 0xFF#8) ++
        (match t.pbf.engine with | .drain n => put4 n | _ => List.replicate 4 0xFF#8) ++
        put2 bytesHeld ++ flag (t.pbf.fifo.any fun i => !isByte i) ++ flag (decide (3072 < bytesHeld))) ∧
    answers 10
      (put1 (cardStateCode t.csu.card) ++ flag t.csu.protect ++
        putOption4 (if t.csu.card = .opened ∨ t.csu.card = .protect then t.csu.capacity else none) ++
        put1 (storeStateCode t.csu.store) ++ put2 t.csu.cluster ++ put2 t.csu.queue.length ++
        (match t.csu.current with
         | some id =>
           put2 id ++ put2 (clustersFor t.csu.cluster (((t.record id).bind (·.length)).getD 0)) ++
             put2 (match t.csu.placement with | some p => p.written + p.ahead.length | none => 0)
         | none => List.replicate 6 0xFF#8) ++
        put2 t.csu.pool.length ++ put2 ((t.csu.pool.map (·.len)).sum / t.csu.cluster) ++
        (match t.csu.fault with
         | some f => 1#8 :: put1 f.format ++ put2 f.repeats
         | none => 0#8 :: List.replicate 3 0xFF#8))

/-- STOP (R10): NO_SUCH for a tag not in the table, its detail telling whether an ENDING of the tag still waits; DONE
with nothing changed for an entry already STOPPING; otherwise the entry becomes STOPPING with the cause STOPPED, DONE
is answered, and the operation does its kind's part. A calibration window, a context operation and a CARD-OPEN carry
their unit on (R115, R138, R174; for the event between an exchange and its travel, log 29), and a GYRO-CAL between two
windows ends PARTIAL (before the first, log 55). The axes of a HOME, MOVE, ZOOM or PARK are halted (the target that
this makes absent: log 60; a step that a RESTART has carried on: log 74), and one stopped while WAITING with its axes
at rest or energizing ends SUPPRESSED at once (R21, R31, R32, R35, R36). A SCAN carries its unit on, or ends
SUPPRESSED before its first (R104; the new d, log 39); a PREPARE before its scan, and a SHOOT still WAITING, end
SUPPRESSED with only the capture's own axes freed (R143, R146); a SHOOT in WAIT_BUFFER or INTERVAL finishes, PARTIAL
where nothing is in intake, and in another state carries its picture on (R155); a STORE-HOLD ends SUPPRESSED and a
continuation HOLD becomes NONE (R180, R189, R191). -/
def Obligations.StopTaken : Prop :=
  let halt (r : AxisRec) : AxisRec :=
    let held : AxisRec :=
      { r with target := none, state := .held, homing := .none, after := .goOn,
               timer := if r.setup.hold = 0 then none else some r.setup.hold }
    match r.state with
    | .energizing => held
    | .awaitingSlot => held
    | .moving => { r with target := none, homing := .none, after := .settle }
    | .homing => { r with target := none, homing := if r.homing = .pending then .none else r.homing, after := .settle }
    | .released => r
    | .held => r
    | .settling => r
  ∀ (tag operation : Nat) (s t : State), s.reaches (.stop tag operation) tag t →
    (t.entry operation = none →
      exec (.stop tag operation) s =
        .next (t.reply tag (.refused .noSuch (if t.endingTags.contains operation then 1 else 0)))) ∧
    ∀ e, t.entry operation = some e →
      let answers (u : State) : Prop := exec (.stop tag operation) s = .next (u.reply tag (.done []))
      let marked : State :=
        { t with opt := { t.opt with
            table := t.opt.table.map fun f =>
              if f.tag = operation ∧ f.state ≠ .stopping then { f with state := .stopping, cause := some .stopped }
              else f } }
      let ended (u : State) (cls : EndClass) (resume : Resume) (fields : EndFields) : State :=
        { u with opt :=
            { table := t.opt.table.filter (fun f => f.tag != operation),
              outbox := t.opt.outbox ++
                [.ending { tag := operation, kind := e.kind, cls := cls, cause := .stopped, done := e.done,
                           resume := resume, result := none, fields := fields }] } }
      let current := t.csu.current.map fun id => (id, match t.csu.placement with | some p => p.written + p.ahead.length | none => 0)
      (e.state = .stopping → answers t) ∧
      (e.state ≠ .stopping →
        (e.kind = .switch ∨ e.kind = .enter ∨ e.kind = .leave ∨ e.kind = .cardOpen → answers marked) ∧
        (e.kind = .gyroCal →
          ((∀ c, t.stu.cal = some c → c.samples ≠ 0) → answers marked) ∧
          ∀ c, t.entryOfKind .gyroCal = some e → t.stu.cal = some c → c.samples = 0 →
            answers
              (ended { t with stu := { t.stu with cal := none } } .partialEnd .absent
                (.gyro t.stu.offset c.judged c.last))) ∧
        (∀ o, e.kind = .home ∨ e.kind = .move ∨ e.kind = .zoom ∨ e.kind = .park → t.lensOp operation = some o →
          let halted (a : Axis) : Bool :=
            match o.body with
            | .home z f i =>
              (match a with
               | .zoom => z != .notNamed
               | .focus => f != .notNamed
               | .iris => i != .notNamed)
            | .move b _ _ => a == b
            | .zoom _ _ _ _ _ => a == .zoom || (a == .focus && e.state == .waiting)
            | .park _ => true
          let after (a : Axis) (r : AxisRec) : AxisRec := if halted a then halt r else r
          (∀ b ∈ t.ldu.waitList, halted b = true ∧ (t.axis b).state = .awaitingSlot) →
            ((∃ a, halted a = true ∧ ((t.axis a).state = .moving ∨ (t.axis a).state = .homing)) →
              answers
                { marked with ldu := { t.ldu with
                    zoom := after .zoom t.ldu.zoom, focus := after .focus t.ldu.focus,
                    iris := after .iris t.ldu.iris, waitList := [],
                    ops := t.ldu.ops.map fun p =>
                      if p.tag = operation then { p with waitStopped := e.state == .waiting } else p } }) ∧
            (e.state = .waiting → t.ldu.pendingIris = none → t.csq.capture = none →
              (∀ a, halted a = true → (t.axis a).state ≠ .moving ∧ (t.axis a).state ≠ .homing ∧
                (t.axis a).state ≠ .settling) →
              (match o.body with
               | .home z f i => z ≠ .failed ∧ f ≠ .failed ∧ i ≠ .failed
               | .move b _ _ => (t.axis b).pp ≠ none
               | .zoom _ _ _ _ lost => lost = none
               | .park lost => lost = none) →
              let freed (a : Axis) (r : AxisRec) : AxisRec := if halted a then { halt r with owner := none } else r
              let d := match o.body with | .move .focus _ _ => t.backD | _ => t.ldu.d
              let home (a : Axis) (part : HomePart) : HomeField :=
                { named := part != .notNamed, pp := (t.axis a).pp, count := (t.axis a).homingCount }
              answers
                (ended
                  { t with ldu := { t.ldu with
                      zoom := freed .zoom t.ldu.zoom, focus := freed .focus t.ldu.focus,
                      iris := freed .iris t.ldu.iris, waitList := [], d := d,
                      ops := t.ldu.ops.filter fun p => p.tag != operation } }
                  .suppressed .absent
                  (match o.body with
                   | .home z f i => .home (home .zoom z) (home .focus f) (home .iris i)
                   | .move b v clampFlag => .move b (t.axis b).pp clampFlag v d
                   | .zoom _ v _ clampFlag lost => .zoom t.ldu.zoom.pp t.ldu.focus.pp lost clampFlag v d
                   | .park lost => .park t.ldu.zoom.pp t.ldu.focus.pp t.ldu.iris.pp lost)))) ∧
        (∀ c ops, e.kind = .scan → t.fsu.scan = some c → c.user = .scan operation ops →
          (c.begun = true →
            answers { marked with fsu := { t.fsu with scan := some { c with stop := some (c.stop.getD .stopped) } } }) ∧
          (c.begun = false → t.csq.capture = none →
            t.ldu.waitList = [] ∨ (t.ldu.waitList = [.focus] ∧ t.ldu.focus.state = .awaitingSlot) →
            answers
              (ended
                { t with
                    fsu := { t.fsu with scan := none },
                    ldu := { t.ldu with focus := { halt t.ldu.focus with owner := none }, waitList := [],
                                        d := t.backD } }
                .suppressed .absent
                (.scan
                  { finalPP := t.ldu.focus.pp, start := c.plan.start, stop := c.plan.stop,
                    clampFlag := c.plan.clampFlag, countFlag := c.plan.countFlag,
                    best := c.best.map fun b => (b.pos, b.value), rise := c.rise, window := none,
                    d := t.backD })))) ∧
        (∀ c, t.csq.capture = some c → c.tag = operation → e.kind = c.kind →
          let idles (cls : EndClass) (resume : Resume) (fields : EndFields) : Prop :=
            let letGo (r : AxisRec) : AxisRec :=
              match r.owner with
              | some (.capture _) => { r with owner := none }
              | _ => r
            ∃ u, exec (.stop tag operation) s = .next u ∧ u.opt = (ended t cls resume fields).opt ∧
              u.csq = { t.csq with state := .idle, capture := none } ∧ u.exc = { t.exc with lock := .none } ∧
              u.stu.window = false ∧ u.stu.mode = t.stu.mode ∧ u.stu.offset = t.stu.offset ∧
              u.ldu = { t.ldu with zoom := letGo t.ldu.zoom, focus := letGo t.ldu.focus } ∧
              u.pbf = { t.pbf with request := false } ∧
              u.lif = { t.lif with replies := t.lif.replies ++ [{ tag := tag, body := .done [] }] } ∧
              u.otb = t.otb ∧ u.fmn = t.fmn ∧ u.fsu = t.fsu ∧ u.pcs = t.pcs ∧ u.csu = t.csu
          let shot := EndFields.shoot c.programIndex c.first c.last c.shutter t.xLocked c.ownPreparation c.scanEnd
            c.pictures
          (∀ plan, c.kind = .prepare → c.plan = some plan → t.fsu.scan = none →
            idles .suppressed .absent
              (.prepare
                { finalPP := t.ldu.focus.pp, start := plan.start, stop := plan.stop, clampFlag := plan.clampFlag,
                  countFlag := plan.countFlag, best := none, rise := 0, window := none, d := t.ldu.d }
                t.xLocked t.stu.state)) ∧
          (c.kind = .shoot → e.state = .waiting →
            ((∀ x, t.fsu.scan = some x → x.user ≠ .prepare ∧ x.user ≠ .focusFirst) →
              idles .suppressed .absent shot) ∧
            ∀ x, t.fsu.scan = some x → x.user = .focusFirst → x.begun = true →
              answers
                { marked with fsu := { t.fsu with scan := some { x with stop := some (x.stop.getD .stopped) } } }) ∧
          (c.kind = .shoot → e.state = .running →
            let finishes := t.csq.state = .waitBuffer ∨ (t.csq.state = .interval ∧ c.refine ≠ .running)
            (¬ finishes → answers marked) ∧
            (finishes → t.csq.pendingIntake ≠ [] →
              answers
                { marked with csq := { t.csq with state := .finishing }, pbf := { t.pbf with request := false } }) ∧
            (finishes → t.csq.pendingIntake = [] → c.refine ≠ .running → c.failure = none →
              e.done < c.last + 1 - c.first →
              idles .partialEnd (.shoot c.programIndex (c.last + 1 - c.first - e.done)) shot))) ∧
        (e.kind = .storeHold →
          answers
            (ended
              { t with csu := { t.csu with
                  fault := t.csu.fault.map fun h =>
                    { h with continuation := if h.continuation = .hold then .none else h.continuation },
                  placement := t.csu.placement.map fun p =>
                    if p.deferred = .hold then { p with deferred := .none } else p } }
              .suppressed .absent (.storeHold t.csu.store current t.csu.queue.length))))

/-- A request that may not be taken yet changes nothing (the model's choice, log 2, as is that packets waiting in the
receive queue, a RESTART's among them, do not stand before it); one with TAG 0 is refused FIELD, detail 255, and
changes nothing else (R198); this holds of every request but RESTART, whose taking has a rule of its own (R201). -/
def Obligations.RequestsReachOwners : Prop :=
  ∀ (c : Instr) (kind tag : Nat) (payload : List Byte) (s : State), encodeRequest c = some (kind, tag, payload) →
    kind ≠ 2 →
      (s.takeHanded c = none → exec c s = .next s) ∧
      ∀ t, s.takeHanded c = some t → tag = 0 → exec c s = .next (t.reply 0 (.refused .field 255))

/-! ## Lens drive -/

/-- AXIS-SET takes the nearest allowed values and answers them; an axis code outside its list is refused. A value taken
is an allowed one, no allowed value is nearer, and of two equally near it is the larger: step intervals in 50 µs units
within the axis's range, energize and settle times 0 to 30 ms in 2 ms units, a hold-release time of 0 or 16 to 240 ms
in 16 ms units (R19, R24). -/
def Obligations.AxisSetTaken : Prop :=
  let nearest (allowed : Nat → Prop) (v r : Nat) : Prop :=
    allowed r ∧ ∀ w, allowed w → (v - r) + (r - v) ≤ (v - w) + (w - v) ∧
      ((v - r) + (r - v) = (v - w) + (w - v) → w ≤ r)
  (∀ v, nearest (fun w => w % 50 = 0 ∧ 250 ≤ w ∧ w ≤ 4000) v (bringInterval .zoom v)) ∧
  (∀ v, nearest (fun w => w % 50 = 0 ∧ 100 ≤ w ∧ w ≤ 2000) v (bringInterval .focus v)) ∧
  (∀ v, nearest (fun w => w % 50 = 0 ∧ 500 ≤ w ∧ w ≤ 4000) v (bringInterval .iris v)) ∧
  (∀ v, nearest (fun w => w % 2 = 0 ∧ w ≤ 30) v (bringTime v)) ∧
  (∀ v, nearest (fun w => w % 16 = 0 ∧ w ≤ 240) v (bringHold v)) ∧
  ∀ (tag axis interval energize settle hold : Nat) (s t : State),
    s.reaches (.axisSet tag axis interval energize settle hold) tag t →
      (2 < axis →
        exec (.axisSet tag axis interval energize settle hold) s = .next (t.reply tag (.refused .field 0))) ∧
      ∀ a, axisCode a = axis →
        let u : Setup :=
          { interval := bringInterval a interval, energize := bringTime energize, settle := bringTime settle,
            hold := bringHold hold }
        exec (.axisSet tag axis interval energize settle hold) s =
          .next
            ((t.setAxis a { t.axis a with setup := u }).reply tag
              (.done (put2 u.interval ++ put2 u.energize ++ put2 u.settle ++ put2 u.hold)))

/-- HOME (R29): its refusals in their order; accepted, its entry is WAITING with no units planned, each named axis is
owned by it and asked to home, and, standing RELEASED, energizes; the other axes stay as they are. That a refusal of
the tracker moves the model's counter of free values, from which a TABLE_FULL's detail is drawn, is the model's choice
(log 19), as is that the levels of the flag lines stand in the state as last read (log 8). -/
def Obligations.HomeBegins : Prop :=
  ∀ (tag mask : Nat) (flags : RefFlags) (s t : State), s.reaches (.home tag mask flags) tag t →
    let named (a : Axis) : Bool := mask.testBit (axisCode a)
    ((∀ a, named a = false) → exec (.home tag mask flags) s = .next (t.reply tag (.refused .field 0))) ∧
    (∀ a, named a = true → (t.axis a).owner ≠ none →
      (∀ b, axisCode b < axisCode a → named b = true → (t.axis b).owner = none) →
        exec (.home tag mask flags) s = .next (t.reply tag (.refused .busy (axisCode a)))) ∧
    ((∃ a, named a = true) → (∀ a, named a = true → (t.axis a).owner = none) →
      (t.csq.state ≠ .idle → exec (.home tag mask flags) s = .next (t.reply tag (.refused .busy 0))) ∧
      (t.csq.state = .idle →
        (∀ code detail, t.trackerRefusal tag = some (code, detail) →
          exec (.home tag mask flags) s = .next (t.drawFree.reply tag (.refused code detail))) ∧
        (t.hasRoom tag → t.ldu.waitList = [] →
          (∀ a, named a = true → (t.axis a).state = .released ∧ (t.axis a).setup.energize ≠ 0) →
            let begun (a : Axis) (r : AxisRec) : AxisRec :=
              if named a then
                { r with owner := some (.op .home tag), target := none, after := .goOn, homing := .pending,
                         state := .energizing, timer := some r.setup.energize }
              else r
            let part (a : Axis) : HomePart := if named a then .homing else .notNamed
            let v := t.accepted tag .home .waiting none
            exec (.home tag mask flags) s =
              .next
                { v with ldu := { v.ldu with
                    zoom := begun .zoom v.ldu.zoom, focus := begun .focus v.ldu.focus,
                    iris := begun .iris v.ldu.iris, flags := flags,
                    pendingIris := if named .iris then none else v.ldu.pendingIris,
                    irisWriter := if named .iris then none else v.ldu.irisWriter,
                    ops := v.ldu.ops ++
                      [{ tag := tag, body := .home (part .zoom) (part .focus) (part .iris), waitStopped := false }] } })))

/-- Homing of an axis under a HOME (R30, R31): it begins when the energize time has run out and a slot is free, upward
while the flag reads low, and with the position of the zoom gone the stage is centred (R53; log 50); a step counts and
sets the direction; the reference is found on a downward step that reads the flag low, and a zoom with a VALID table
goes on to the wide end (that one whose wide end is the reference settles there is the model's choice, log 78); the
home limit ends it with NO_REFERENCE. That HOME_LIMIT_REACHED is this last step and no other is the model's choice
(log 4), as is that the failing step counts (log 15) and that the flag levels stand in the state as last read (log 8).
-/
def Obligations.HomingSteps : Prop :=
  ∀ (a : Axis) (tag : Nat) (flags : RefFlags) (s : State) (r : AxisRec), s.axis a = r →
    r.owner = some (.op .home tag) → s.ldu.waitList = [] → s.fsu.scan = none →
    (∀ o, s.lensOp tag = some o → o.waitStopped = false) →
      let low := !flagLevel flags a
      let read : State := { s with ldu := { s.ldu with flags := flags } }
      let still (x : SteadyAxis) : SteadyAxis := { x with theta := 0, target := 0, saturated := 0 }
      let centred (v : State) : State :=
        if v.stu.state = .active ∨ v.stu.state = .panning then
          { v with stu := { v.stu with yaw := still v.stu.yaw, pitch := still v.stu.pitch } }
        else v
      let lensLost (v : State) : State :=
        match a with
        | .zoom => centred v.excLost
        | .focus => v
        | .iris => v.excLost
      let lensFound (v : State) : State := if a = .focus then v else v.excFound
      let counted := ((read.reportStep a).beginUnit tag).countUnit tag
      let resting := { r with state := .settling, homingCount := r.homingCount + 1, homing := .none, after := .goOn,
                              timer := some r.setup.settle }
      (r.state = .energizing → r.timer.isSome = true → r.homing = .pending → s.slotHolders.length < 2 →
        exec (.energizeTimeout a flags) s =
          .next
            ((lensLost
              (read.setAxis a
                { r with pp := none, target := none, state := .homing, timer := none, after := .goOn,
                         homingCount := 0, homing := if low then .up else .down, stepUp := low,
                         stepTime := r.setup.interval })).beginUnit tag)) ∧
      (r.state = .homing → r.homing = .up ∨ r.homing = .down → r.after = .goOn →
        (r.homing = .up ∨ low = false →
          (r.homingCount + 1 < homeLimit a →
            let up := decide (r.homing = .up) && low
            exec (.homeLimitReached a flags) s = .next s ∧
            exec (.axisStepComplete a flags) s =
              .next
                (counted.setAxis a
                  { r with homingCount := r.homingCount + 1, homing := if up then .up else .down, stepUp := up,
                           stepTime := r.setup.interval })) ∧
          (homeLimit a ≤ r.homingCount + 1 → r.setup.settle ≠ 0 →
            let ended :=
              (((counted.setAxis a resting).attention (axisSource a) .noReference (r.homingCount + 1)).setBody tag
                (setHomePart a .failed))
            exec (.axisStepComplete a flags) s = .next ended ∧ exec (.homeLimitReached a flags) s = .next ended)) ∧
        (r.homing = .down → low = true → r.setup.settle ≠ 0 →
          (a = .zoom ∧ s.otb.state = .valid ∧ s.wideEnd ≠ 100 →
            exec (.axisStepComplete a flags) s =
              .next
                (State.excFound
                  ((counted.setAxis a
                    { r with pp := some 100, target := some s.wideEnd, state := .moving, homing := .none,
                             homingCount := r.homingCount + 1, after := .goOn, timer := none,
                             stepUp := decide (100 < s.wideEnd), stepTime := r.setup.interval }).setBody tag
                    (setHomePart a .toWide)))) ∧
          (¬ (a = .zoom ∧ s.otb.state = .valid ∧ s.wideEnd ≠ 100) →
            exec (.axisStepComplete a flags) s =
              .next
                (lensFound
                  ((counted.setAxis a { resting with pp := some (referencePosition a), target := none }).setBody tag
                    (setHomePart a .found))))))

/-- A step of an axis under a MOVE (R22, R28): the position changes by one, the step is reported to the open frame
record and counted, and the next step begins or the axis settles at its target; where the flag contradicts a position
four or more steps from the reference, the position is lost, ATTENTION LOST_STEP is raised, and the exposure unit
learns of it, and of the zoom the steadying too, whose angle and shift target fall to 0 (R53; log 50). The flag levels
stand in the state as last read (the model's choice, log 8); that a lost step makes the target absent is the model's
choice too (log 60). -/
def Obligations.MoveSteps : Prop :=
  ∀ (a : Axis) (tag p v : Nat) (flags : RefFlags) (s : State) (r : AxisRec), s.axis a = r →
    r.owner = some (.op .move tag) → r.state = .moving → r.homing = .none → r.after = .goOn → r.pp = some p →
    r.target = some v → r.setup.settle ≠ 0 → s.ldu.waitList = [] → s.fsu.scan = none →
    (∀ o, s.lensOp tag = some o → o.waitStopped = false) →
      let q := if r.stepUp then p + 1 else p - 1
      let read : State := { s with ldu := { s.ldu with flags := flags } }
      let counted := ((read.reportStep a).beginUnit tag).countUnit tag
      let resting := { r with state := .settling, timer := some r.setup.settle }
      let lost := (flagLevel flags a ≠ decide (referencePosition a < q)) ∧
        (referencePosition a + 4 ≤ q ∨ q + 4 ≤ referencePosition a)
      let still (x : SteadyAxis) : SteadyAxis := { x with theta := 0, target := 0, saturated := 0 }
      let centred (v : State) : State :=
        if v.stu.state = .active ∨ v.stu.state = .panning then
          { v with stu := { v.stu with yaw := still v.stu.yaw, pitch := still v.stu.pitch } }
        else v
      (¬ lost → q ≠ v →
        exec (.axisStepComplete a flags) s =
          .next
            (counted.setAxis a
              { r with pp := some q, timer := none, stepUp := decide (q < v), stepTime := r.setup.interval })) ∧
      (¬ lost → q = v → exec (.axisStepComplete a flags) s = .next (counted.setAxis a { resting with pp := some q })) ∧
      (lost →
        let w := (State.setAxis (read.reportStep a) a { resting with pp := none, target := none }).attention
          (axisSource a) .lostStep q
        exec (.axisStepComplete a flags) s =
          .next (match a with | .zoom => centred w.excLost | .focus => w | .iris => w.excLost))

/-- The settle time of an axis that nothing owns ends in HELD with the hold-release timer started, a hold time of 0
starting none; the hold-release time ends in RELEASED with the position kept; an axis in another state hears neither
(R21, R23; that such an event leaves everything as it is, is the model's choice, log 3). -/
def Obligations.AxisTimersEnd : Prop :=
  ∀ (a : Axis) (s : State) (r : AxisRec), s.axis a = r →
    (r.state = .settling → r.timer.isSome = true → r.owner = none → a ≠ .iris →
      exec (.settleTimeout a) s =
        .next
          (s.setAxis a
            { r with state := .held, homing := .none, after := .goOn,
                     timer := if r.setup.hold = 0 then none else some r.setup.hold })) ∧
    (r.state = .held → r.timer.isSome = true →
      exec (.holdReleaseTimeout a) s = .next (s.setAxis a { r with state := .released, timer := none })) ∧
    (r.state ≠ .settling → exec (.settleTimeout a) s = .next s) ∧
    (r.state ≠ .held → exec (.holdReleaseTimeout a) s = .next s)

/-- A lens operation whose last axis has settled ends (R6, R7, R9, R12, R26, R31, R32, R35, R36). A MOVE at its target
ends COMPLETE: its entry leaves the table, one ENDING joins the outbox with the units done, the axis is free, and the
end of a focus MOVE sets d by the back computation. A HOME, MOVE, ZOOM or PARK in general: TERMINATED by its failure,
SUPPRESSED when its stop found it WAITING, COMPLETE at its own end, otherwise PARTIAL with the recorded cause and its
resume operands; every axis it claimed is free. That another axis it claims, RELEASED after its hold time, counts as
HELD is log 28. A HOME stopped on the way to the wide end has not reached its own end
(log 16). -/
def Obligations.MoveEnds : Prop :=
  (∀ (a : Axis) (tag v : Nat) (clampFlag : Bool) (s : State) (r : AxisRec) (e : OpEntry), s.axis a = r → a ≠ .iris →
    r.owner = some (.op .move tag) → r.state = .settling → r.timer.isSome = true → r.pp = some v →
    s.lensOp tag = some { tag := tag, body := .move a v clampFlag, waitStopped := false } → s.entry tag = some e →
    s.csq.capture = none →
      let d := if a = .focus then s.backD else s.ldu.d
      let held := State.setAxis s a
        { r with owner := none, state := .held, homing := .none, after := .goOn,
                 timer := if r.setup.hold = 0 then none else some r.setup.hold }
      exec (.settleTimeout a) s =
        .next
          { held with
              ldu := { held.ldu with d := d, ops := s.ldu.ops.filter fun o => o.tag != tag },
              opt := { table := s.opt.table.filter (fun f => f.tag != tag),
                       outbox := s.opt.outbox ++
                         [.ending { tag := tag, kind := e.kind, cls := .complete, cause := .none, done := e.done,
                                    resume := .absent, result := none,
                                    fields := .move a (some v) clampFlag v d }] } }) ∧
  ∀ (a : Axis) (kind : OpKind) (s : State) (o : LensOp) (e : OpEntry),
    kind = .home ∨ kind = .move ∨ kind = .zoom ∨ kind = .park → (s.axis a).owner = some (.op kind o.tag) →
    (s.axis a).state = .settling → (s.axis a).timer.isSome = true → s.lensOp o.tag = some o →
    s.entry o.tag = some e → s.csq.capture = none → s.ldu.waitList = [] → s.ldu.pendingIris = none →
      let claimed (b : Axis) : Bool :=
        match o.body with
        | .home z f i =>
          (match b with
           | .zoom => z != .notNamed
           | .focus => f != .notNamed
           | .iris => i != .notNamed)
        | .move c _ _ => b == c
        | .zoom _ _ _ _ _ => b != .iris
        | .park _ => true
      (∀ b, claimed b = true → b ≠ a → (s.axis b).state = .held ∨ (s.axis b).state = .released) →
        let failure : Option Cause :=
          match o.body with
          | .home z f i => if z = .failed ∨ f = .failed ∨ i = .failed then some .noReference else none
          | .move c _ _ => if (s.axis c).pp = none then some .lostStep else none
          | .zoom _ _ _ _ lost => lost.map fun _ => .lostStep
          | .park lost => lost.map fun _ => .lostStep
        let arrived : Prop :=
          match o.body with
          | .home z f i =>
            (z = .notNamed ∨ z = .found) ∧ (f = .notNamed ∨ f = .found) ∧ (i = .notNamed ∨ i = .found)
          | .move c v _ => (s.axis c).pp = some v
          | .zoom _ v _ _ _ => s.ldu.zoom.pp = some v
          | .park _ => s.ldu.zoom.pp = some 0 ∧ s.ldu.focus.pp = some 0 ∧ s.ldu.iris.pp = some 0
        let stop : Cause := match e.cause with | some .preempted => .preempted | _ => .stopped
        let left (part : HomePart) (bit : Nat) : Nat :=
          if part = .notNamed ∨ part = .found ∨ part = .cutWide then 0 else bit
        let again : Resume :=
          match o.body with
          | .home z f i => .home (left z 1 + left f 2 + left i 4)
          | .move c v _ => .move c v
          | .zoom _ v _ _ _ => .zoom v
          | .park _ => .absent
        let ends (cls : EndClass) (cause : Cause) (resume : Resume) : Prop :=
          let d := match o.body with
            | .move .focus _ _ => if cls = .terminated then s.ldu.d else s.backD
            | _ => s.ldu.d
          let freed (b : Axis) : AxisRec :=
            let r := s.axis b
            let held : AxisRec :=
              { r with state := .held, homing := .none, after := .goOn,
                       timer := if r.setup.hold = 0 then none else some r.setup.hold }
            let rest : AxisRec := if b = a then held else r
            if claimed b then { rest with owner := none } else rest
          let home (b : Axis) (part : HomePart) : HomeField :=
            { named := part != .notNamed, pp := (s.axis b).pp, count := (s.axis b).homingCount }
          exec (.settleTimeout a) s =
            .next
              { s with
                  ldu := { s.ldu with zoom := freed .zoom, focus := freed .focus, iris := freed .iris, d := d,
                                      ops := s.ldu.ops.filter fun p => p.tag != o.tag },
                  opt := { table := s.opt.table.filter (fun f => f.tag != o.tag),
                           outbox := s.opt.outbox ++
                             [.ending
                               { tag := o.tag, kind := e.kind, cls := cls, cause := cause, done := e.done,
                                 resume := resume, result := none,
                                 fields := match o.body with
                                   | .home z f i => .home (home .zoom z) (home .focus f) (home .iris i)
                                   | .move c v clampFlag => .move c (s.axis c).pp clampFlag v d
                                   | .zoom _ v _ clampFlag lost =>
                                     .zoom s.ldu.zoom.pp s.ldu.focus.pp lost clampFlag v d
                                   | .park lost => .park s.ldu.zoom.pp s.ldu.focus.pp s.ldu.iris.pp lost }] } }
        (∀ cause, failure = some cause → ends .terminated cause .absent) ∧
        (failure = none → o.waitStopped = true → ends .suppressed stop .absent) ∧
        (failure = none → o.waitStopped = false → arrived → ends .complete .none .absent) ∧
        (failure = none → o.waitStopped = false → ¬ arrived → ends .partialEnd stop again)

/-- MOVE (R4, R21, R24, R25, R26, R32): its refusals in their order, the tracker's last: TAG_IN_USE, detail 0, for a
tag in the table, detail 1 for the tag of an ENDING not yet sent, and TABLE_FULL, its detail a free value (log 19),
where the entries and those ENDINGs number eight; accepted, the target is brought into the axis's range, the units
planned are the steps to it, and a RELEASED axis energizes toward it while a HELD one with a free slot begins its
first step at once, its entry RUNNING. That a refusal of the tracker moves the model's counter of free values is the
model's choice (log 19). -/
def Obligations.MoveBegins : Prop :=
  ∀ (tag axis target : Nat) (s t : State), s.reaches (.move tag axis target) tag t →
    (1 < axis → exec (.move tag axis target) s = .next (t.reply tag (.refused .field 0))) ∧
    ∀ a r, axisCode a = axis → a ≠ .iris → t.axis a = r →
      (r.owner ≠ none → exec (.move tag axis target) s = .next (t.reply tag (.refused .busy axis))) ∧
      (r.owner = none → r.pp = none →
        exec (.move tag axis target) s = .next (t.reply tag (.refused .unreferenced axis))) ∧
      ∀ p, r.owner = none → r.pp = some p →
        let v := min (axisRange a) target
        let planned := if p ≤ v then v - p else p - v
        let owned (w : State) : State :=
          { w with ldu := { w.ldu with
              ops := w.ldu.ops ++ [{ tag := tag, body := .move a v (v != target), waitStopped := false }] } }
        (let refused (code : Code) (detail : Nat) : Prop :=
          exec (.move tag axis target) s =
            .next (State.reply { t with freeCount := t.freeCount + 1 } tag (.refused code detail))
        let ending (n : Notice) : Option Nat := match n with | .ending e => some e.tag | _ => none
        let sent : Option Nat :=
          match (t.lif.tx.map (·.item) : Option TxItem) with
          | some (.notice (.ending e)) => some e.tag
          | _ => none
        let unsent : List Nat := t.opt.outbox.filterMap ending ++ sent.toList
        ((∃ e ∈ t.opt.table, e.tag = tag) → refused .tagInUse 0) ∧
        ((∀ e ∈ t.opt.table, e.tag ≠ tag) →
          (tag ∈ unsent → refused .tagInUse 1) ∧
          (tag ∉ unsent → 8 ≤ t.opt.table.length + unsent.length →
            refused .tableFull (Config.tableFullDetail t.freeCount % 65536)))) ∧
        (t.hasRoom tag → v ≠ p → t.ldu.waitList = [] →
          (r.state = .released → r.setup.energize ≠ 0 →
            exec (.move tag axis target) s =
              .next
                ((owned (t.accepted tag .move .waiting (some planned))).setAxis a
                  { r with owner := some (.op .move tag), target := some v, state := .energizing,
                           timer := some r.setup.energize })) ∧
          (r.state = .held → r.homing = .none → t.slotHolders.length < 2 →
            exec (.move tag axis target) s =
              .next
                ((owned (t.accepted tag .move .running (some planned))).setAxis a
                  { r with owner := some (.op .move tag), target := some v, state := .moving, timer := none,
                           after := .goOn, stepUp := decide (p < v), stepTime := r.setup.interval })))

/-- ZOOM (R33, R34, R49): its refusals in their order; accepted, the target is brought into the table's wide to tele
steps, zoom and focus are owned by it, and a RELEASED zoom energizes toward the target. Its follow points give focus
F(z, d), truncated toward zero: at the grant of the zoom's first slot, where a HELD focus elsewhere takes the second
slot (that the grant counts as a follow point with no step of zoom made, and begins the first unit, is log 43); and at
a completed step whose distance from the start is a multiple of the follow interval, or that reaches the target, where
a MOVING focus turns at its next step (past a RESTART too, log 74) and a HELD one begins; another step leaves focus as
it is. The flag levels stand in the state as last read (log 8). -/
def Obligations.ZoomBegins : Prop :=
  (∀ (s : State) (z d : Nat),
    let a := s.reading (·.fInf) z
    let b := s.reading (·.fNear) z
    (a ≤ b → 0 ≤ a → (s.focusFor z d : Int) = a + (b - a) * d / 1024) ∧
    (b ≤ a → 0 ≤ b → d ≤ 1024 → (s.focusFor z d : Int) = a - (a - b) * d / 1024)) ∧
  (∀ (tag start v follow z f : Nat) (clampFlag : Bool) (flags : RefFlags) (s : State) (r q : AxisRec),
    s.ldu.zoom = r → s.ldu.focus = q → r.owner = some (.op .zoom tag) → q.owner = some (.op .zoom tag) →
    s.lensOp tag = some { tag := tag, body := .zoom start v follow clampFlag none, waitStopped := false } →
    r.homing = .none → r.after = .goOn → r.pp = some z → r.target = some v → q.pp = some f → q.homing = .none →
    s.ldu.waitList = [] → s.fsu.scan = none →
      let read : State := { s with ldu := { s.ldu with flags := flags } }
      let interval := s.activeSlot.interval.getD r.setup.interval
      let follows (at_ : Nat) : AxisRec :=
        let goal := s.focusFor at_ s.ldu.d
        match q.state with
        | .moving => { q with target := some goal, after := .goOn }
        | _ =>
          if goal = f then { q with target := some goal }
          else { q with target := some goal, state := .moving, timer := none, after := .goOn,
                        stepUp := decide (f < goal), stepTime := q.setup.interval }
      (r.state = .energizing → r.timer.isSome = true → z ≠ v → q.state = .held → s.ldu.iris.stepping = false →
        exec (.energizeTimeout .zoom flags) s =
          .next
            ((((read.beginUnit tag).setAxis .zoom
              { r with state := .moving, timer := none, stepUp := decide (z < v), stepTime := interval })).setAxis
              .focus (follows z))) ∧
      (r.state = .moving → r.setup.settle ≠ 0 → q.state = .moving ∨ (q.state = .held ∧ s.ldu.iris.stepping = false) →
        let p := if r.stepUp then z + 1 else z - 1
        ¬ (flags.zoom ≠ decide (100 < p) ∧ (104 ≤ p ∨ p + 4 ≤ 100)) →
          let distance := if start ≤ p then p - start else start - p
          let counted := ((read.reportStep .zoom).beginUnit tag).countUnit tag
          let stepped :=
            counted.setAxis .zoom
              (if p = v then { r with pp := some p, state := .settling, timer := some r.setup.settle }
               else { r with pp := some p, timer := none, stepUp := decide (p < v), stepTime := interval })
          (p = v ∨ distance % follow = 0 →
            exec (.axisStepComplete .zoom flags) s = .next (stepped.setAxis .focus (follows p))) ∧
          (p ≠ v → distance % follow ≠ 0 → exec (.axisStepComplete .zoom flags) s = .next stepped))) ∧
  ∀ (tag target : Nat) (s t : State), s.reaches (.zoom tag target) tag t →
    (t.otb.state = .empty → exec (.zoom tag target) s = .next (t.reply tag (.refused .noTable 0))) ∧
    (t.otb.state = .staged → exec (.zoom tag target) s = .next (t.reply tag (.refused .noTable 1))) ∧
    (t.otb.state = .valid →
      (t.ldu.zoom.owner ≠ none → exec (.zoom tag target) s = .next (t.reply tag (.refused .busy 0))) ∧
      (t.ldu.zoom.owner = none → t.ldu.focus.owner ≠ none →
        exec (.zoom tag target) s = .next (t.reply tag (.refused .busy 1))) ∧
      (t.ldu.zoom.owner = none → t.ldu.focus.owner = none →
        (t.ldu.zoom.pp = none → exec (.zoom tag target) s = .next (t.reply tag (.refused .unreferenced 0))) ∧
        (t.ldu.zoom.pp ≠ none → t.ldu.focus.pp = none →
          exec (.zoom tag target) s = .next (t.reply tag (.refused .unreferenced 1))) ∧
        ∀ z, t.ldu.zoom.pp = some z → t.ldu.focus.pp ≠ none → t.hasRoom tag →
          let v := max t.wideEnd (min t.teleEnd target)
          v ≠ z → t.ldu.waitList = [] → t.ldu.zoom.state = .released → t.ldu.zoom.setup.energize ≠ 0 →
            let w := t.accepted tag .zoom .waiting (some (if z ≤ v then v - z else z - v))
            exec (.zoom tag target) s =
              .next
                { w with ldu := { w.ldu with
                    ops := w.ldu.ops ++
                      [{ tag := tag, body := .zoom z v w.otb.glob.follow (v != target) none, waitStopped := false }],
                    zoom := { w.ldu.zoom with
                      owner := some (.op .zoom tag), target := some v, state := .energizing,
                      timer := some w.ldu.zoom.setup.energize },
                    focus := { w.ldu.focus with owner := some (.op .zoom tag) } } }))

/-- PARK (R36): refused while an axis is owned, CSQ is not IDLE or an axis is UNREFERENCED; accepted, it owns the three
axes, discards the pending iris target, and sends every axis to 0, a RELEASED one energizing unless it stands there. -/
def Obligations.ParkBegins : Prop :=
  ∀ (tag : Nat) (s t : State), s.reaches (.park tag) tag t →
    (∀ a, (t.axis a).owner ≠ none → (∀ b, axisCode b < axisCode a → (t.axis b).owner = none) →
      exec (.park tag) s = .next (t.reply tag (.refused .busy (axisCode a)))) ∧
    ((∀ a, (t.axis a).owner = none) →
      (t.csq.state ≠ .idle → exec (.park tag) s = .next (t.reply tag (.refused .busy 0))) ∧
      (∀ a, t.csq.state = .idle → (t.axis a).pp = none → (∀ b, axisCode b < axisCode a → (t.axis b).pp ≠ none) →
        exec (.park tag) s = .next (t.reply tag (.refused .unreferenced (axisCode a)))) ∧
      ∀ z f i, t.csq.state = .idle → t.ldu.zoom.pp = some z → t.ldu.focus.pp = some f → t.ldu.iris.pp = some i →
        t.hasRoom tag → z + f + i ≠ 0 → t.ldu.waitList = [] →
        (∀ a, (t.axis a).state = .released ∧ (t.axis a).setup.energize ≠ 0) →
          let sent (r : AxisRec) : AxisRec :=
            if r.pp = some 0 then { r with owner := some (.op .park tag), target := some 0 }
            else { r with owner := some (.op .park tag), target := some 0, state := .energizing,
                          timer := some r.setup.energize }
          let w := t.accepted tag .park .waiting (some (z + f + i))
          exec (.park tag) s =
            .next
              { w with ldu := { w.ldu with
                  ops := w.ldu.ops ++ [{ tag := tag, body := .park none, waitStopped := false }],
                  zoom := sent w.ldu.zoom, focus := sent w.ldu.focus, iris := sent w.ldu.iris,
                  pendingIris := none, irisWriter := none } })

/-! ## Optics table -/

/-- TABLE-LOAD (R39 to R42, R45, R68, R203): its refusals in their order, the selector, the first field outside its
range by its number, and the first of the five busy conditions; accepted, the part is written, the table is STAGED,
the reply carries the selector and the table state, and where the table was VALID lens geometry is gone in that event:
the exposure unit learns of it, and steadying, where it is ACTIVE or PANNING, has its angle and shift target at 0
(R53). That a Tv_max mechanical above the electronic one counts as field 3, in the order of the fields, is log 40;
that PANNING is centred like ACTIVE, and the saturation counts with it, is log 50. -/
def Obligations.TableLoadTaken : Prop :=
  ∀ (tag selector : Nat) (s t : State) (fields : TableFields), s.reaches (.tableLoad tag selector fields) tag t →
    let refused (code : Code) (detail : Nat) : Prop :=
      exec (.tableLoad tag selector fields) s = .next (t.reply tag (.refused code detail))
    let still (x : SteadyAxis) : SteadyAxis := { x with theta := 0, target := 0, saturated := 0 }
    let centred (v : State) : State :=
      if v.stu.state = .active ∨ v.stu.state = .panning then
        { v with stu := { v.stu with yaw := still v.stu.yaw, pitch := still v.stu.pitch } }
      else v
    let taken (o : Otb) : Prop :=
      let v : State := { t with otb := o }
      exec (.tableLoad tag selector fields) s =
        .next ((if t.otb.state = .valid then centred v.excLost else v).reply tag (.done [byteOf selector, 1#8]))
    let moves (r : AxisRec) : Prop :=
      r.state = .energizing ∨ r.state = .awaitingSlot ∨ r.state = .moving ∨ r.state = .homing ∨ r.state = .settling
    let busy (d : Nat) : Prop :=
      (d = 0 ∧ moves t.ldu.zoom) ∨ (d = 1 ∧ moves t.ldu.focus) ∨ (d = 2 ∧ moves t.ldu.iris) ∨
      (d = 3 ∧ t.csq.state ≠ .idle) ∨
      (d = 4 ∧ ∃ e ∈ t.opt.table,
        e.kind = .zoom ∨ e.kind = .scan ∨ e.kind = .switch ∨ e.kind = .enter ∨ e.kind = .leave)
    let nodeBad (f : NodeFields) (k : Nat) : Prop :=
      (k = 1 ∧ 2600 < f.zoomStep) ∨ (k = 2 ∧ (f.focal < 1 ∨ 65535 < f.focal)) ∨
      (k = 3 ∧ (f.equiv < 1 ∨ 9999 < f.equiv)) ∨ (k = 4 ∧ (f.avOpen < 32 ∨ 255 < f.avOpen)) ∨
      (k = 5 ∧ 1600 < f.fInf) ∨ (k = 6 ∧ 1600 < f.fNear) ∨ (k = 7 ∧ 16777215 < f.gain)
    let globalBad (f : GlobalFields) (k : Nat) : Prop :=
      (k = 1 ∧ (f.avCap < 32 ∨ 255 < f.avCap)) ∨ (k = 2 ∧ (f.tvMaxElectronic < 160 ∨ 383 < f.tvMaxElectronic)) ∨
      (k = 3 ∧ (f.tvMaxMechanical < 160 ∨ 383 < f.tvMaxMechanical ∨ f.tvMaxElectronic < f.tvMaxMechanical)) ∨
      (k = 4 ∧ (f.stroke < 500 ∨ 4000 < f.stroke)) ∨ (k = 5 ∧ (f.follow < 4 ∨ 64 < f.follow))
    let judged (bad : Nat → Prop) (o : Otb) : Prop :=
      (∀ k, bad k → (∀ j, j < k → ¬ bad j) → refused .field k) ∧
      ((∀ k, ¬ bad k) →
        (∀ d, busy d → (∀ j, j < d → ¬ busy j) → refused .busy d) ∧ ((∀ d, ¬ busy d) → taken o))
    (16 < selector → refused .field 0) ∧
    (∀ f, fields = .node f → selector = 16 → refused .length 17) ∧
    (∀ f, fields = .global f → selector < 16 → refused .length 11) ∧
    (∀ f, fields = .node f → selector < 16 →
      judged (nodeBad f)
        { t.otb with state := .staged, nodes := t.otb.nodes.set selector { written := true, fields := f } }) ∧
    ∀ f, fields = .global f → selector = 16 → judged (globalBad f) { t.otb with state := .staged, glob := f }

/-- TABLE-COMMIT (R43, R44, R45, R68, R72): the first of the four checks that fails is refused FIELD, the detail 16
times the check's number plus the first node that fails it; a VALID table stays as it is; another becomes VALID, the
live knee and floor are brought into range, and the exposure unit learns of the lens. The checks pass exactly when all
nodes are written, zoom steps rise, focal lengths do not fall, and no open aperture lies above the cap. -/
def Obligations.TableCommitTaken : Prop :=
  (∀ s : State, s.commitFault = none ↔
    (∀ n ∈ s.otb.nodes, n.written = true ∧ n.fields.avOpen ≤ s.otb.glob.avCap) ∧
    ∀ (i : Nat) (a b : Node), s.otb.nodes[i]? = some a → s.otb.nodes[i + 1]? = some b →
      a.fields.zoomStep < b.fields.zoomStep ∧ a.fields.focal ≤ b.fields.focal ∧ a.fields.equiv ≤ b.fields.equiv) ∧
  ∀ (tag : Nat) (s t : State), s.reaches (.tableCommit tag) tag t →
    let ends := ReplyBody.done (put2 t.wideEnd ++ put2 t.teleEnd)
    let nodes := t.otb.nodes
    let later (bad : NodeFields → NodeFields → Prop) (i : Nat) : Prop :=
      ∃ j a b, i = j + 1 ∧ nodes[j]? = some a ∧ nodes[i]? = some b ∧ bad a.fields b.fields
    let fails (check i : Nat) : Prop :=
      (check = 1 ∧ ∃ n, nodes[i]? = some n ∧ n.written = false) ∨
      (check = 2 ∧ later (fun a b => b.zoomStep ≤ a.zoomStep) i) ∨
      (check = 3 ∧ later (fun a b => b.focal < a.focal ∨ b.equiv < a.equiv) i) ∨
      (check = 4 ∧ ∃ n, nodes[i]? = some n ∧ t.otb.glob.avCap < n.fields.avOpen)
    (∀ check i, fails check i → (∀ k j, k < check → ¬ fails k j) → (∀ j, j < i → ¬ fails check j) →
      exec (.tableCommit tag) s = .next (t.reply tag (.refused .field (16 * check + i)))) ∧
    (∀ a, nodes.head? = some a → t.wideEnd = a.fields.zoomStep) ∧
    (∀ a, nodes.getLast? = some a → t.teleEnd = a.fields.zoomStep) ∧
    (t.commitFault = none → t.otb.state = .valid → exec (.tableCommit tag) s = .next (t.reply tag ends)) ∧
    (t.commitFault = none → t.otb.state ≠ .valid →
      let knee := max 160 (min t.otb.glob.tvMaxElectronic t.exc.live.knee)
      let v : State :=
        { t with otb := { t.otb with state := .valid },
                 exc := { t.exc with live := { t.exc.live with
                   knee := knee, tvFloor := min t.exc.live.tvFloor knee } } }
      exec (.tableCommit tag) s = .next (v.excFound.reply tag ends))

/-! ## Exposure and frames -/

/-- The part's logarithm (R2): an argument 0 is taken as 1, and with m the index of the highest set bit of x, LG(x) =
32·m + floor(32·(x − 2^m)/2^m); and the five values of the rule's table. -/
def Obligations.LogarithmValue : Prop :=
  lg 0 = lg 1 ∧
  (∀ x m : Nat, 1 ≤ x → 2 ^ m ≤ x → x < 2 ^ (m + 1) → lg x = 32 * m + 32 * (x - 2 ^ m) / 2 ^ m) ∧
  lg 1 = 0 ∧ lg 25 = 146 ∧ lg 470 = 282 ∧ lg 750 = 302 ∧ lg 1180 = 324

/-- The program split of an X (R78, R81 to R83). Above the knee in force the aperture closes by the excess, up to its
limit, and no gain is added; otherwise, below the effective hand-hold limit, gain is added, rounded to a multiple of 4
by the rounding mode, and the aperture stays open. Tv takes up the rest, is brought between the floor in force and the
upper limit, and the difference is the clamp reported: the split's X is Av + Tv − Gv, it differs from the X asked
for by exactly the clamp amount, and Av and Gv lie within their limits. -/
def Obligations.SplitAccounts : Prop :=
  ∀ (s : State) (tvHi : Nat) (x : Int), s.avLow ≤ s.avHigh →
    let sp := s.split tvHi x
    let m := s.exc.live
    let floor : Int := min m.tvFloor tvHi
    let knee : Int := min m.knee tvHi
    let relief : Int := if s.stu.state = .active ∧ s.recentlyUnsteady = false then 96 else 0
    let hand : Int := max 0 (lg (s.reading (·.equiv) s.zoomStep).toNat - relief)
    let limit : Int := max floor (min hand knee)
    let free := x - s.avLow
    s.avLow = s.reading (·.avOpen) s.zoomStep ∧ s.avHigh = min (s.avLow + 96) s.otb.glob.avCap ∧
    (knee < free → sp.av = min s.avHigh (s.avLow + (free - knee)) ∧ sp.gv = 0) ∧
    (free ≤ knee → sp.av = s.avLow) ∧ (free ≤ knee → limit ≤ free → sp.gv = 0) ∧
    (free ≤ knee → free < limit →
      let raw : Int := min m.gvMax (limit - free)
      ∃ g : Int, g % 4 = 0 ∧ sp.gv = max 0 (min (m.gvMax : Int) g) ∧ (g - raw).natAbs < 4 ∧
        (match m.rounding with
         | .nearest => (g - raw).natAbs ≤ 2 ∧ ((g - raw).natAbs = 2 → g % 8 = 0)
         | .towardZero => g ≤ raw
         | .towardDarker => g ≤ raw
         | .towardBrighter => raw ≤ g)) ∧
    sp.x = sp.av + sp.tv - sp.gv ∧ sp.tv = max floor (min tvHi (x - sp.av + sp.gv)) ∧
    (match sp.clamp with
     | .none => sp.x = x
     | .over n => 0 < n ∧ sp.x = x - n ∧ sp.tv = tvHi
     | .under n => 0 < n ∧ sp.x = x + n ∧ sp.tv = min (s.exc.live.tvFloor : Int) tvHi) ∧
    min (s.exc.live.tvFloor : Int) tvHi ≤ sp.tv ∧ sp.tv ≤ tvHi ∧ s.avLow ≤ sp.av ∧ sp.av ≤ s.avHigh ∧
    0 ≤ sp.gv ∧ sp.gv ≤ s.exc.live.gvMax

/-- The convergence step (R78, R79): 0 for a difference of 2 or less, within ±64 always, ±64 where ΔX·k/8 lies
outside, and otherwise ΔX·k/8 rounded by the mode in force: toward zero, toward brighter (down), toward darker (up),
or to the nearest, a tie to the even integer. -/
def Obligations.ConvergenceStep : Prop :=
  ∀ (m : MeterSettings) (delta : Int),
    let step := convergenceStep m delta
    let exact := delta * m.convergence
    (delta.natAbs ≤ 2 → step = 0) ∧ -64 ≤ step ∧ step ≤ 64 ∧
    (2 < delta.natAbs → 512 < exact → step = 64) ∧ (2 < delta.natAbs → exact < -512 → step = -64) ∧
    (2 < delta.natAbs → exact.natAbs ≤ 512 →
      (8 * step - exact).natAbs < 8 ∧
      (match m.rounding with
       | .nearest => (8 * step - exact).natAbs ≤ 4 ∧ ((8 * step - exact).natAbs = 4 → step % 2 = 0)
       | .towardZero => (8 * step).natAbs ≤ exact.natAbs
       | .towardBrighter => 8 * step ≤ exact
       | .towardDarker => exact ≤ 8 * step))

/-- A frame start advances the frame counter, opens a record of that number, and keeps at most eight records, whatever
the other blocks make of it (R54, R56); the link, the table, the picture memory and the card's space stay. With no
offer held, no scan and no interval to count, EXC forms a setting of X_current in RUNNING, of X_locked in LOCKED, and
of the start value in NO_RESULT, at the aperture the iris holds (R85). A setting that differs from the newest of the
ring is issued under the next serial; an equal one is not, and then only a changed clamp state is sent (R86, R87); an
EXPOSURE that waits is overwritten in its place (R15, R88). Outside LOCKED the iris target of the split is written as
EXC's (R84): an iris with an owner keeps it pending, one that stands at it stays, and another sets out for it or turns
(R21, R25, R27; past a RESTART too, log 74). In the other two states nothing is formed, written or issued. That the
clamp amounts are compared before their cut to 255 is log 58. -/
def Obligations.FrameStartAdvances : Prop :=
  (∀ s : State, ∃ u, exec .frameStart s = .next u ∧
    u.fmn.counter = (s.fmn.counter + 1) % 65536 ∧
    u.fmn.ring.length = min 8 (s.fmn.ring.length + 1) ∧
    (u.fmn.ring.getLast?).map (·.number) = some ((s.fmn.counter + 1) % 65536) ∧
    u.lif = s.lif ∧ u.otb = s.otb ∧ u.pbf.memory = s.pbf.memory ∧ u.csu.pool = s.csu.pool ∧
    u.pcs.programs = s.pcs.programs ∧ u.stu.offset = s.stu.offset) ∧
  ∀ s : State, (∀ r, s.fmn.ring.getLast? = some r → r.offerHeld = false) → s.fsu.scan = none →
    s.csq.state ≠ .interval →
      let n := (s.fmn.counter + 1) % 65536
      let ring := s.fmn.ring ++ [s.newRecord n]
      let w : State := { s with fmn := { s.fmn with counter := n, ring := ring.drop (ring.length - 8) } }
      (s.excState = .suspended ∨ s.excState = .waitLens → exec .frameStart s = .next w) ∧
      ∀ x : Int,
        let tvHi := s.otb.glob.tvMaxElectronic
        let sp := w.split tvHi x
        let av := s.avLow + (s.ldu.iris.pp.getD 0 : Nat)
        let tv := max (s.exc.live.tvFloor : Int) (min tvHi (x - av + sp.gv))
        let e : ExpEntry := { serial := s.exc.nextSerial, x := av + tv - sp.gv, av := av, tv := tv, gv := sp.gv }
        let sends (e : ExpEntry) (exc : Exc) (ldu : Ldu) : State :=
          let notice := Notice.exposure e.serial e.tv e.av e.gv (exposureTime e.tv.toNat) s.exc.clamp
          { w with
              ldu := ldu, exc := { exc with sent := s.exc.clamp },
              opt := { s.opt with
                outbox :=
                  if s.opt.outbox.any isExposure then s.opt.outbox.map fun m => if isExposure m then notice else m
                  else s.opt.outbox ++ [notice] } }
        let leads (ldu : Ldu) : Prop :=
          let fresh : Exc :=
            { s.exc with ring := (s.exc.ring ++ [e]).drop (s.exc.ring.length + 1 - 8),
                         nextSerial := if 65535 ≤ s.exc.nextSerial then 1 else s.exc.nextSerial + 1 }
          (s.exc.ring = [] → exec .frameStart s = .next (sends e fresh ldu)) ∧
          ∀ newest, s.exc.ring.getLast? = some newest →
            let same := newest.av = av ∧ newest.tv = tv ∧ newest.gv = sp.gv
            (¬ same → exec .frameStart s = .next (sends e fresh ldu)) ∧
            (same → s.exc.clamp ≠ s.exc.sent → exec .frameStart s = .next (sends newest s.exc ldu)) ∧
            (same → s.exc.clamp = s.exc.sent → exec .frameStart s = .next { w with ldu := ldu })
        (s.excState = .locked → s.exc.lock = .held x → leads s.ldu) ∧
        ((s.excState = .running ∧ s.exc.x = some x) ∨
            (s.excState = .noResult ∧
              x = max (s.avLow + s.exc.live.tvFloor - s.exc.live.gvMax)
                (min (min (s.avLow + 96) s.otb.glob.avCap + tvHi) (s.avLow + 192))) →
          let v := (sp.av - s.avLow).toNat
          let r := s.ldu.iris
          let quiet := s.ldu.waitList = [] ∨ 2 ≤ s.slotHolders.length
          let pending : Option IrisTarget := some { value := v, writer := .exc }
          (∀ o, r.owner = some o → quiet → leads { s.ldu with pendingIris := pending }) ∧
          ∀ p, r.owner = none → r.pp = some p → r.homing = .none →
            let under (r : AxisRec) (list : List Axis) : Ldu :=
              { s.ldu with iris := { r with target := some v }, waitList := list, pendingIris := pending,
                           irisWriter := some .exc }
            (v = p → r.state = .held ∨ r.state = .released → quiet →
              leads { s.ldu with iris := { r with target := some v }, pendingIris := none, irisWriter := some .exc }) ∧
            (r.state = .moving → quiet → leads (under { r with after := .goOn } s.ldu.waitList)) ∧
            (r.state = .energizing ∨ (r.state = .settling ∧ v = p) → quiet → leads (under r s.ldu.waitList)) ∧
            (r.state = .awaitingSlot → 2 ≤ s.slotHolders.length →
              (v ≠ p → leads (under r s.ldu.waitList)) ∧
              (v = p →
                leads
                  { s.ldu with
                      iris := { r with target := some v, state := .held, after := .goOn,
                                       timer := if r.setup.hold = 0 then none else some r.setup.hold },
                      waitList := s.ldu.waitList.filter fun a => a != .iris, pendingIris := none,
                      irisWriter := some .exc })) ∧
            (r.state = .released → v ≠ p → r.setup.energize ≠ 0 → quiet →
              leads (under { r with state := .energizing, timer := some r.setup.energize } s.ldu.waitList)) ∧
            (r.state = .held ∨ r.state = .settling → v ≠ p →
              (2 ≤ s.slotHolders.length →
                leads (under { r with state := .awaitingSlot, timer := none } (s.ldu.waitList ++ [.iris]))) ∧
              (s.slotHolders.length < 2 → s.ldu.waitList = [] →
                leads
                  (under
                    { r with state := .moving, timer := none, after := .goOn, stepUp := decide (p < v),
                             stepTime := r.setup.interval } []))))

/-- A STATS feed (R60 to R63, R73, R75 to R77, R79, R80): one for no record of the ring, or for a record that has
statistics, is dropped and counted; one for the open record is filed with its offer held; one for a closed record is
filed and offered. EXP_CHANGED is set unless the ring of settings holds the serial and the nearest older record with
statistics carries the same. With no scan, the offer is metered where the serial stands in the ring of settings and the
weights do not sum to 0: the target is the X of the setting plus the error less the compensation; RUNNING takes a
convergence step, NO_RESULT the target itself, a pending lock becoming held, each brought into the live bounds, and
LOCKED keeps its X. -/
def Obligations.StatsFiled : Prop :=
  ∀ (f : StatsFeed) (s t : State), s.takeHanded (.stats f) = some t →
    let found := t.fmn.ring.find? fun r => r.number == f.frame
    ((found = none ∨ ∃ r, found = some r ∧ r.stats = true) →
      exec (.stats f) s = .next { t with fmn := { t.fmn with stale := min 255 (t.fmn.stale + 1) } }) ∧
    ∀ r, found = some r → r.stats = false →
      let isOpen := t.fmn.ring.getLast?.map (·.number) == some r.number
      let serial := if f.serial = 0 then none else some f.serial
      let older := ((t.fmn.ring.takeWhile fun q => q.number != f.frame).filter (·.stats)).getLast?
      let changed : Bool :=
        match serial with
        | none => true
        | some n =>
          !(t.exc.ring.any fun e => e.serial == n) ||
            (match older with
             | none => true
             | some q => q.serial != some n)
      let filed :=
        { r with stats := true, serial := serial, hostMark := f.hostMark != 0, zones := f.zones.map (min 4095),
                 contrasts := f.contrasts, expChanged := changed, offerHeld := isOpen }
      let kept : State :=
        { t with fmn := { t.fmn with
            ring := updateFirst (fun x => x.number == f.frame) (fun _ => filed) t.fmn.ring } }
      (isOpen = true ∨ (t.excState.meters = false ∧ t.fsu.scan = none) → exec (.stats f) s = .next kept) ∧
      (isOpen = false → t.fsu.scan = none → t.csq.state ≠ .preparing →
        let live := t.exc.live
        let quad (window : Nat) : List Nat :=
          match window with
          | 0 => [19, 20, 27, 28]
          | 1 => [17, 18, 25, 26]
          | 2 => [21, 22, 29, 30]
          | 3 => [3, 4, 11, 12]
          | _ => [35, 36, 43, 44]
        let weight (z : Nat) : Nat :=
          match live.mode with
          | .matrix => live.weights.getD z 0
          | .center =>
            if z ∈ quad 0 then 4
            else if z ∈ [10, 11, 12, 13, 18, 21, 26, 29, 34, 35, 36, 37] then 2
            else 1
          | .spot => if z ∈ quad 0 then 1 else 0
          | .focusLinked => if z ∈ quad t.exc.window then 4 * live.weights.getD z 0 else live.weights.getD z 0
        let zone (z : Nat) : Nat := filed.zones.getD z 0
        let total := ((List.range 48).map weight).sum
        let entry := serial.bind fun n => t.exc.ring.find? fun e => e.serial == n
        (entry = none ∨ total = 0 → exec (.stats f) s = .next kept) ∧
        ∀ e, entry = some e → total ≠ 0 →
          let mean := ((List.range 48).map fun z => weight z * zone z).sum / total
          let clipped := ((List.range 48).filter fun z => zone z = 4095 ∧ 0 < weight z).length
          let error : Int :=
            (lg mean : Int) - lg live.target +
              (if live.highlight < clipped then min 64 (8 * (clipped - live.highlight)) else 0 : Nat)
          let target := e.x + error - live.compensation
          let avLo := t.reading (·.avOpen) t.zoomStep
          let lower : Int := avLo + live.tvFloor - live.gvMax
          let upper : Int := min (avLo + 96) t.otb.glob.avCap + t.otb.glob.tvMaxElectronic
          let met (x : Int) (lock : Int → Lock) : State :=
            let held := if upper < x then upper else if x < lower then lower else x
            let clamp : Clamp :=
              if upper < x then .over (x - upper).toNat
              else if x < lower then .under (lower - x).toNat
              else .none
            { kept with exc := { t.exc with
                latest := some target, x := some held, clamp := clamp, lock := lock held } }
          (∀ x, t.excState = .running → t.exc.x = some x →
            exec (.stats f) s = .next (met (x + convergenceStep live (target - x)) fun _ => t.exc.lock)) ∧
          (t.excState = .noResult →
            exec (.stats f) s =
              .next (met target fun held => if t.exc.lock = .pending then .held held else t.exc.lock)) ∧
          (t.excState = .locked →
            exec (.stats f) s = .next { kept with exc := { t.exc with latest := some target } }))

/-- METER-SET and AF-SET take every value brought into its range and answer the settings taken; a code outside its list
is refused FIELD with its field number (R70, R71, R92, R93). That the first bad field is the one named where several
are bad is the model's choice (log 62). -/
def Obligations.MeterAndAfSet : Prop :=
  (∀ (tag : Nat) (m : MeterOperands) (s t : State), s.reaches (.meterSet tag m) tag t →
    (3 < m.mode → exec (.meterSet tag m) s = .next (t.reply tag (.refused .field 1))) ∧
    (m.mode ≤ 3 → 3 < m.rounding → exec (.meterSet tag m) s = .next (t.reply tag (.refused .field 7))) ∧
    ∀ mode rounding, meterModeCode mode = m.mode → roundingCode rounding = m.rounding →
      let knee := max 160 (min t.otb.glob.tvMaxElectronic m.knee)
      let v : MeterSettings :=
        { mode := mode, weights := m.weights.map (min 15), target := max 64 (min 2048 m.target),
          highlight := min 48 m.highlight, compensation := max (-96) (min 96 m.compensation),
          convergence := max 1 (min 8 m.convergence), rounding := rounding, gvMax := min 192 m.gvMax / 4 * 4,
          knee := knee, tvFloor := min m.tvFloor knee }
      exec (.meterSet tag m) s =
        .next (State.reply { t with exc := { t.exc with live := v } } tag (.done (putMeter (meterOperands v))))) ∧
  ∀ (tag : Nat) (a : AfOperands) (s t : State), s.reaches (.afSet tag a) tag t →
    (1 < a.condition → exec (.afSet tag a) s = .next (t.reply tag (.refused .field 3))) ∧
    (a.condition ≤ 1 → 1 < a.span → exec (.afSet tag a) s = .next (t.reply tag (.refused .field 8))) ∧
    (a.condition ≤ 1 → a.span ≤ 1 → 1 < a.hold → exec (.afSet tag a) s = .next (t.reply tag (.refused .field 9))) ∧
    ∀ condition span hold, focusConditionCode condition = a.condition → spanCode span = a.span →
      holdModeCode hold = a.hold →
        let v : AfSettings :=
          { mask := if a.mask % 32 = 0 then 1 else a.mask % 32, step := max 1 (min 64 a.step),
            condition := condition, fall := max 1 (min 8 a.fall), threshold := min 83886075 a.threshold,
            minimum := min 83886075 a.minimum, skip := a.skip != 0, span := span, hold := hold }
        exec (.afSet tag a) s =
          .next (State.reply { t with fsu := { t.fsu with live := v } } tag (.done (putAf (afOperands v))))

/-! ## Focus search -/

/-- The figure V of a record (R94): the sum of its contrast values over the windows of the mask, the value of each of
those windows beside it, in 0..83,886,075 for contrast values of three bytes. -/
def Obligations.FigureOfRecord : Prop :=
  ∀ (mask : Nat) (contrasts : List Nat),
    windowValues mask contrasts =
      ([0, 1, 2, 3, 4].filter fun w => mask.testBit w).map (fun w => (w, contrasts.getD w 0)) ∧
    figure (windowValues mask contrasts) =
      ([0, 1, 2, 3, 4].map fun w => if mask.testBit w then contrasts.getD w 0 else 0).sum ∧
    ((∀ v ∈ contrasts, v < 16777216) → figure (windowValues mask contrasts) ≤ 83886075)

/-- What a scan's plan fixes (R97): a given start and end are each brought into 0..1600; FULL gives F_inf and F_near
at the zoom position, NEAR gives focus − 64 and focus + 64 brought into 0..1600. The planned count is abs(end −
start)/STP + 1; above 256 it is 256, the end is pulled in to 255 steps from the start, and the count flag is set. No
position lies beyond the end. -/
def Obligations.ScanPlanBounded : Prop :=
  ∀ (s : State) (settings : AfSettings) (start stop : Option Nat), 1 ≤ settings.step →
    let p := s.planScan settings start stop
    let step := settings.step
    let fixed (a b : Nat) : Prop :=
      let count := (if a ≤ b then b - a else a - b) / step + 1
      p.start = a ∧ p.up = decide (a ≤ b) ∧ p.planned = min 256 count ∧ p.countFlag = decide (256 < count) ∧
      p.stop = if 256 < count then (if a ≤ b then a + 255 * step else a - 255 * step) else b
    p.settings = settings ∧
    (∀ a b, start = some a → stop = some b →
      fixed (min 1600 a) (min 1600 b) ∧ p.clampFlag = (decide (1600 < a) || decide (1600 < b))) ∧
    (start = none → stop = none → p.clampFlag = false ∧
      (settings.span = .full →
        fixed (s.reading (·.fInf) s.zoomStep).toNat (s.reading (·.fNear) s.zoomStep).toNat) ∧
      (settings.span = .near → ∀ pp, s.ldu.focus.pp = some pp → fixed (pp - 64) (min 1600 (pp + 64)))) ∧
    1 ≤ p.planned ∧ p.planned ≤ 256 ∧
    (∀ i < p.planned,
      (p.up = true → p.start ≤ p.start + i * step ∧ p.start + i * step ≤ p.stop) ∧
      (p.up = false → p.stop ≤ p.start - i * step ∧ i * step ≤ p.start))

/-- SCAN (R96 to R98): its refusals in their order; accepted, focus is owned by it and given the start: a RELEASED
focus elsewhere energizes, the entry WAITING; one that stands at the start begins the first unit and waits for a frame,
the entry RUNNING. That before the first arrival there is no settle mark and the wait count is 0 is log 51. -/
def Obligations.ScanBegins : Prop :=
  ∀ (tag : Nat) (o : ScanOperands) (s t : State), s.reaches (.scan tag o) tag t →
    let refused (code : Code) (detail : Nat) : Prop :=
      exec (.scan tag o) s = .next (t.reply tag (.refused code detail))
    (t.otb.state = .empty → refused .noTable 0) ∧ (t.otb.state = .staged → refused .noTable 1) ∧
    (t.otb.state = .valid → o.start.isSome ≠ o.stop.isSome → refused .field 0) ∧
    (t.otb.state = .valid → o.start.isSome = o.stop.isSome →
      ((∃ code, o.condition = some code ∧ 1 < code) → refused .field 3) ∧
      ((∀ code, o.condition = some code → code ≤ 1) →
        (t.activeKind = .review → refused .contextKind 2) ∧
        (t.activeKind ≠ .review →
          (t.ldu.zoom.pp = none → refused .unreferenced 0) ∧
          (t.ldu.zoom.pp ≠ none → t.ldu.focus.pp = none → refused .unreferenced 1) ∧
          (t.ldu.zoom.pp ≠ none → t.ldu.focus.pp ≠ none → t.ldu.focus.owner ≠ none → refused .busy 1) ∧
          ∀ p, t.ldu.zoom.pp ≠ none → t.ldu.focus.pp = some p → t.ldu.focus.owner = none → t.hasRoom tag →
            let plan := t.planScan (overrideAf t.fsu.live o) o.start o.stop
            let begun (b : Bool) (phase : ScanPhase) (mark : Option Nat) : Scan :=
              { user := .scan tag o, plan := plan, index := 0, p := plan.start, begun := b, phase := phase,
                mark := mark, waitCount := 0, best := none, rise := 0, stop := none, goal := none }
            t.ldu.waitList = [] → t.ldu.focus.state = .released →
              (p ≠ plan.start → t.ldu.focus.setup.energize ≠ 0 →
                let w := t.accepted tag .scan .waiting (some plan.planned)
                exec (.scan tag o) s =
                  .next
                    { w with
                        ldu := { w.ldu with focus := { w.ldu.focus with
                          owner := some (.op .scan tag), target := some plan.start, state := .energizing,
                          timer := some w.ldu.focus.setup.energize } },
                        fsu := { w.fsu with scan := some (begun false .travel none) } }) ∧
              (p = plan.start →
                let w := t.accepted tag .scan .running (some plan.planned)
                exec (.scan tag o) s =
                  .next
                    { w with
                        ldu := { w.ldu with focus := { w.ldu.focus with
                          owner := some (.op .scan tag), target := some plan.start } },
                        fsu := { w.fsu with scan := some (begun true .frameWait (w.openRecord.map (·.number))) } }))))

/-- What a SCAN's wait for a frame leads to. A frame start counts toward the wait when its closed record stands after
the settle mark, or the mark has left the ring; it does beside it, in every state of the exposure unit, what it does
without a scan (`u`, which FrameStartAdvances gives). The eighth that counts fails the wait: the scan ends NULLIFIED,
NO_STATS, where it stays or has no best, and goes back to its best first with hold mode BEST (R99, R105, R107); that
FRAME_WAIT_EXPIRY is that frame start, and no other, is the model's choice (log 4). Statistics that come late for a
closed record are compared in their filing event, after EXC's metering (the first lines' `m`; log 10): an ineligible
record is ignored, as is a marked one that is skipped; a marked one that is not ends the scan NULLIFIED, MARKED_FRAME,
where it stays (R64, R99, R105); a usable one updates the best and the rise count. A PEAK hit sends focus to the best,
running out of positions to the best or, below the minimum, to F(z, 0); an ABOVE hit ends the scan COMPLETE, HIT where
it stands; otherwise the unit is counted and the next begins, or a stop ends the scan PARTIAL (R100 to R104). A focus
step lost on the way ends the scan TERMINATED, LOST_STEP, in that event: the focus UNREFERENCED and settling, d kept,
no window, the unit not counted, the best so far reported, ATTENTION FOCUS raised (R28, R37, R106). The target that
the lost step makes absent, and the flag levels that stand in the state as read, are the model's choice (logs 60 and
8), as is the order of the notices that different blocks place in one event: EXPOSURE before the ENDING at a frame
start, ATTENTION FOCUS before it at the lost step (log 59). The arrival at the final position ends the scan COMPLETE
with the linked window, or NULLIFIED with the cause it goes back for (R103, R105). A refine makes no hit test and goes
to its best or back to its centre (R109). -/
def Obligations.FrameWaitExpires : Prop :=
  (∀ (s : State) (c : Scan) (tag : Nat) (o : ScanOperands) (r : FrameRec), s.fsu.scan = some c →
    c.user = .scan tag o → c.phase = .frameWait → s.fmn.ring.getLast? = some r → r.offerHeld = false →
    s.csq.state ≠ .interval →
      ∃ u, exec .frameStart { s with fsu := { s.fsu with scan := none } } = .next u ∧
        (let place (n : Nat) : Option Nat := u.fmn.ring.findIdx? fun q => q.number == n
         let counts : Prop := ∀ k i, c.mark = some k → place k = some i → ∃ j, place r.number = some j ∧ i < j
         let waiting (x : Scan) : State := { u with fsu := { s.fsu with scan := some x } }
         let waits (x : Scan) : Prop :=
           exec .frameWaitExpiry s = .next s ∧ exec .frameStart s = .next (waiting x)
         let fails (v : State) : Prop := exec .frameWaitExpiry s = .next v ∧ exec .frameStart s = .next v
         let settings := c.plan.settings
         let d := { c with waitCount := c.waitCount + 1 }
         (¬ counts → waits c) ∧
         (counts → c.waitCount < 7 → waits d) ∧
         (counts → 7 ≤ c.waitCount → settings.hold = .stay ∨ c.best = none → s.csq.capture = none →
           ∀ e, u.entry tag = some e →
             fails
               { u with
                   fsu := { s.fsu with scan := none },
                   ldu := { u.ldu with d := u.backD, focus := { u.ldu.focus with owner := none } },
                   opt := { table := u.opt.table.filter (fun f => f.tag != tag),
                            outbox := u.opt.outbox ++
                              [.ending
                                { tag := tag, kind := e.kind, cls := .nullified, cause := .noStats, done := e.done,
                                  resume := .scan { o with start := some c.p, stop := some c.plan.stop },
                                  result := none,
                                  fields := .scan
                                    { finalPP := u.ldu.focus.pp, start := c.plan.start, stop := c.plan.stop,
                                      clampFlag := c.plan.clampFlag, countFlag := c.plan.countFlag,
                                      best := c.best.map fun b => (b.pos, b.value), rise := c.rise,
                                      window := none, d := u.backD } }] } }) ∧
         (counts → 7 ≤ c.waitCount → settings.hold = .best → ∀ b p, c.best = some b → u.ldu.focus.pp = some p →
           b.pos ≠ p → u.ldu.focus.state = .held → u.ldu.focus.homing = .none →
           u.ldu.focus.owner = some (.op .scan tag) → u.ldu.waitList = [] → u.slotHolders.length < 2 →
             let x := { d with phase := .finalTravel, goal := some (.nullified .noStats) }
             fails
               { waiting x with
                   ldu := { u.ldu with focus := { u.ldu.focus with
                     target := some b.pos, state := .moving, timer := none, after := .goOn,
                     stepUp := decide (p < b.pos), stepTime := u.ldu.focus.setup.interval } } }))) ∧
  (∀ (l : List (Nat × Nat)) (w : Nat), l.Pairwise (fun a b => a.1 < b.1) → linkedWindow l = some w →
    ∃ v, (w, v) ∈ l ∧ ∀ x ∈ l, x.2 < v ∨ (x.2 = v ∧ w ≤ x.1)) ∧
  (∀ (f : StatsFeed) (s t : State) (r : FrameRec) (c : Scan) (pp : Nat), s.takeHanded (.stats f) = some t →
    t.fmn.ring.find? (fun r => r.number == f.frame) = some r → r.stats = false →
    t.fmn.ring.getLast?.map (·.number) ≠ some r.number → t.fsu.scan = some c → c.phase = .frameWait →
    t.csq.state ≠ .preparing → t.ldu.focus.pp = some pp →
      let serial := if f.serial = 0 then none else some f.serial
      let filed : FrameRec :=
        { r with stats := true, serial := serial, hostMark := f.hostMark != 0, zones := f.zones.map (min 4095),
                 contrasts := f.contrasts, expChanged := t.judgeChanged f.frame serial, offerHeld := false }
      let m : State :=
        (State.excOffer
          { t with fmn := { t.fmn with
              ring := updateFirst (fun x => x.number == f.frame) (fun _ => filed) t.fmn.ring } } filed).1
      let place (n : Nat) : Option Nat := t.fmn.ring.findIdx? fun q => q.number == n
      let eligible : Prop :=
        r.movingFocus = false ∧
        ∀ k i, c.mark = some k → place k = some i → ∃ j, place f.frame = some j ∧ i < j
      let marked : Prop := filed.expChanged = true ∨ r.unsteady = true ∨ f.hostMark ≠ 0
      let settings := c.plan.settings
      let values := windowValues settings.mask f.contrasts
      let v := figure values
      let here : Best := { value := v, pos := c.p, windows := values }
      let better : Bool := match c.best with | none => true | some b => decide (b.value < v)
      let d : Scan :=
        match c.best with
        | none => { c with best := some here }
        | some b => if b.value < v then { c with best := some here, rise := min 255 (c.rise + 1) } else c
      let counted (w : State) (tag : Nat) : State :=
        { w with opt := { w.opt with
            table := w.opt.table.map fun e => if e.tag = tag then { e with done := min 65535 (e.done + 1) } else e } }
      let travels (w : State) (x : Scan) (v : Nat) : State :=
        { w with
            ldu := { w.ldu with focus := { w.ldu.focus with
              target := some v, state := .moving, timer := none, after := .goOn, stepUp := decide (pp < v),
              stepTime := w.ldu.focus.setup.interval } },
            fsu := { w.fsu with scan := some x } }
      let ends (tag : Nat) (e : OpEntry) (cls : EndClass) (cause : Cause) (done : Nat) (resume : Resume)
          (result window : Option Nat) (x : Scan) (focus : AxisRec) : State :=
        { m with
            fsu := { m.fsu with scan := none },
            exc := match window with | some w => { m.exc with window := w } | none => m.exc,
            ldu := { m.ldu with d := t.backD, focus := { focus with owner := none } },
            opt := { table := t.opt.table.filter (fun f => f.tag != tag),
                     outbox := t.opt.outbox ++
                       [.ending
                         { tag := tag, kind := e.kind, cls := cls, cause := cause, done := done, resume := resume,
                           result := result,
                           fields := .scan
                             { finalPP := some pp, start := c.plan.start, stop := c.plan.stop,
                               clampFlag := c.plan.clampFlag, countFlag := c.plan.countFlag,
                               best := x.best.map fun b => (b.pos, b.value), rise := x.rise, window := window,
                               d := t.backD } }] } }
      (¬ eligible → exec (.stats f) s = .next m) ∧
      (eligible → marked → settings.skip = true → exec (.stats f) s = .next m) ∧
      ∀ tag o e, c.user = .scan tag o → t.entry tag = some e → t.csq.capture = none →
        (eligible → marked → settings.skip = false → settings.hold = .stay ∨ c.best = none →
          exec (.stats f) s =
            .next
              (ends tag e .nullified .markedFrame e.done
                (.scan { o with start := some c.p, stop := some c.plan.stop }) none none c t.ldu.focus)) ∧
        (eligible → ¬ marked → t.ldu.focus.state = .held → t.ldu.focus.homing = .none → t.ldu.waitList = [] →
          t.slotHolders.length < 2 → t.ldu.focus.owner = some (.op .scan tag) →
          let peak : Prop :=
            settings.condition = .peak ∧ better = false ∧
            ∀ b, c.best = some b →
              2 ≤ c.rise ∧ v * 16 < b.value * (16 - settings.fall) ∧ settings.minimum ≤ b.value
          let above : Prop := settings.condition = .above ∧ settings.threshold ≤ v
          (∀ b, peak → c.best = some b → b.pos ≠ pp →
            exec (.stats f) s =
              .next
                (travels m { c with phase := .finalTravel, goal := some (.complete .hit b.windows) } b.pos)) ∧
          (above → c.p = pp →
            exec (.stats f) s =
              .next
                (ends tag e .complete .none (min 65535 (e.done + 1)) .absent (some 0) (linkedWindow values) d
                  { t.ldu.focus with target := some pp })) ∧
          (¬ peak → ¬ above → c.plan.planned ≤ c.index + 1 → ∀ b, d.best = some b →
            (settings.minimum ≤ b.value → b.pos ≠ pp →
              exec (.stats f) s =
                .next
                  (travels m { d with phase := .finalTravel, goal := some (.complete .notSatisfied b.windows) }
                    b.pos)) ∧
            (b.value < settings.minimum → t.lensGeometry = true →
              let infinity := (t.reading (·.fInf) t.zoomStep).toNat
              infinity ≠ pp →
              exec (.stats f) s =
                .next
                  (travels m { d with phase := .finalTravel, goal := some (.complete .lowContrast []) }
                    infinity))) ∧
          (¬ peak → ¬ above → c.index + 1 < c.plan.planned →
            let next :=
              if c.plan.up then c.plan.start + (c.index + 1) * settings.step
              else c.plan.start - (c.index + 1) * settings.step
            (c.stop = none → c.begun = true → next ≠ pp →
              exec (.stats f) s =
                .next (travels (counted m tag) { d with index := c.index + 1, p := next, phase := .travel } next)) ∧
            ∀ cause, c.stop = some cause →
              exec (.stats f) s =
                .next
                  (ends tag e .partialEnd (match cause with | .stopped => .stopped | .preempted => .preempted)
                    (min 65535 (e.done + 1)) (.scan { o with start := some next, stop := some c.plan.stop }) none none
                    d t.ldu.focus))) ∧
      ∀ centre positions k, c.user = .refine centre positions → eligible → ¬ marked → t.ldu.focus.state = .held →
        t.ldu.focus.homing = .none → t.ldu.waitList = [] → t.slotHolders.length < 2 →
        t.ldu.focus.owner = some (.capture k) → ∀ b, d.best = some b →
          let goal := if settings.minimum ≤ b.value then b.pos else centre
          (c.plan.planned ≤ c.index + 1 → goal ≠ pp →
            exec (.stats f) s = .next (travels m { d with phase := .finalTravel, goal := some .refined } goal)) ∧
          (c.index + 1 < c.plan.planned → c.stop = none → c.begun = true → ∀ next, positions[c.index + 1]? = some next →
            next ≠ pp →
            exec (.stats f) s =
              .next (travels m { d with index := c.index + 1, p := next, phase := .travel } next))) ∧
  (∀ (tag p : Nat) (o : ScanOperands) (flags : RefFlags) (s : State) (c : Scan) (e : OpEntry), s.fsu.scan = some c →
    c.user = .scan tag o → s.entry tag = some e → s.csq.capture = none →
    s.ldu.focus.owner = some (.op .scan tag) → s.ldu.focus.state = .moving → s.ldu.focus.homing = .none →
    s.ldu.focus.after = .goOn → s.ldu.focus.pp = some p → s.ldu.focus.setup.settle ≠ 0 → s.ldu.waitList = [] →
      let q := if s.ldu.focus.stepUp then p + 1 else p - 1
      flags.focus ≠ decide (40 < q) → 44 ≤ q ∨ q + 4 ≤ 40 →
        let read : State := { s with ldu := { s.ldu with flags := flags } }
        let alarmed := (read.reportStep .focus).attention .focus .lostStep q
        exec (.axisStepComplete .focus flags) s =
          .next
            { alarmed with
                fsu := { alarmed.fsu with scan := none },
                ldu := { alarmed.ldu with focus := { alarmed.ldu.focus with
                  pp := none, target := none, state := .settling, timer := some s.ldu.focus.setup.settle,
                  owner := none } },
                opt := { table := s.opt.table.filter (fun f => f.tag != tag),
                         outbox := alarmed.opt.outbox ++
                           [.ending
                             { tag := tag, kind := e.kind, cls := .terminated, cause := .lostStep, done := e.done,
                               resume := .absent, result := none,
                               fields := .scan
                                 { finalPP := none, start := c.plan.start, stop := c.plan.stop,
                                   clampFlag := c.plan.clampFlag, countFlag := c.plan.countFlag,
                                   best := c.best.map fun b => (b.pos, b.value), rise := c.rise, window := none,
                                   d := s.ldu.d } }] } }) ∧
  ∀ (s : State) (c : Scan) (v : Nat), s.fsu.scan = some c → c.phase = .finalTravel → s.ldu.focus.state = .settling →
    s.ldu.focus.timer.isSome = true → s.ldu.focus.pp = some v → s.ldu.focus.target = some v →
      let held : AxisRec :=
        { s.ldu.focus with state := .held, homing := .none, after := .goOn,
                           timer := if s.ldu.focus.setup.hold = 0 then none else some s.ldu.focus.setup.hold }
      (∀ tag o e result windows, c.user = .scan tag o → s.ldu.focus.owner = some (.op .scan tag) →
        s.entry tag = some e → s.csq.capture = none → c.goal = some (.complete result windows) →
          let window := if result = .lowContrast then none else linkedWindow windows
          exec (.settleTimeout .focus) s =
            .next
              { s with
                  fsu := { s.fsu with scan := none },
                  exc := match window with | some w => { s.exc with window := w } | none => s.exc,
                  ldu := { s.ldu with d := s.backD, focus := { held with owner := none } },
                  opt := { table := s.opt.table.filter (fun f => f.tag != tag),
                           outbox := s.opt.outbox ++
                             [.ending
                               { tag := tag, kind := e.kind, cls := .complete, cause := .none,
                                 done := min 65535 (e.done + 1), resume := .absent,
                                 result := some
                                   (match result with | .hit => 0 | .notSatisfied => 1 | .lowContrast => 2),
                                 fields := .scan
                                   { finalPP := some v, start := c.plan.start, stop := c.plan.stop,
                                     clampFlag := c.plan.clampFlag, countFlag := c.plan.countFlag,
                                     best := c.best.map fun b => (b.pos, b.value), rise := c.rise,
                                     window := window, d := s.backD } }] } }) ∧
      (∀ tag o e cause, c.user = .scan tag o → s.ldu.focus.owner = some (.op .scan tag) → s.entry tag = some e →
        s.csq.capture = none → c.goal = some (.nullified cause) →
          exec (.settleTimeout .focus) s =
            .next
              { s with
                  fsu := { s.fsu with scan := none },
                  ldu := { s.ldu with d := s.backD, focus := { held with owner := none } },
                  opt := { table := s.opt.table.filter (fun f => f.tag != tag),
                           outbox := s.opt.outbox ++
                             [.ending
                               { tag := tag, kind := e.kind, cls := .nullified, cause := cause, done := e.done,
                                 resume := .scan { o with start := some c.p, stop := some c.plan.stop },
                                 result := none,
                                 fields := .scan
                                   { finalPP := some v, start := c.plan.start, stop := c.plan.stop,
                                     clampFlag := c.plan.clampFlag, countFlag := c.plan.countFlag,
                                     best := c.best.map fun b => (b.pos, b.value), rise := c.rise, window := none,
                                     d := s.backD } }] } }) ∧
      ∀ k centre positions x p, c.user = .refine centre positions → c.goal = some .refined →
        s.ldu.focus.owner = some (.capture k) → s.csq.capture = some x → s.csq.state = .interval →
        x.program = some p → x.frames < p.interval → x.failure = none → s.stopping x.tag = false →
          exec (.settleTimeout .focus) s =
            .next
              { s with
                  fsu := { s.fsu with scan := none },
                  ldu := { s.ldu with focus := held },
                  csq := { s.csq with capture := some { x with refine := .reported } } }

/-! ## Steadying -/

/-- STEADY-SET and GYRO-CAL (R113, R116, R117, R118, R125): a code outside its list is refused; a taken mode and leak
derive the state afresh, an axis resting unless ACTIVE, PANNING or RECENTERING stands, and a change of mode clears a
FAULT; a GYRO-CAL is refused while one runs, while CSQ is not IDLE and in FAULT, and opens its first window otherwise.
-/
def Obligations.SteadyRequests : Prop :=
  (∀ (tag mode leak : Nat) (s t : State), s.reaches (.steadySet tag mode leak) tag t →
    (2 < mode → exec (.steadySet tag mode leak) s = .next (t.reply tag (.refused .field 1))) ∧
    ∀ m, steadyModeCode m = mode → t.csq.state ≠ .recentring →
      let taken := max 8 (min 14 leak)
      let fault := t.stu.fault && (m == t.stu.mode)
      let row : StuState :=
        if fault then .fault
        else if m = .off then .off
        else if t.activeKind = .review ∨ (m = .shotOnly ∧ t.stu.window = false) then .hold
        else if t.stu.offset = none then .uncalibrated
        else .active
      let stays := row == .active && [StuState.active, .panning, .recentering].contains t.stu.state
      let rest (a : SteadyAxis) : SteadyAxis :=
        { theta := 0, target := 0, measured := if row = .off ∨ row = .fault then 0 else a.measured, saturated := 0,
          supervised := 0 }
      let taking : Stu := { t.stu with mode := m, leak := taken, fault := fault }
      let u : Stu :=
        if stays then taking else { taking with state := row, yaw := rest t.stu.yaw, pitch := rest t.stu.pitch }
      exec (.steadySet tag mode leak) s =
        .next
          (State.reply { t with stu := u } tag
            (.done [byteOf mode, byteOf taken, byteOf (stuStateCode u.state)]))) ∧
  ∀ (tag : Nat) (s t : State), s.reaches (.gyroCal tag) tag t →
    (t.hasKind .gyroCal = true → exec (.gyroCal tag) s = .next (t.reply tag (.refused .busy 0))) ∧
    (t.hasKind .gyroCal = false →
      (t.csq.state ≠ .idle → exec (.gyroCal tag) s = .next (t.reply tag (.refused .busy 1))) ∧
      (t.csq.state = .idle → t.stu.state = .fault →
        exec (.gyroCal tag) s = .next (t.reply tag (.refused .wrongState 0))) ∧
      (t.csq.state = .idle → t.stu.state ≠ .fault → t.hasRoom tag →
        let none_ : WindowAxis := { sum := 0, largest := 0, smallest := 0 }
        let w := t.accepted tag .gyroCal .running none
        exec (.gyroCal tag) s =
          .next
            { w with stu := { w.stu with
                cal := some { failed := 0, judged := 0, samples := 0, yaw := none_, pitch := none_, last := none } } }))

/-- A sample event with no calibration (R111, R118 to R121, R123, R125): in RECENTERING a measured shift within 50 of
0 on both axes answers "centred" and CSQ places the EXPOSE, the late flag clear, while another only is read; without
lens geometry the lens is held centred, which ends PANNING; in OFF, FAULT, HOLD and UNCALIBRATED only the measured
shift is read, a locked stage reading 0; in ACTIVE and PANNING, with lens geometry, both axes integrate the net rate
under the leak in force, the shift target is the raw shift within the stroke, a clamped sample counts and marks the
open record UNSTEADY, and PANNING is left for ACTIVE when both raw shifts are below a quarter of the stroke. -/
def Obligations.SampleIntegrates : Prop :=
  ∀ (x : Sample) (s : State), s.stu.cal = none →
    (s.stu.state = .off ∨ s.stu.state = .fault ∨ s.stu.state = .hold ∨ s.stu.state = .uncalibrated →
      let read (v : Int) : Int := if s.stu.state = .off ∨ s.stu.state = .fault then 0 else v
      exec (.rateSample x) s =
        .next
          { s with stu := { s.stu with
              yaw := { s.stu.yaw with measured := read x.shiftYaw },
              pitch := { s.stu.pitch with measured := read x.shiftPitch } } }) ∧
    (s.stu.state = .active ∨ s.stu.state = .panning → s.lensGeometry = false → s.stu.yaw.supervised < 19 →
      s.stu.pitch.supervised < 19 →
      let centred (a : SteadyAxis) (shift : Int) : SteadyAxis :=
        { theta := 0, target := 0, measured := shift, saturated := 0,
          supervised :=
            if s.stu.state = .active ∧ 200 < (shift - a.target).natAbs then a.supervised + 1 else 0 }
      exec (.rateSample x) s =
        .next
          { s with stu := { s.stu with
              state := .active, yaw := centred s.stu.yaw x.shiftYaw, pitch := centred s.stu.pitch x.shiftPitch } }) ∧
    (s.stu.state = .recentering →
      let measured : Stu :=
        { s.stu with yaw := { s.stu.yaw with measured := x.shiftYaw },
                     pitch := { s.stu.pitch with measured := x.shiftPitch } }
      let inside := x.shiftYaw.natAbs ≤ 50 ∧ x.shiftPitch.natAbs ≤ 50
      (¬ inside → exec (.rateSample x) s = .next { s with stu := measured }) ∧
      ∀ c h sp, inside → s.csq.state = .recentring → s.csq.capture = some c → c.hand = some h → h.split = some sp →
        exec (.rateSample x) s =
          .next
            { s with
                stu := { measured with state := .active, yaw := { measured.yaw with supervised := 0 },
                                       pitch := { measured.pitch with supervised := 0 } },
                csq := { s.csq with
                  state := .arming,
                  capture := some
                    { c with
                        hand := some { id := h.id, split := some sp, late := false, arming := false, armed := false },
                        pictures := c.pictures ++
                          [{ id := h.id, pos := c.pos, x := sp.x, clamp := sp.clamp, outcome := none }] } },
                opt := { s.opt with outbox := s.opt.outbox ++
                  [.expose h.id sp.tv sp.av sp.gv (exposureTime sp.tv.toNat) c.shutter] } }) ∧
    ∀ oy op : Int, s.stu.offset = some (oy, op) → s.lensGeometry = true → s.stu.yaw.supervised < 19 →
      s.stu.pitch.supervised < 19 →
      let gain := s.reading (·.gain) s.zoomStep
      let stroke : Int := s.otb.glob.stroke
      let raw (theta : Int) : Int := (theta * gain).tdiv (2 ^ 24)
      let after (a : SteadyAxis) (net shift : Int) (leak : Nat) : SteadyAxis :=
        let theta := max (-(2 ^ 30)) (min (2 ^ 30) (a.theta + net - a.theta.tdiv (2 ^ leak)))
        let target := max (-stroke) (min stroke (raw theta))
        { theta := theta, target := target, measured := shift,
          saturated := if raw theta = target then 0 else min 200 (a.saturated + 1),
          supervised := if 200 < (shift - a.target).natAbs then a.supervised + 1 else 0 }
      let moved (leak : Nat) : State :=
        let t : State :=
          { s with stu := { s.stu with
              yaw := after s.stu.yaw (x.yaw - oy) x.shiftYaw leak,
              pitch := after s.stu.pitch (x.pitch - op) x.shiftPitch leak } }
        if 0 < t.stu.yaw.saturated ∨ 0 < t.stu.pitch.saturated then t.reportClamped else t
      (s.stu.state = .active → s.stu.yaw.saturated < 199 → s.stu.pitch.saturated < 199 →
        exec (.rateSample x) s = .next (moved s.stu.leak)) ∧
      (s.stu.state = .panning →
        let t := moved 4
        let small (a : SteadyAxis) : Prop := (raw a.theta).natAbs < s.otb.glob.stroke / 4
        (¬ (small t.stu.yaw ∧ small t.stu.pitch) → exec (.rateSample x) s = .next t) ∧
        (small t.stu.yaw → small t.stu.pitch →
          exec (.rateSample x) s =
            .next
              { t with stu := { t.stu with
                  state := .active, yaw := { t.stu.yaw with saturated := 0, supervised := 0 },
                  pitch := { t.stu.pitch with saturated := 0, supervised := 0 } } }))

/-- The samples that are an event of their own (R112, R114, R121, R125). The 512th of a calibration window, the stage
OFF: both spreads within 64 set the offset and end the GYRO-CAL SET; otherwise the fourth failed window ends it
NOT_STILL and an earlier one opens the next window. The sample at which a saturation count reaches 200 enters PANNING;
that at which the supervision count of yaw reaches 20 latches the fault. Another sample is not the event (the model's
choice, log 4). -/
def Obligations.SampleEvents : Prop :=
  ∀ (x : Sample) (s : State),
    (∀ c, s.stu.cal = some c → c.samples < 511 → exec (.gyroCalWindowEnd x) s = .next s) ∧
    (∀ c e, s.stu.cal = some c → c.samples = 511 → s.entryOfKind .gyroCal = some e → s.entry e.tag = some e →
      s.stu.state = .off → s.stu.mode = .off → s.stu.fault = false →
      let spread (w : WindowAxis) (v : Int) : Nat := (max w.largest v - min w.smallest v).toNat
      let mean (w : WindowAxis) (v : Int) : Int := roundDiv (w.sum + v) 512
      let report : WindowReport :=
        { spreadYaw := spread c.yaw x.yaw, spreadPitch := spread c.pitch x.pitch, meanYaw := mean c.yaw x.yaw,
          meanPitch := mean c.pitch x.pitch }
      let steady := report.spreadYaw ≤ 64 ∧ report.spreadPitch ≤ 64
      let ended (stu : Stu) (code : Nat) : State :=
        { s with
            stu := { stu with cal := none },
            opt := { table := s.opt.table.filter (fun f => f.tag != e.tag),
                     outbox := s.opt.outbox ++
                       [.ending { tag := e.tag, kind := e.kind, cls := .complete, cause := .none,
                                  done := min 65535 (e.done + 1), resume := .absent, result := some code,
                                  fields := .gyro stu.offset (c.judged + 1) (some report) }] } }
      let still (a : SteadyAxis) : SteadyAxis := { a with measured := 0 }
      let zero : SteadyAxis := { theta := 0, target := 0, measured := 0, saturated := 0, supervised := 0 }
      let none_ : WindowAxis := { sum := 0, largest := 0, smallest := 0 }
      let read : Stu := { s.stu with yaw := still s.stu.yaw, pitch := still s.stu.pitch }
      (steady →
        exec (.gyroCalWindowEnd x) s =
          .next
            (ended { s.stu with offset := some (report.meanYaw, report.meanPitch), yaw := zero, pitch := zero } 0)) ∧
      (¬ steady → 3 ≤ c.failed → exec (.gyroCalWindowEnd x) s = .next (ended read 1)) ∧
      (¬ steady → c.failed < 3 → e.state ≠ .stopping →
        exec (.gyroCalWindowEnd x) s =
          .next
            { s with
                stu := { read with
                  cal := some { failed := c.failed + 1, judged := c.judged + 1, samples := 0, yaw := none_,
                                pitch := none_, last := some report } },
                opt := { s.opt with
                  table := s.opt.table.map fun f =>
                    if f.tag = e.tag then { f with done := min 65535 (f.done + 1) } else f } })) ∧
    (s.stu.state ≠ .active → exec (.panningEntry x) s = .next s) ∧
    (∀ oy op : Int, s.stu.state = .active → s.stu.cal = none → s.stu.offset = some (oy, op) → s.lensGeometry = true →
      s.stu.yaw.supervised < 19 → s.stu.pitch.supervised < 19 →
      let after (a : SteadyAxis) (net shift : Int) : SteadyAxis :=
        (SteadyAxis.supervise { a with measured := shift }).update net s.stu.leak (s.reading (·.gain) s.zoomStep)
          s.otb.glob.stroke
      let yaw := after s.stu.yaw (x.yaw - oy) x.shiftYaw
      let pitch := after s.stu.pitch (x.pitch - op) x.shiftPitch
      (yaw.saturated < 200 → pitch.saturated < 200 → exec (.panningEntry x) s = .next s) ∧
      (yaw.saturated = 200 ∨ pitch.saturated = 200 →
        exec (.panningEntry x) s =
          .next
            (State.reportClamped
              { s with stu := { s.stu with
                  state := .panning, yaw := { yaw with supervised := 0 },
                  pitch := { pitch with supervised := 0 } } }))) ∧
    (s.stu.fault = true → exec (.actuatorFault x) s = .next s) ∧
    (s.stu.fault = false → s.stu.cal = none → s.stu.state = .active ∨ s.stu.state = .panning →
      s.stu.yaw.supervised = 19 → 200 < (x.shiftYaw - s.stu.yaw.target).natAbs →
      let zero : SteadyAxis := { theta := 0, target := 0, measured := 0, saturated := 0, supervised := 0 }
      exec (.actuatorFault x) s =
        .next
          (State.attention
            { s with stu := { s.stu with state := .fault, fault := true, yaw := zero, pitch := zero } }
            .steady .actuatorFault 0))

/-! ## Programs and contexts -/

/-- PROGRAM-SET (R128, R129): an index above 15 is refused, as is the first field outside its set, by its number, and
nothing is written; otherwise the descriptor is written or made absent and the reply carries it. -/
def Obligations.ProgramSetTaken : Prop :=
  ∀ (tag : Nat) (o : ProgramOperands) (s t : State), s.reaches (.programSet tag o) tag t →
    let refused (code : Code) (detail : Nat) : Prop :=
      exec (.programSet tag o) s = .next (t.reply tag (.refused code detail))
    let written (p : Option Program) (bytes : List Byte) : Prop :=
      exec (.programSet tag o) s =
        .next
          (State.reply { t with pcs := { t.pcs with programs := t.pcs.programs.set o.index p } } tag (.done bytes))
    let bad (k : Nat) : Prop :=
      (k = 2 ∧ 2 < o.kind) ∨ (k = 3 ∧ (o.mask < 1 ∨ 3 < o.mask)) ∨
      (k = 4 ∧
        ((o.kind = 0 ∧ o.count ≠ 1) ∨ (o.kind = 1 ∧ (o.count < 2 ∨ 30 < o.count)) ∨
          (o.kind = 2 ∧ o.count ≠ 3 ∧ o.count ≠ 5 ∧ o.count ≠ 7))) ∨
      (k = 5 ∧ o.kind = 2 ∧ (o.step < 8 ∨ 96 < o.step)) ∨ (k = 6 ∧ 30 < o.interval) ∨ (k = 7 ∧ 1 < o.between) ∨
      (k = 8 ∧ 1 < o.focusFirst)
    (15 < o.index → refused .range o.index) ∧
    (o.index ≤ 15 → 1 < o.present → refused .field 1) ∧
    (o.index ≤ 15 → o.present = 0 → written none ([byteOf o.index, 0#8] ++ List.replicate 7 0xFF#8)) ∧
    (o.index ≤ 15 → o.present = 1 →
      (∀ k, bad k → (∀ j, j < k → ¬ bad j) → refused .field k) ∧
      ((∀ k, ¬ bad k) → ∀ kind, programKindCode kind = o.kind →
        written
          (some { kind := kind, mask := o.mask, count := o.count,
                  step := if kind = .bracket then some o.step else none, interval := o.interval,
                  refine := o.between == 1, focusFirst := o.focusFirst == 1 })
          [byteOf o.index, 1#8, byteOf o.kind, byteOf o.mask, byteOf o.count,
            if kind = .bracket then byteOf o.step else 0xFF#8, byteOf o.interval, byteOf o.between,
            byteOf o.focusFirst]))

/-- PROGRAM-LIMIT (R130), in every state: a limit above 16 is refused FIELD, detail 0; another is taken and answered
DONE with the limit and the number of present descriptors below it, every descriptor keeping its contents. -/
def Obligations.ProgramLimitTaken : Prop :=
  ∀ (tag limit : Nat) (s t : State), s.reaches (.programLimit tag limit) tag t →
    (16 < limit → exec (.programLimit tag limit) s = .next (t.reply tag (.refused .field 0))) ∧
    (limit ≤ 16 →
      exec (.programLimit tag limit) s =
        .next
          (State.reply { t with pcs := { t.pcs with limit := limit } } tag
            (.done (byteOf limit :: put2 ((t.pcs.programs.take limit).countP (·.isSome))))))

/-- CONTEXT-SET and CONTEXT-READ (R133, R134): a slot above 3, the ACTIVE and a NESTED slot and a code outside its
list are refused; another CONTEXT-SET makes the slot AVAILABLE with every value in its range and answers it;
CONTEXT-READ answers the slot's contents, of the ACTIVE one the working copy with the zoom PP in place of the saved
step, of an EMPTY one its status alone. That the settings of a CONTEXT-READ have the layouts of their requests is the
model's choice (log 20). -/
def Obligations.ContextSlots : Prop :=
  (∀ (tag : Nat) (o : ContextOperands) (s t : State), s.reaches (.contextSet tag o) tag t →
    let refused (code : Code) (detail : Nat) : Prop :=
      exec (.contextSet tag o) s = .next (t.reply tag (.refused code detail))
    (3 < o.slot → refused .range o.slot) ∧
    (o.slot ≤ 3 → (t.slot o.slot).status = .active → refused .contextBusy 2) ∧
    (o.slot ≤ 3 → (t.slot o.slot).status = .nested → refused .contextBusy 3) ∧
    (o.slot ≤ 3 → (t.slot o.slot).status = .empty ∨ (t.slot o.slot).status = .available →
      (2 < o.kind → refused .field 16) ∧
      (o.kind ≤ 2 → 3 < o.meter.mode → refused .field 33) ∧
      (o.kind ≤ 2 → o.meter.mode ≤ 3 → 3 < o.meter.rounding → refused .field 39) ∧
      (o.kind ≤ 2 → o.meter.mode ≤ 3 → o.meter.rounding ≤ 3 →
        (1 < o.af.condition → refused .field 51) ∧ (o.af.condition ≤ 1 → 1 < o.af.span → refused .field 56) ∧
        (o.af.condition ≤ 1 → o.af.span ≤ 1 → 1 < o.af.hold → refused .field 57)) ∧
      ∀ kind mode rounding condition span hold, contextKindCode kind = o.kind → meterModeCode mode = o.meter.mode →
        roundingCode rounding = o.meter.rounding → focusConditionCode condition = o.af.condition →
        spanCode span = o.af.span → holdModeCode hold = o.af.hold →
        (2 < o.mode → refused .field 65) ∧
        ∀ steady, steadyModeCode steady = o.mode →
          let c : Slot :=
            { status := .available, kind := kind, link := none, zoomStep := min 2600 o.zoomStep, d := min 1024 o.d,
              x := o.x.map fun x => max (-160) (min 638 x),
              meter := bringMeter o.meter mode rounding t.otb.glob.tvMaxElectronic,
              af := bringAf o.af condition span hold, mode := steady, leak := max 8 (min 14 o.leak),
              interval := o.interval.map (bringInterval .zoom) }
          exec (.contextSet tag o) s =
            .next
              (State.reply { t with pcs := { t.pcs with slots := t.pcs.slots.set o.slot c } } tag
                (.done (putContext (contextOperands o.slot c)))))) ∧
  ∀ (tag slot : Nat) (s t : State), s.reaches (.contextRead tag slot) tag t →
    (3 < slot → exec (.contextRead tag slot) s = .next (t.reply tag (.refused .range slot))) ∧
    (slot ≤ 3 →
      let c := t.slot slot
      let answers (bytes : List Byte) : Prop := exec (.contextRead tag slot) s = .next (t.reply tag (.done bytes))
      let fields (zoom : Option Nat) (d : Nat) (x : Option Int) (m : MeterSettings) (a : AfSettings)
          (mode : SteadyMode) (leak : Nat) : List Byte :=
        put1 (slotStatusCode c.status) ++ put1 (contextKindCode c.kind) ++ putOption1 c.link ++ putOption2 zoom ++
          put2 d ++ putValue x ++
          putMeter
            { mode := meterModeCode m.mode, weights := m.weights, target := m.target, highlight := m.highlight,
              compensation := m.compensation, convergence := m.convergence, rounding := roundingCode m.rounding,
              gvMax := m.gvMax, knee := m.knee, tvFloor := m.tvFloor } ++
          putAf
            { mask := a.mask, step := a.step, condition := focusConditionCode a.condition, fall := a.fall,
              threshold := a.threshold, minimum := a.minimum, skip := if a.skip then 1 else 0,
              span := spanCode a.span, hold := holdModeCode a.hold } ++
          put1 (steadyModeCode mode) ++ put1 leak ++ putOption2 c.interval
      (c.status = .empty → answers [0#8]) ∧
      (c.status = .available ∨ c.status = .nested →
        answers (fields (some c.zoomStep) c.d c.x c.meter c.af c.mode c.leak)) ∧
      (c.status = .active →
        answers
          (fields t.ldu.zoom.pp t.ldu.d t.exc.x t.exc.live t.fsu.live t.stu.mode t.stu.leak)))

/-- SWITCH, ENTER and LEAVE (R135, R136, R89, R51): their refusals in their order, a LEAVE from a slot with no back
link refused NO_BACK_LINK; accepted, zoom and focus are owned, the working copy is saved into the slot left, status and
back link change by the kind, the new slot's settings are loaded, the exchange counts as unit 1, and the travel is to
come. -/
def Obligations.ContextExchange : Prop :=
  (∀ (tag : Nat) (s t : State), s.reaches (.leave tag) tag t → t.activeSlot.link = none →
    exec (.leave tag) s =
      .next
        (t.reply tag
          (match t.otb.state with
           | .empty => .refused .noTable 0
           | .staged => .refused .noTable 1
           | .valid => .refused .noBackLink t.activeIndex))) ∧
  ∀ (tag i : Nat) (s t : State) (kind : OpKind) (c : Instr),
    (kind = .switch ∧ c = .switch tag i) ∨ (kind = .enter ∧ c = .enter tag i) ∨
      (kind = .leave ∧ c = .leave tag ∧ t.activeSlot.link = some i) →
    s.reaches c tag t →
    let refused (code : Code) (detail : Nat) : Prop := exec c s = .next (t.reply tag (.refused code detail))
    (t.otb.state = .empty → refused .noTable 0) ∧ (t.otb.state = .staged → refused .noTable 1) ∧
    (t.otb.state = .valid →
      (kind ≠ .leave →
        (3 < i → refused .range i) ∧ (i ≤ 3 → (t.slot i).status = .empty → refused .absent i) ∧
        (i ≤ 3 → (t.slot i).status = .active → refused .contextBusy 2) ∧
        (i ≤ 3 → (t.slot i).status = .nested → refused .contextBusy 3)) ∧
      (kind = .leave ∨ (i ≤ 3 ∧ (t.slot i).status = .available) →
        (t.ldu.zoom.owner ≠ none → refused .busy 0) ∧
        (t.ldu.zoom.owner = none → t.ldu.focus.owner ≠ none → refused .busy 1) ∧
        (t.ldu.zoom.owner = none → t.ldu.focus.owner = none → t.ldu.zoom.pp = none → refused .unreferenced 0) ∧
        (t.ldu.zoom.owner = none → t.ldu.focus.owner = none → t.ldu.zoom.pp ≠ none → t.ldu.focus.pp = none →
          refused .unreferenced 1) ∧
        (t.ldu.zoom.owner = none → t.ldu.focus.owner = none → t.ldu.zoom.pp ≠ none → t.ldu.focus.pp ≠ none →
          t.hasRoom tag →
          let a := t.activeIndex
          let old := t.slot a
          let saved : Slot :=
            { old with zoomStep := t.zoomStep, d := t.ldu.d, x := t.exc.x, meter := t.exc.live, af := t.fsu.live,
                       mode := t.stu.mode, leak := t.stu.leak }
          let left : Slot :=
            if kind = .enter then { saved with status := .nested }
            else { saved with status := .available, link := none }
          let entered : Slot :=
            { t.slot i with status := .active,
                            link := if kind = .switch then old.link else if kind = .enter then some a
                                    else (t.slot i).link }
          ∃ u, exec c s = .next u ∧
            u.pcs.slots = (t.pcs.slots.set a left).set i entered ∧ u.pcs.programs = t.pcs.programs ∧
            (∃ o, u.pcs.op = some o ∧ o.tag = tag ∧ o.kind = kind ∧ o.phase = .pending ∧ o.left = a) ∧
            u.ldu = { t.ldu with
              zoom := { t.ldu.zoom with owner := some (.op kind tag) },
              focus := { t.ldu.focus with owner := some (.op kind tag) }, d := entered.d } ∧
            u.fsu = { t.fsu with live := entered.af } ∧ u.exc.live = entered.meter.fit t.otb.glob.tvMaxElectronic ∧
            (t.excLens = true → u.exc.x = entered.x) ∧ u.exc.ring = [] ∧ u.exc.clamp = .none ∧ u.exc.latest = none ∧
            u.exc.window = 0 ∧ u.exc.lock = t.exc.lock ∧ u.exc.nextSerial = t.exc.nextSerial ∧
            u.stu.mode = entered.mode ∧ u.stu.leak = entered.leak ∧ u.stu.window = false ∧
            u.stu.offset = t.stu.offset ∧ u.stu.fault = t.stu.fault ∧ u.stu.cal = t.stu.cal ∧
            u.opt.outbox = t.opt.outbox ∧
            u.opt.table = t.opt.table ++
              [{ tag := tag, kind := kind, state := .running, done := 1,
                 planned := some (if (t.slot i).kind = .review then 1 else 3), cause := none }] ∧
            u.lif = { t.lif with replies := t.lif.replies ++ [{ tag := tag, body := .accepted kind }] } ∧
            u.otb = t.otb ∧ u.fmn = t.fmn ∧ u.csq = t.csq ∧ u.pbf = t.pbf ∧ u.csu = t.csu ∧
            u.pending = t.pending)))

/-- The event after a settings exchange (R137, R138): an operation to a REVIEW context ends COMPLETE with the claim
released; another sends zoom to the saved step brought into the table's ends, a RELEASED zoom elsewhere energizing;
with no exchange just made there is no such event (the model's choice, logs 3 and 5). -/
def Obligations.ContextTravel : Prop :=
  ∀ s : State,
    (s.pcs.op = none → exec .contextTravelBegin s = .next s) ∧
    ∀ o, s.pcs.op = some o →
      (o.phase ≠ .pending → exec .contextTravelBegin s = .next s) ∧
      (o.phase = .pending →
        (s.activeKind = .review → ∀ e, s.entry o.tag = some e →
          let c := s.activeSlot
          exec .contextTravelBegin s =
            .next
              { s with
                  pcs := { s.pcs with op := none },
                  ldu := { s.ldu with zoom := { s.ldu.zoom with owner := none },
                                      focus := { s.ldu.focus with owner := none } },
                  opt := { table := s.opt.table.filter (fun f => f.tag != o.tag),
                           outbox := s.opt.outbox ++
                             [.ending { tag := o.tag, kind := e.kind, cls := .complete, cause := .none, done := e.done,
                                        resume := .absent, result := none,
                                        fields := .context o.left (s.slot o.left).status s.activeIndex c.kind c.link
                                          o.clampFlag s.ldu.zoom.pp s.ldu.focus.pp s.ldu.d
                                          (s.ldu.zoom.pp.map fun z => s.focusFor z s.ldu.d) o.exc o.stu }] } }) ∧
        (s.activeKind ≠ .review → ∀ z, s.ldu.zoom.pp = some z → s.ldu.zoom.state = .released →
          s.ldu.zoom.setup.energize ≠ 0 → s.ldu.waitList = [] →
          let saved := s.activeSlot.zoomStep
          let v := max s.wideEnd (min s.teleEnd saved)
          v ≠ z →
            exec .contextTravelBegin s =
              .next
                { s with
                    pcs := { s.pcs with
                      op := some { o with phase := .zoom, target := v, clampFlag := v != saved } },
                    ldu := { s.ldu with zoom := { s.ldu.zoom with
                      target := some v, state := .energizing, timer := some s.ldu.zoom.setup.energize } } }))

/-! ## Capture -/

/-- PREPARE and RELEASE (R26, R69, R142, R143, R144): the refusals of PREPARE in their order; accepted, CSQ is
PREPARING, zoom and focus are the capture's, the capture window is open, and the lock is asked for: with an exposure
result it is held at once and the scan started, with none it is pending. The first result under a pending lock, in the
filing event of a record's statistics (log 10), holds the lock and starts the scan of a PREPARE or of a SHOOT with
focus first, or the first picture of another SHOOT; before the first arrival a scan has no settle mark (log 51).
RELEASE takes CSQ from READY to IDLE, gives up
the lock and the claim, is refused WRONG_STATE in IDLE and BUSY in every other state. -/
def Obligations.PrepareAndRelease : Prop :=
  (∀ (tag : Nat) (s t : State), s.reaches (.prepare tag) tag t →
    let refused (code : Code) (detail : Nat) : Prop := exec (.prepare tag) s = .next (t.reply tag (.refused code detail))
    (t.otb.state = .empty → refused .noTable 0) ∧ (t.otb.state = .staged → refused .noTable 1) ∧
    (t.otb.state = .valid → t.activeKind = .review → refused .contextKind 2) ∧
    (t.otb.state = .valid → t.activeKind ≠ .review →
      (t.csq.state ≠ .idle → refused .busy (16 + csqStateCode t.csq.state)) ∧
      (t.csq.state = .idle →
        (t.ldu.zoom.owner ≠ none → refused .busy 0) ∧
        (t.ldu.zoom.owner = none → t.ldu.focus.owner ≠ none → refused .busy 1) ∧
        (t.ldu.zoom.owner = none → t.ldu.focus.owner = none →
          (t.ldu.iris.owner ≠ none → refused .busy 2) ∧
          (t.ldu.iris.owner = none →
            (∀ a, (t.axis a).pp = none → (∀ b, axisCode b < axisCode a → (t.axis b).pp ≠ none) →
              refused .unreferenced (axisCode a)) ∧
            ((∀ a, (t.axis a).pp ≠ none) → t.hasRoom tag → t.ldu.waitList = [] →
              t.ldu.focus.homing = .none → t.exc.lock = .none →
              let plan := t.planScan t.fsu.live none none
              ∃ u, exec (.prepare tag) s = .next u ∧ u.csq.state = .preparing ∧
                (∃ c, u.csq.capture = some c ∧ c.kind = .prepare ∧ c.tag = tag ∧ c.plan = some plan ∧
                  c.pictures = [] ∧ c.failure = none) ∧
                u.ldu.zoom = { t.ldu.zoom with owner := some (.capture .prepare) } ∧
                u.ldu.focus.owner = some (.capture .prepare) ∧ u.ldu.focus.pp = t.ldu.focus.pp ∧
                u.ldu.iris = t.ldu.iris ∧ u.ldu.d = t.ldu.d ∧ u.stu.window = true ∧
                (∃ e, u.entry tag = some e ∧ e.kind = .prepare ∧ e.done = 0 ∧ e.planned = some plan.planned) ∧
                (t.exc.x = none → u.exc.lock = .pending ∧ u.fsu = t.fsu) ∧
                (∀ x, t.exc.x = some x → u.exc.lock = .held x ∧
                  ∃ c, u.fsu.scan = some c ∧ c.user = .prepare ∧ c.plan = plan ∧ c.index = 0) ∧
                u.exc.x = t.exc.x ∧ u.exc.ring = t.exc.ring ∧ u.opt.outbox = t.opt.outbox ∧
                u.lif = { t.lif with replies := t.lif.replies ++ [{ tag := tag, body := .accepted .prepare }] } ∧
                u.otb = t.otb ∧ u.fmn = t.fmn ∧ u.pcs = t.pcs ∧ u.pbf = t.pbf ∧ u.csu = t.csu)))))) ∧
  (∀ (f : StatsFeed) (s t : State) (r : FrameRec) (c : Capture), s.takeHanded (.stats f) = some t →
    t.fmn.ring.find? (fun r => r.number == f.frame) = some r → r.stats = false →
    t.fmn.ring.getLast?.map (·.number) ≠ some r.number → t.fsu.scan = none → t.csq.state = .preparing →
    t.csq.capture = some c → c.scanAsked = false → c.preempting = none → t.exc.lock = .pending →
    t.excState = .noResult → t.ldu.waitList = [] → t.ldu.focus.state = .released →
      let serial := if f.serial = 0 then none else some f.serial
      let filed : FrameRec :=
        { r with stats := true, serial := serial, hostMark := f.hostMark != 0, zones := f.zones.map (min 4095),
                 contrasts := f.contrasts, expChanged := t.judgeChanged f.frame serial, offerHeld := false }
      let m : State :=
        (State.excOffer
          { t with fmn := { t.fmn with
              ring := updateFirst (fun x => x.number == f.frame) (fun _ => filed) t.fmn.ring } } filed).1
      (m.exc.lock = .pending → exec (.stats f) s = .next m) ∧
      ∀ x p, m.exc.lock = .held x → t.ldu.focus.pp = some p →
        let starts (user : ScanUser) (plan : ScanPlan) : Prop :=
          p ≠ plan.start → t.ldu.focus.setup.energize ≠ 0 →
            exec (.stats f) s =
              .next
                { m with
                    csq := { m.csq with capture := some { c with scanAsked := true } },
                    ldu := { m.ldu with focus := { m.ldu.focus with
                      target := some plan.start, state := .energizing, timer := some t.ldu.focus.setup.energize } },
                    fsu := { m.fsu with
                      scan := some
                        { user := user, plan := plan, index := 0, p := plan.start, begun := false, phase := .travel,
                          mark := none, waitCount := 0, best := none, rise := 0, stop := none, goal := none } } }
        (∀ plan, c.kind = .prepare → c.plan = some plan → starts .prepare plan) ∧
        ∀ g, c.kind = .shoot → c.program = some g → t.ldu.zoom.pp ≠ none →
          (g.focusFirst = true → starts .focusFirst (t.planScan t.fsu.live none none)) ∧
          (g.focusFirst = false →
            exec (.stats f) s =
              .next
                { m with
                    csq := { m.csq with
                      state := .waitBuffer,
                      capture := some { c with pos := c.first, hand := none, frames := 0, refine := .none } },
                    pbf := { m.pbf with request := true } })) ∧
  ∀ (tag : Nat) (s t : State), s.reaches (.release tag) tag t →
    (t.csq.state = .idle → exec (.release tag) s = .next (t.reply tag (.refused .wrongState 0))) ∧
    (t.csq.state ≠ .idle → t.csq.state ≠ .ready →
      exec (.release tag) s = .next (t.reply tag (.refused .busy (16 + csqStateCode t.csq.state)))) ∧
    (t.csq.state = .ready →
      let letGo (r : AxisRec) : AxisRec :=
        match r.owner with
        | some (.capture _) => { r with owner := none }
        | _ => r
      ∃ u, exec (.release tag) s = .next u ∧
      u.csq = { t.csq with state := .idle, capture := none } ∧ u.exc = { t.exc with lock := .none } ∧
      u.stu.window = false ∧ u.stu.mode = t.stu.mode ∧ u.stu.offset = t.stu.offset ∧
      u.ldu = { t.ldu with zoom := letGo t.ldu.zoom, focus := letGo t.ldu.focus } ∧
      u.pbf = { t.pbf with request := false } ∧
      u.lif = { t.lif with replies := t.lif.replies ++ [{ tag := tag, body := .done [] }] } ∧
      u.opt = t.opt ∧ u.otb = t.otb ∧ u.fmn = t.fmn ∧ u.fsu = t.fsu ∧ u.pcs = t.pcs ∧ u.csu = t.csu)

/-- SHOOT (R11, R131, R141, R145, R146, R147): its refusals in their order; from READY it begins its first picture at
once, the descriptor copied, the shutter kind fixed and a reservation asked for, lock, window and axes carried over;
from IDLE with an exposure result it holds the lock at once and begins its first picture, or, with focus first, the
scan (no settle mark before its arrival: log 51); from IDLE with none it prepares with a pending lock: nothing in its
way, it claims zoom and focus; a SCAN or a ZOOM in its way is preempted, its entry STOPPING with the cause PREEMPTED.
A SCAN before its first unit then ends SUPPRESSED and the claim is taken at once (its new d: log 39); one under way
carries its unit on, a ZOOM its step, and CSQ waits for the ending. The target that such a halt makes absent is log
60, and a halt of a step past a RESTART log 74. -/
def Obligations.ShootBegins : Prop :=
  ∀ (tag index : Nat) (count : Option Nat) (s t : State), s.reaches (.shoot tag index count) tag t →
    let refused (code : Code) (detail : Nat) : Prop :=
      exec (.shoot tag index count) s = .next (t.reply tag (.refused code detail))
    (t.otb.state = .empty → refused .noTable 0) ∧ (t.otb.state = .staged → refused .noTable 1) ∧
    (t.otb.state = .valid → t.pcs.limit ≤ index → refused .range index) ∧
    (t.otb.state = .valid → index < t.pcs.limit → t.pcs.programs[index]? = some none → refused .absent index) ∧
    ∀ p, t.otb.state = .valid → index < t.pcs.limit → t.pcs.programs[index]? = some (some p) →
      (p.mask.testBit (contextKindCode t.activeKind) = false → refused .contextKind (contextKindCode t.activeKind)) ∧
      (p.mask.testBit (contextKindCode t.activeKind) = true →
        (∀ n, count = some n → n < 1 ∨ p.count < n → refused .field 1) ∧
        ((∀ n, count = some n → 1 ≤ n ∧ n ≤ p.count) →
          (t.csq.state ≠ .idle → t.csq.state ≠ .ready → refused .busy (16 + csqStateCode t.csq.state)) ∧
          (t.csq.state = .idle ∨ t.csq.state = .ready →
            (∀ tag' kind, t.ldu.zoom.owner = some (.op kind tag') → kind ≠ .scan → kind ≠ .zoom → refused .busy 0) ∧
            ((∀ tag' kind, t.ldu.zoom.owner = some (.op kind tag') → kind = .scan ∨ kind = .zoom) →
              ∀ tag' kind, t.ldu.focus.owner = some (.op kind tag') → kind ≠ .scan → kind ≠ .zoom →
                refused .busy 1) ∧
            (t.ldu.zoom.owner = none → t.ldu.focus.owner = none → t.ldu.iris.owner ≠ none → refused .busy 2) ∧
            (t.ldu.zoom.owner = none → t.ldu.focus.owner = none → t.ldu.iris.owner = none →
              ∀ a, (t.axis a).pp = none → (∀ b, axisCode b < axisCode a → (t.axis b).pp ≠ none) →
                refused .unreferenced (axisCode a)) ∧
            ((∀ a, (t.axis a).pp ≠ none) → t.ldu.iris.owner = none → t.hasRoom tag →
              let units := count.getD p.count
              let w := t.accepted tag .shoot .waiting (some units)
              let taking (own : Bool) : Capture :=
                { kind := .shoot, tag := tag, program := some p, programIndex := index, first := p.count - units,
                  last := p.count - 1, pos := p.count - units,
                  shutter := if t.activeKind = .movie then .electronic else .mechanical, ownPreparation := own,
                  plan := none, scanAsked := false, scanEnd := none, preempting := none, hand := none, pictures := [],
                  failure := none, frames := 0, refine := .none }
              let claimed : Ldu :=
                { w.ldu with zoom := { w.ldu.zoom with owner := some (.capture .shoot) },
                             focus := { w.ldu.focus with owner := some (.capture .shoot) } }
              (t.csq.state = .ready → t.ldu.zoom.owner = some (.capture .prepare) →
                t.ldu.focus.owner = some (.capture .prepare) →
                exec (.shoot tag index count) s =
                  .next
                    { w with ldu := claimed, csq := { w.csq with state := .waitBuffer, capture := some (taking false) },
                             pbf := { w.pbf with request := true } }) ∧
              (t.csq.state = .idle → t.ldu.zoom.owner = none → t.ldu.focus.owner = none → t.exc.lock = .none →
                t.exc.x = none →
                ∃ u, exec (.shoot tag index count) s = .next u ∧ u.ldu = claimed ∧
                  u.csq = { w.csq with state := .preparing, capture := some (taking true) } ∧
                  u.exc = { w.exc with lock := .pending } ∧ u.stu.window = true ∧ u.opt = w.opt ∧ u.lif = w.lif ∧
                  u.fsu = w.fsu ∧ u.otb = w.otb ∧ u.fmn = w.fmn ∧ u.pcs = w.pcs ∧ u.pbf = w.pbf ∧ u.csu = w.csu) ∧
              (∀ x, t.csq.state = .idle → t.ldu.zoom.owner = none → t.ldu.focus.owner = none → t.exc.lock = .none →
                t.exc.x = some x →
                let goesOn (csq : Csq) (pbf : Pbf) (ldu : Ldu) (fsu : Fsu) : Prop :=
                  ∃ u, exec (.shoot tag index count) s = .next u ∧ u.csq = csq ∧ u.pbf = pbf ∧ u.ldu = ldu ∧
                    u.fsu = fsu ∧ u.exc = { w.exc with lock := .held x } ∧ u.stu.window = true ∧ u.opt = w.opt ∧
                    u.lif = w.lif ∧ u.otb = w.otb ∧ u.fmn = w.fmn ∧ u.pcs = w.pcs ∧ u.csu = w.csu
                (p.focusFirst = false →
                  goesOn { w.csq with state := .waitBuffer, capture := some (taking true) }
                    { w.pbf with request := true } claimed w.fsu) ∧
                (p.focusFirst = true →
                  let plan := t.planScan t.fsu.live none none
                  t.ldu.waitList = [] → t.ldu.focus.state = .released → t.ldu.focus.setup.energize ≠ 0 →
                  t.ldu.focus.pp ≠ some plan.start →
                    goesOn { w.csq with state := .preparing, capture := some { taking true with scanAsked := true } }
                      w.pbf
                      { claimed with focus := { claimed.focus with
                          target := some plan.start, state := .energizing,
                          timer := some t.ldu.focus.setup.energize } }
                      { w.fsu with
                        scan := some
                          { user := .focusFirst, plan := plan, index := 0, p := plan.start, begun := false,
                            phase := .travel, mark := none, waitCount := 0, best := none, rise := 0, stop := none,
                            goal := none } })) ∧
              ∀ (v : Nat) (e : OpEntry), t.csq.state = .idle → t.exc.lock = .none → t.exc.x = none →
                t.entry v = some e → e.state ≠ .stopping →
                let preempts (waiting : Option Nat) (table : List OpEntry) (outbox : List Notice) (fsu : Fsu)
                    (ldu : Ldu) : Prop :=
                  ∃ u, exec (.shoot tag index count) s = .next u ∧
                    u.csq = { w.csq with state := .preparing, capture := some { taking true with preempting := waiting } } ∧
                    u.opt = { w.opt with table := table, outbox := outbox } ∧ u.fsu = fsu ∧ u.ldu = ldu ∧
                    u.exc = { w.exc with lock := .pending } ∧ u.stu.window = true ∧ u.lif = w.lif ∧
                    u.otb = w.otb ∧ u.fmn = w.fmn ∧ u.pcs = w.pcs ∧ u.pbf = w.pbf ∧ u.csu = w.csu
                let marked :=
                  w.opt.table.map fun f =>
                    if f.tag = v ∧ f.state ≠ .stopping then { f with state := .stopping, cause := some .preempted }
                    else f
                (∀ c ops, e.kind = .scan → t.ldu.zoom.owner = none → t.ldu.focus.owner = some (.op .scan v) →
                  t.fsu.scan = some c → c.user = .scan v ops →
                  (c.begun = true →
                    preempts (some v) marked w.opt.outbox
                      { w.fsu with scan := some { c with stop := some (c.stop.getD .preempted) } } w.ldu) ∧
                  (c.begun = false → t.ldu.waitList = [] → t.ldu.focus.state = .moving →
                    preempts none (w.opt.table.filter fun f => f.tag != v)
                      (w.opt.outbox ++
                        [.ending { tag := v, kind := .scan, cls := .suppressed, cause := .preempted, done := e.done,
                                   resume := .absent, result := none,
                                   fields := .scan
                                     { finalPP := t.ldu.focus.pp, start := c.plan.start, stop := c.plan.stop,
                                       clampFlag := c.plan.clampFlag, countFlag := c.plan.countFlag,
                                       best := c.best.map fun b => (b.pos, b.value), rise := c.rise, window := none,
                                       d := t.backD } }])
                      { w.fsu with scan := none }
                      { claimed with
                          d := t.backD,
                          focus := { claimed.focus with target := none, homing := .none, after := .settle } })) ∧
                (∀ o start target follow clampFlag lost, e.kind = .zoom → e.state = .running →
                  t.ldu.zoom.owner = some (.op .zoom v) → t.ldu.focus.owner = some (.op .zoom v) →
                  t.lensOp v = some o → o.body = .zoom start target follow clampFlag lost →
                  t.ldu.zoom.state = .moving → t.ldu.waitList = [] →
                  preempts (some v) marked w.opt.outbox w.fsu
                    { w.ldu with
                        zoom := { w.ldu.zoom with target := none, homing := .none, after := .settle },
                        ops := w.ldu.ops.map fun p => if p.tag = v then { p with waitStopped := false } else p })))))

/-- The grant of a reservation (R147, R148, R161): it needs a request, fewer than 32 records and R free pages; it takes
R free pages (the first in the pool's order, log 11) into the reserved set of a new RESERVED record under the next
picture id, which then runs on, and the entry is RUNNING; with four pictures in intake CSQ waits in WAIT_INTAKE,
otherwise the exposure is split and the iris asked for its aperture. Otherwise there is no grant (logs 3 and 5: that
the grant is a command of its own is the model's choice). -/
def Obligations.ReservationGranted : Prop :=
  ∀ (s : State) (c : Capture), s.csq.capture = some c →
    (s.csq.state ≠ .waitBuffer ∨ s.pbf.request = false ∨ 32 ≤ s.pbf.records.length ∨
        s.pbf.freePages.length < s.pbf.reserve →
      exec .reservationGrant s = .next s) ∧
    (s.csq.state = .waitBuffer → s.pbf.request = true → s.pbf.records.length < 32 →
        s.pbf.reserve ≤ s.pbf.freePages.length →
      let id := s.csq.nextId
      let granted : Pbf :=
        { s.pbf with
            request := false, freePages := s.pbf.freePages.drop s.pbf.reserve,
            records := s.pbf.records ++
              [{ id := id, tag := c.tag, pos := c.pos, state := .reserved,
                 reserved := s.pbf.freePages.take s.pbf.reserve, pages := [], length := none, received := 0,
                 shot := none }] }
      let next := if 65535 ≤ id then 1 else id + 1
      let hand (sp : Option Split) : Hand := { id := id, split := sp, late := false, arming := false, armed := false }
      let running : Opt :=
        { s.opt with table := s.opt.table.map fun e =>
            if e.tag = c.tag then (if e.state = .waiting then { e with state := .running } else e) else e }
      (4 ≤ s.csq.pendingIntake.length →
        exec .reservationGrant s =
          .next
            { s with pbf := granted, opt := running,
                     csq := { s.csq with state := .waitIntake, nextId := next,
                                         capture := some { c with hand := some (hand none) } } }) ∧
      ∀ p i, s.csq.pendingIntake.length < 4 → c.program = some p → s.ldu.iris.pp = some i →
        s.ldu.iris.owner = none → s.ldu.iris.state = .released → s.ldu.iris.setup.energize ≠ 0 →
        s.ldu.waitList = [] →
        let tvHi := if c.shutter = .mechanical then s.otb.glob.tvMaxMechanical else s.otb.glob.tvMaxElectronic
        let x := s.xLocked.getD 0
        let sp := s.split tvHi
          (match p.kind, p.step with
           | .bracket, some b => x + ((c.pos : Int) - (p.count - 1) / 2) * b
           | _, _ => x)
        let v := min 96 (sp.av - s.avLow).toNat
        v ≠ i →
          exec .reservationGrant s =
            .next
              { s with
                  pbf := granted, opt := running,
                  csq := { s.csq with state := .waitIris, nextId := next,
                                      capture := some { c with hand := some (hand (some sp)) } },
                  ldu := { s.ldu with
                    pendingIris := some { value := v, writer := .csq }, irisWriter := some .csq,
                    iris := { s.ldu.iris with
                      target := some v, state := .energizing, timer := some s.ldu.iris.setup.energize } } })

/-- A picture whose iris has arrived, that is centred, armed, or not armed in time (R123, R149, R150, R151): at the
iris's arrival CSQ asks STU to recentre, which answers "centred" at once, or begins a recentre where it steadies with
a target beyond half the stroke, or has one in progress; a recentring that takes too long answers "centred" with the
late flag, and the EXPOSE is placed; an ARMED of the picture whose arm timer runs begins the exposure, filling the
shot record, or waits for the recharge of a MECHANICAL shutter; another ARMED is dropped; the arm timeout withdraws
the picture, its pages return (to the pool's tail, log 11), and the capture goes to FINISHING. An event whose
condition does not hold leaves everything as it is (the model's choice, log 3); a closing that runs on after a RESTART
is waited for like the recharge (log 31). -/
def Obligations.ArmedPicture : Prop :=
  (∀ (s : State) (c : Capture) (h : Hand) (sp : Split) (v : Nat) (r : AxisRec), s.ldu.iris = r → r.owner = none →
    r.state = .settling → r.timer.isSome = true → r.pp = some v → r.target = some v →
    s.ldu.pendingIris = some { value := v, writer := .csq } → s.csq.state = .waitIris → s.csq.capture = some c →
    c.hand = some h → h.split = some sp →
      let arrived : Ldu :=
        { s.ldu with
            iris := { r with state := .held, homing := .none, after := .goOn,
                             timer := if r.setup.hold = 0 then none else some r.setup.hold },
            pendingIris := none }
      let steers := s.stu.state = .active ∨ s.stu.state = .panning
      let near (a : SteadyAxis) : Prop := a.target.natAbs ≤ s.otb.glob.stroke / 2
      let still (a : SteadyAxis) : SteadyAxis :=
        { theta := 0, target := 0, measured := a.measured, saturated := 0, supervised := 0 }
      (s.stu.state ≠ .recentering → ¬ steers ∨ (near s.stu.yaw ∧ near s.stu.pitch) →
        exec (.settleTimeout .iris) s =
          .next
            { s with
                ldu := arrived,
                csq := { s.csq with
                  state := .arming,
                  capture := some
                    { c with
                        hand := some { id := h.id, split := some sp, late := false, arming := false, armed := false },
                        pictures := c.pictures ++
                          [{ id := h.id, pos := c.pos, x := sp.x, clamp := sp.clamp, outcome := none }] } },
                opt := { s.opt with outbox := s.opt.outbox ++
                  [.expose h.id sp.tv sp.av sp.gv (exposureTime sp.tv.toNat) c.shutter] } }) ∧
      (steers → ¬ (near s.stu.yaw ∧ near s.stu.pitch) →
        exec (.settleTimeout .iris) s =
          .next
            { s with
                ldu := arrived, csq := { s.csq with state := .recentring },
                stu := { s.stu with
                  state := .recentering, yaw := still s.stu.yaw, pitch := still s.stu.pitch } }) ∧
      (s.stu.state = .recentering →
        exec (.settleTimeout .iris) s =
          .next { s with ldu := arrived, csq := { s.csq with state := .recentring } })) ∧
  (∀ s : State, s.stu.state ≠ .recentering → exec .recentreTimeout s = .next s) ∧
  (∀ (s : State) (c : Capture) (h : Hand) (sp : Split), s.stu.state = .recentering → s.csq.state = .recentring →
    s.csq.capture = some c → c.hand = some h → h.split = some sp →
      exec .recentreTimeout s =
        .next
          { s with
              stu := { s.stu with state := .active, yaw := { s.stu.yaw with supervised := 0 },
                                  pitch := { s.stu.pitch with supervised := 0 } },
              csq := { s.csq with
                state := .arming,
                capture := some
                  { c with
                      hand := some { id := h.id, split := some sp, late := true, arming := false, armed := false },
                      pictures := c.pictures ++
                        [{ id := h.id, pos := c.pos, x := sp.x, clamp := sp.clamp, outcome := none }] } },
              opt := { s.opt with outbox := s.opt.outbox ++
                [.expose h.id sp.tv sp.av sp.gv (exposureTime sp.tv.toNat) c.shutter] } }) ∧
  (∀ (picture : Nat) (s t : State), s.takeHanded (.armed picture) = some t →
    (t.csq.state ≠ .arming → exec (.armed picture) s = .next t) ∧
    ∀ c h sp, t.csq.state = .arming → t.csq.capture = some c → c.hand = some h → h.split = some sp →
      (h.id ≠ picture ∨ h.arming = false → exec (.armed picture) s = .next t) ∧
      (h.id = picture → h.arming = true →
        (c.shutter = .mechanical → t.csq.recharge = true ∨ t.csq.closeTimer = true →
          exec (.armed picture) s =
            .next
              { t with csq := { t.csq with
                  capture := some { c with hand := some { h with arming := false, armed := true } } } }) ∧
        (c.shutter = .electronic ∨ (t.csq.recharge = false ∧ t.csq.closeTimer = false) →
          let shot : ShotRecord :=
            { tv := sp.tv, av := t.avLow + (t.ldu.iris.pp.getD 0 : Nat), gv := sp.gv,
              focal := (t.reading (·.focal) t.zoomStep).toNat, d := t.ldu.d, stu := t.stu.state, late := h.late,
              frame := t.fmn.counter }
          exec (.armed picture) s =
            .next
              { t with
                  pbf := { t.pbf with
                    records := updateFirst (fun r => r.id == picture) (fun r => { r with shot := some shot })
                      t.pbf.records },
                  csq := { t.csq with
                    state := .exposing, xstart := true,
                    capture := some { c with hand := some { h with arming := false, armed := false } } } }))) ∧
  ∀ s : State,
    (s.csq.state ≠ .arming → exec .armTimeout s = .next s) ∧
    ∀ c h r, s.csq.state = .arming → s.csq.capture = some c → c.hand = some h →
      (h.arming = false → exec .armTimeout s = .next s) ∧
      (h.arming = true → s.csq.pendingIntake ≠ [] → c.failure = none → s.record h.id = some r →
        exec .armTimeout s =
          .next
            { s with
                pbf := { s.pbf with request := false, freePages := s.pbf.freePages ++ (r.pages ++ r.reserved),
                                    records := s.pbf.records.erase r },
                csu := { s.csu with queue := s.csu.queue.filter fun p => p != h.id },
                csq := { s.csq with
                  state := .finishing,
                  capture := some
                    { c with
                        hand := none, failure := some (.nullified, .armTimeout),
                        pictures := c.pictures.map fun p =>
                          if p.id = h.id ∧ p.outcome = none then { p with outcome := some .withdrawn } else p } } })

/-- How an exposure ends (R151, R152, R153): at the end of its time XSTART drops; a MECHANICAL shutter is then closed,
and a confirmed closing puts the picture on the intake list and starts the recharge, through which it stays in hand
(R155), while one not confirmed drops the picture with a failure and ATTENTION (its pages go to the pool's tail, log
11); after the recharge the next picture, its interval, or FINISHING follows; an ELECTRONIC picture joins the intake
list at once. An event whose condition does not hold leaves everything as it is (the model's choice, log 3). -/
def Obligations.ExposureEnds : Prop :=
  ∀ s : State,
    (s.csq.state ≠ .exposing → exec .exposureTimeEnd s = .next s) ∧
    (s.csq.state ≠ .closing → exec .bladeClosed s = .next s) ∧
    (s.csq.closeTimer = false → exec .bladeTimeout s = .next s) ∧
    (s.csq.recharge = false → exec .rechargeTimeout s = .next s) ∧
    ∀ c p, s.csq.capture = some c → c.program = some p →
      (∀ h, c.hand = some h → s.csq.state = .exposing →
        (c.shutter = .mechanical →
          exec .exposureTimeEnd s =
            .next { s with csq := { s.csq with xstart := false, xclose := true, closeTimer := true,
                                               state := .closing } }) ∧
        (c.shutter = .electronic → c.last ≤ c.pos →
          exec .exposureTimeEnd s =
            .next
              { s with
                  csq := { s.csq with
                    xstart := false, state := .finishing, capture := some { c with hand := none },
                    pendingIntake := s.csq.pendingIntake ++ [h.id] },
                  pbf := { s.pbf with request := false } })) ∧
      (∀ h, c.hand = some h → s.csq.state = .closing →
        exec .bladeClosed s =
          .next
            { s with csq := { s.csq with
                xclose := false, closeTimer := false, recharge := true, state := .recharge,
                pendingIntake := s.csq.pendingIntake ++ [h.id] } } ∧
        ∀ r, s.csq.closeTimer = true → s.record h.id = some r →
          let pictures := c.pictures.map fun q =>
            if q.id = h.id ∧ q.outcome = none then { q with outcome := some .dropped } else q
          exec .bladeTimeout s =
            .next
              (State.attention
                { s with
                    pbf := { s.pbf with freePages := s.pbf.freePages ++ (r.pages ++ r.reserved),
                                        records := s.pbf.records.erase r },
                    csu := { s.csu with queue := s.csu.queue.filter fun q => q != h.id },
                    csq := { s.csq with
                      xclose := false, closeTimer := false, recharge := true, state := .recharge,
                      capture := some
                        { c with hand := none, pictures := pictures,
                                 failure := some (c.failure.getD (.terminated, .shutterFault)) } } }
                .shutter .bladeTimeout h.id)) ∧
      (s.csq.state = .recharge → s.csq.recharge = true →
        let further := c.pos < c.last ∧ c.failure = none ∧ s.stopping c.tag = false
        (further → p.interval = 0 → p.refine = false →
          exec .rechargeTimeout s =
            .next
              { s with
                  csq := { s.csq with
                    recharge := false, state := .waitBuffer,
                    capture := some { c with pos := c.pos + 1, hand := none, frames := 0, refine := .none } },
                  pbf := { s.pbf with request := true } }) ∧
        (further → p.interval ≠ 0 → p.refine = false →
          exec .rechargeTimeout s =
            .next
              { s with csq := { s.csq with
                  recharge := false, state := .interval,
                  capture := some { c with hand := none, frames := 0, refine := .none } } }) ∧
        (¬ further → s.csq.pendingIntake ≠ [] →
          exec .rechargeTimeout s =
            .next
              { s with csq := { s.csq with recharge := false, state := .finishing,
                                           capture := some { c with hand := none } },
                       pbf := { s.pbf with request := false } }))

/-- The intake limit of the head picture (R152, R154, R166): with none in intake nothing happens (the model's choice,
log 3); otherwise it leaves the list dropped, its record is freed and its pages return (to the pool's tail, log 11),
the engine drains what was still to come, and the first failure of the capture is kept. A frame start taken in
INTERVAL counts one frame and does beside it, in whatever state the exposure unit is and whatever records the ring
holds, what it does out of an interval (`u`, which FrameStartAdvances gives); the interval ends at the frame start
that counts its last frame, once a refine its program wants has reported, the next position is in hand and its pages
are asked for; any other is not the event (R153, R56). That INTERVAL_END is that frame start and no other is the
model's choice (log 4). -/
def Obligations.IntakeLimitAndInterval : Prop :=
  (∀ s : State, s.csq.pendingIntake = [] → exec .intakeLimitExpiry s = .next s) ∧
  (∀ (s : State) (id : Nat) (rest : List Nat) (c : Capture) (r : PicRecord), s.csq.pendingIntake = id :: rest →
    s.csq.capture = some c → s.csq.state = .exposing → s.record id = some r →
      let left := r.length.getD 0 - r.received
      let engine : Engine :=
        if r.state = .filling then (if left = 0 then .seek false false else .drain left) else s.pbf.engine
      exec .intakeLimitExpiry s =
        .next
          { s with
              pbf := { s.pbf with freePages := s.pbf.freePages ++ (r.pages ++ r.reserved),
                                  records := s.pbf.records.erase r, engine := engine },
              csu := { s.csu with queue := s.csu.queue.filter fun p => p != id },
              csq := { s.csq with
                pendingIntake := rest,
                capture := some
                  { c with
                      pictures := c.pictures.map fun p =>
                        if p.id = id ∧ p.outcome = none then { p with outcome := some .dropped } else p,
                      failure := some (c.failure.getD (.terminated, .intakeTimeout)) } } }) ∧
  (∀ s : State, s.csq.state ≠ .interval → exec .intervalEnd s = .next s) ∧
  ∀ (s : State) (c : Capture) (p : Program), s.csq.state = .interval → s.csq.capture = some c → c.program = some p →
    s.fsu.scan = none → (∀ r, s.fmn.ring.getLast? = some r → r.offerHeld = false) →
      ∃ u, exec .frameStart { s with csq := { s.csq with state := .waitBuffer } } = .next u ∧
        u.fmn.counter = (s.fmn.counter + 1) % 65536 ∧
        (let ended : Prop := p.interval ≤ c.frames + 1 ∧ (p.refine = true → c.refine = .reported)
         let next : State :=
           { u with
               csq := { s.csq with
                 state := .waitBuffer,
                 capture := some { c with pos := c.pos + 1, hand := none, frames := 0, refine := .none } },
               pbf := { s.pbf with request := true } }
         (¬ ended →
           exec .intervalEnd s = .next s ∧
           exec .frameStart s =
             .next { u with csq := { s.csq with capture := some { c with frames := c.frames + 1 } } }) ∧
         (ended → exec .intervalEnd s = .next next ∧ exec .frameStart s = .next next))

/-! ## Picture buffer and intake -/

/-- The intake port (R164 to R167, R152): a strobe puts its byte at the tail of the FIFO, or, with 4,096 bytes waiting,
counts in the gap mark at the tail. The engine takes the head of the FIFO; with an empty FIFO nothing happens (the
model's choice, logs 3 and 25). In SEEK the marker A5 C3 leads to HEADER, and the first byte of a run that is neither
raises STRAY; six bytes are gathered and judged: BAD_LENGTH, ORDER, too long for the reserved pages, or accepted, the
record FILLING. In DATA a byte goes to its place in the record's pages and every other byte of the memory stays; a byte
that begins a page draws a reserved one; the last byte makes the record COMPLETE, its unused pages return (to the
pool's tail, log 11), it joins the store queue and CSQ is told, as CSQ is of an overflow. In DRAIN a byte is counted
off. A gap mark drops the picture in DATA, is counted off in DRAIN, abandons the header in HEADER and is removed in
SEEK. Outside DATA no byte of the memory changes. -/
def Obligations.IntakeBytes : Prop :=
  (∀ (b : Byte) (s : State),
    (s.fifoBytes < 4096 →
      exec (.intakeStrobe b) s = .next { s with pbf := { s.pbf with fifo := s.pbf.fifo ++ [.byte b] } }) ∧
    (4096 ≤ s.fifoBytes →
      (∀ front n, s.pbf.fifo = front ++ [.gap n] →
        exec (.intakeStrobe b) s = .next { s with pbf := { s.pbf with fifo := front ++ [.gap (n + 1)] } }) ∧
      (∀ front c, s.pbf.fifo = front ++ [.byte c] →
        exec (.intakeStrobe b) s = .next { s with pbf := { s.pbf with fifo := s.pbf.fifo ++ [.gap 1] } }))) ∧
  (∀ s : State, s.pbf.fifo = [] → exec .intakeEngineByte s = .next s) ∧
  (∀ s u : State, (∀ id, s.pbf.engine ≠ .data id) → exec .intakeEngineByte s = .next u →
    u.pbf.memory = s.pbf.memory) ∧
  ∀ (s : State) (item : FifoItem) (rest : List FifoItem), s.pbf.fifo = item :: rest →
    let takes (u : State) : Prop := exec .intakeEngineByte s = .next u
    let moved (e : Engine) : State := { s with pbf := { s.pbf with fifo := rest, engine := e } }
    let drains (n : Nat) : Engine := if n = 0 then .seek false false else .drain n
    let noted (u : State) (condition : Condition) (detail : Nat) : State :=
      let ours (n : Notice) : Bool :=
        match n with
        | .attention source _ _ _ => source == .intake
        | _ => false
      { u with opt := { u.opt with
          outbox :=
            if u.opt.outbox.any ours then
              u.opt.outbox.map fun n =>
                match n with
                | .attention source c d count =>
                  if source = .intake then .attention .intake condition detail (min 255 (count + 1))
                  else .attention source c d count
                | m => m
            else u.opt.outbox ++ [.attention .intake condition detail 1] } }
    let freed (u : State) (id : Nat) (r : PicRecord) : State :=
      { u with pbf := { u.pbf with freePages := u.pbf.freePages ++ (r.pages ++ r.reserved),
                                   records := u.pbf.records.erase r },
               csu := { u.csu with queue := u.csu.queue.filter fun p => p != id } }
    let outcomes (c : Capture) (id : Nat) (o : PictureOutcome) : List Picture :=
      c.pictures.map fun p => if p.id = id ∧ p.outcome = none then { p with outcome := some o } else p
    let overflows (u : State) (id : Nat) : Prop :=
      ∀ c ids, s.csq.pendingIntake = id :: ids → s.csq.capture = some c → s.csq.state = .exposing →
        takes
          { u with csq := { s.csq with
              pendingIntake := ids,
              capture := some
                { c with pictures := outcomes c id .dropped,
                         failure := some (c.failure.getD (.terminated, .intakeOverflow)) } } }
    (∀ b, item = .byte b →
      (∀ raised, s.pbf.engine = .seek false raised →
        (b = 0xA5#8 → takes (moved (.seek true raised))) ∧
        (b ≠ 0xA5#8 →
          (raised = true → takes (moved (.seek false true))) ∧
          (raised = false → takes (noted (moved (.seek false true)) .stray 0)))) ∧
      (∀ raised, s.pbf.engine = .seek true raised →
        (b = 0xC3#8 → takes (moved (.header []))) ∧
        (b ≠ 0xC3#8 →
          let e := Engine.seek (b == 0xA5#8) true
          (raised = true → takes (moved e)) ∧ (raised = false → takes (noted (moved e) .stray 0)))) ∧
      (∀ bytes, s.pbf.engine = .header bytes → bytes.length < 5 → takes (moved (.header (bytes ++ [b])))) ∧
      (∀ n, s.pbf.engine = .drain n → takes (moved (drains (n - 1)))) ∧
      (∀ i0 i1 l0 l1 l2, s.pbf.engine = .header [i0, i1, l0, l1, l2] →
        let id := 256 * i0.toNat + i1.toNat
        let len := 16777216 * l0.toNat + 65536 * l1.toNat + 256 * l2.toNat + b.toNat
        (len = 0 → takes (noted (moved (.seek false false)) .badLength id)) ∧
        (len ≠ 0 → s.csq.pendingIntake.head? ≠ some id → takes (noted (moved (.drain len)) .order id)) ∧
        ∀ r, len ≠ 0 → s.csq.pendingIntake.head? = some id → s.record id = some r →
          (65536 * r.reserved.length < len → overflows (freed (moved (.drain len)) id r) id) ∧
          (len ≤ 65536 * r.reserved.length →
            takes
              { s with pbf := { s.pbf with
                  fifo := rest, engine := .data id,
                  records := updateFirst (fun q => q.id == id)
                    (fun q => { q with state := .filling, length := some len, received := 0 }) s.pbf.records } })) ∧
      ∀ id r n, s.memorySound → s.pbf.engine = .data id → s.record id = some r → r.length = some n →
        let stored (m : List Host.Cell) (page : Nat) : Prop :=
          ∀ a, readCell m a = if a = page * 65536 + r.received % 65536 then b else readCell s.pbf.memory a
        let filled (m : List Host.Cell) (q : PicRecord) : State :=
          { s with pbf := { s.pbf with
              fifo := rest, memory := m, records := updateFirst (fun q => q.id == id) (fun _ => q) s.pbf.records } }
        (∀ page, r.received + 1 < n → r.received % 65536 ≠ 0 → r.pages[r.received / 65536]? = some page →
          page < 2048 → ∃ m, stored m page ∧ takes (filled m { r with received := r.received + 1 })) ∧
        (∀ page pages, r.received + 1 < n → r.received % 65536 = 0 → r.pages.length = r.received / 65536 →
          r.reserved = page :: pages → page < 2048 →
            ∃ m, stored m page ∧
              takes
                (filled m { r with received := r.received + 1, pages := r.pages ++ [page], reserved := pages })) ∧
        ∀ page c ids, r.received + 1 = n → r.received % 65536 ≠ 0 → r.pages[r.received / 65536]? = some page →
          page < 2048 → s.csq.pendingIntake = id :: ids → s.csq.capture = some c → s.csq.state = .exposing →
            ∃ m, stored m page ∧
              takes
                { s with
                    pbf := { s.pbf with
                      fifo := rest, memory := m, engine := .seek false false,
                      freePages := s.pbf.freePages ++ r.reserved,
                      records := updateFirst (fun q => q.id == id)
                        (fun _ => { r with received := n, state := .complete, reserved := [] }) s.pbf.records },
                    csu := { s.csu with queue := s.csu.queue ++ [id] },
                    opt := { s.opt with
                      table := s.opt.table.map fun e =>
                        if e.tag = c.tag then { e with done := min 65535 (e.done + 1) } else e },
                    csq := { s.csq with
                      pendingIntake := ids, capture := some { c with pictures := outcomes c id .ingested } } }) ∧
    ∀ lost, item = .gap lost →
      (∀ a raised, s.pbf.engine = .seek a raised → takes (moved (.seek a raised))) ∧
      (∀ bytes, s.pbf.engine = .header bytes → takes (noted (moved (.seek false false)) .headerLost 0)) ∧
      (∀ n, s.pbf.engine = .drain n → takes (moved (drains (n - lost)))) ∧
      ∀ id r n, s.pbf.engine = .data id → s.record id = some r → r.length = some n →
        overflows (freed (moved (drains (n - r.received - lost))) id r) id

/-- PICTURE-READ and PICTURE-DROP (R168, R169, R186, R202, R203): an id without a record is refused NO_SUCH;
PICTURE-READ answers the record's fields, the shot record of 14 bytes or absent among them, and changes nothing else
(that the capture tag takes 1 byte and the bytes received take 4, and the form of an absent shot record, are log 20;
R203 and section 12.7 name no such items); PICTURE-DROP is refused BUSY while the record is RESERVED, FILLING or its
STORED notice is on its way, frees a COMPLETE record and its pages (to the pool's tail, log 11), makes a STORING one
DISCARDING, which the store drops at its next boundary while it writes, by the fault record's continuation while it is
FAULTED, and at once while it is PAUSED or DISABLED, the fragments back in its pool; and is answered for a DISCARDING
one. -/
def Obligations.PictureRequests : Prop :=
  (∀ (tag picture : Nat) (s t : State), s.reaches (.pictureRead tag picture) tag t →
    (t.record picture = none →
      exec (.pictureRead tag picture) s = .next (t.reply tag (.refused .noSuch 0))) ∧
    ∀ r, t.record picture = some r →
      exec (.pictureRead tag picture) s =
        .next
          (t.reply tag
            (.done
              (put2 r.id ++ put1 r.tag ++ put1 r.pos ++
                (match r.state with
                 | .reserved => [0#8]
                 | .filling => [1#8]
                 | .complete => [2#8]
                 | .storing => [3#8]
                 | .discarding => [4#8]) ++
                put2 r.reserved.length ++ put2 r.pages.length ++ putOption4 r.length ++ put4 r.received ++
                (match r.shot with
                 | some h =>
                   putSigned h.tv ++ putSigned h.av ++ putSigned h.gv ++ put2 h.focal ++ put2 h.d ++
                     put1 (stuStateCode h.stu) ++ [if h.late then 1#8 else 0#8] ++ put2 h.frame
                 | none => List.replicate 14 0xFF#8))))) ∧
  ∀ (tag picture : Nat) (s t : State), s.reaches (.pictureDrop tag picture) tag t →
    (t.record picture = none →
      exec (.pictureDrop tag picture) s = .next (t.reply tag (.refused .noSuch 0))) ∧
    ∀ r, t.record picture = some r →
      (r.state = .reserved → exec (.pictureDrop tag picture) s = .next (t.reply tag (.refused .busy 0))) ∧
      (r.state = .filling → exec (.pictureDrop tag picture) s = .next (t.reply tag (.refused .busy 1))) ∧
      (r.state = .complete →
        exec (.pictureDrop tag picture) s =
          .next
            (State.reply
              { t with
                  pbf := { t.pbf with freePages := t.pbf.freePages ++ (r.pages ++ r.reserved),
                                      records := t.pbf.records.erase r },
                  csu := { t.csu with queue := t.csu.queue.filter fun p => p != picture } }
              tag (.done [0#8]))) ∧
      (r.state = .storing → t.storedInFlight picture = true →
        exec (.pictureDrop tag picture) s = .next (t.reply tag (.refused .busy 5))) ∧
      (r.state = .storing → t.storedInFlight picture = false → t.csu.store = .writing →
        exec (.pictureDrop tag picture) s =
          .next
            (State.reply
              { t with pbf := { t.pbf with
                  records := updateFirst (fun q => q.id == picture) (fun q => { q with state := .discarding })
                    t.pbf.records } }
              tag (.done [1#8]))) ∧
      (r.state = .storing → t.storedInFlight picture = false → t.csu.current = some picture →
        let records := updateFirst (fun q => q.id == picture) (fun q => { q with state := .discarding }) t.pbf.records
        (t.csu.store = .faulted →
          exec (.pictureDrop tag picture) s =
            .next
              (State.reply
                { t with
                    pbf := { t.pbf with records := records },
                    csu := { t.csu with fault := t.csu.fault.map fun f => { f with continuation := .drop } } }
                tag (.done [1#8]))) ∧
        let fragments := match t.csu.placement with | some p => p.fragments | none => []
        let pool := addExtents t.csu.pool
          (fragments.map fun f => { start := f.start, len := f.clusters * t.csu.cluster })
        (t.csu.store = .paused ∨ t.csu.store = .disabled → pool.length ≤ 64 →
          exec (.pictureDrop tag picture) s =
            .next
              (State.reply
                { t with
                    pbf := { t.pbf with freePages := t.pbf.freePages ++ (r.pages ++ r.reserved),
                                        records := records.erase { r with state := .discarding } },
                    csu := { t.csu with pool := pool, current := none, placement := none,
                                        queue := t.csu.queue.filter fun p => p != picture } }
                tag (.done [1#8])))) ∧
      (r.state = .discarding → exec (.pictureDrop tag picture) s = .next (t.reply tag (.done [1#8])))

/-! ## Card store -/

/-- The socket (R172, R188): a seated card is PRESENT with the write-protect level read, a removed one ABSENT with its
capacity and pool gone, each with its ATTENTION; a level seen already is no change (the model's choice, log 3). A
removal leaves an idle store DISABLED, and turns the writing of a record that is not DISCARDING into a fault of format
2 (that ATTENTION CARD joins the outbox before ATTENTION STORE is the model's choice, log 59). The write-protect
switch sets and clears the flag of a PRESENT card, with its ATTENTION, and moves an OPENED card to PROTECTED and back;
that a change with the level a PRESENT card's flag has already raises none is the model's choice (log 80). -/
def Obligations.CardSocket : Prop :=
  (∀ (level : Bool) (s : State), s.csu.card = .absent →
    exec (.cardDetectChange false level) s = .next s ∧
    exec (.cardDetectChange true level) s =
      .next
        (State.attention
          { s with csu := { s.csu with card := .present, cdet := true, cwp := level, protect := level } }
          .card .inserted (if level then 1 else 0)) ∧
    exec (.writeProtectChange level) s = .next { s with csu := { s.csu with cwp := level } }) ∧
  (∀ (level : Bool) (s : State), s.csu.card ≠ .absent →
    exec (.cardDetectChange true level) s = .next s ∧
    (s.csu.opening = none → s.hasKind .storeHold = false →
      let gone : Csu :=
        { s.csu with card := .absent, cdet := false, capacity := none, pool := [], awaiting := none, exchange := none,
                     stopBusy := false }
      (s.csu.current = none → s.csu.store = .idle ∨ s.csu.store = .disabled →
        exec (.cardDetectChange false level) s =
          .next
            (State.attention { s with csu := { gone with placement := none, store := .disabled, restarted := false } }
              .card .removed 0)) ∧
      (∀ id p, s.csu.current = some id → s.csu.placement = some p → s.csu.store = .writing → s.discarding = false →
        exec (.cardDetectChange false level) s =
          .next
            (State.attention
              (State.attention
                { s with csu := { gone with
                    store := .faulted, restarted := false,
                    fault := some
                      { format := 2, picture := id, written := p.written + p.ahead.length, place := none, response := none,
                        continuation := .none, repeats := 0, writeBacks := [] } } }
                .card .removed 0)
              .store .fault 2)))) ∧
  ∀ s : State,
    (∀ level : Bool, s.csu.card = .present →
      (s.csu.protect = level → exec (.writeProtectChange level) s = .next { s with csu := { s.csu with cwp := level } }) ∧
      (s.csu.protect ≠ level →
        exec (.writeProtectChange level) s =
          .next
            (State.attention { s with csu := { s.csu with cwp := level, protect := level } } .card
              (if level then .protectOn else .protectOff) 0))) ∧
    (s.csu.card = .opened →
      exec (.writeProtectChange false) s = .next { s with csu := { s.csu with cwp := false } } ∧
      exec (.writeProtectChange true) s =
        .next
          (State.attention { s with csu := { s.csu with cwp := true, protect := true, card := .protect } }
            .card .protectOn 0)) ∧
    (s.csu.card = .protect →
      exec (.writeProtectChange true) s = .next { s with csu := { s.csu with cwp := true } } ∧
      exec (.writeProtectChange false) s =
        .next
          (State.attention { s with csu := { s.csu with cwp := false, protect := false, card := .opened } }
            .card .protectOff 0))

/-- CARD-OPEN and its three stages (R173, R174): its refusals in their order; accepted, the reset command is sent on
the slow clock, a stop command or busy still in progress abandoned (log 77); a poll asks again while the card is not
ready; ready, identity and bus width each end a stage and a unit, the last leaving the card OPENED (PROTECTED with the
switch on) on the wide bus and full clock with the ending OPENED; the reset timeout and an unanswered command end it
NO_RESPONSE (that the first one does, in stage 1 too, is log 68). An event whose condition does not hold leaves
everything as it is (the model's choice, log 3). -/
def Obligations.CardOpening : Prop :=
  (∀ (tag : Nat) (s t : State), s.reaches (.cardOpen tag) tag t →
    let refused (code : Code) (detail : Nat) : Prop :=
      exec (.cardOpen tag) s = .next (t.reply tag (.refused code detail))
    (t.csu.cdet = false → refused .noCard 0) ∧
    (t.csu.cdet = true → t.hasKind .cardOpen = true → refused .busy 0) ∧
    (t.csu.cdet = true → t.hasKind .cardOpen = false →
      (t.csu.store ≠ .disabled → t.csu.store ≠ .faulted → refused .wrongState (storeStateCode t.csu.store)) ∧
      (t.csu.store = .disabled ∨ t.csu.store = .faulted → t.hasRoom tag →
        let w := t.accepted tag .cardOpen .running (some 3)
        exec (.cardOpen tag) s =
          .next
            { w with csu := { w.csu with
                card := .present, capacity := none, opening := some 1, awaiting := some .reset, clockFull := false,
                exchange := none, stopBusy := false } }))) ∧
  ∀ s : State,
    (s.csu.awaiting = none →
      exec .cardCommandTimeout s = .next s ∧ ∀ r, exec (.cardResponse r) s = .next s) ∧
    (s.csu.opening ≠ some 1 → exec .cardResetTimeout s = .next s ∧ exec .conditionQueryPoll s = .next s) ∧
    (s.csu.opening = some 1 → s.csu.awaiting = none →
      exec .conditionQueryPoll s = .next { s with csu := { s.csu with awaiting := some .conditionQuery } }) ∧
    ∀ e, s.entryOfKind .cardOpen = some e → s.entry e.tag = some e → e.state ≠ .stopping →
      let counted : Opt :=
        { s.opt with table := s.opt.table.map fun f =>
            if f.tag = e.tag then { f with done := min 65535 (f.done + 1) } else f }
      let ended (units stage code : Nat) (capacity : Option Nat) (csu : Csu) : State :=
        { s with
            csu := { csu with opening := none, awaiting := none },
            opt := { table := s.opt.table.filter (fun f => f.tag != e.tag),
                     outbox := s.opt.outbox ++
                       [.ending { tag := e.tag, kind := e.kind, cls := .complete, cause := .none, done := units,
                                  resume := .absent, result := some code,
                                  fields := .cardOpen stage capacity s.csu.protect }] } }
      (s.csu.opening = some 1 → s.csu.awaiting = some .conditionQuery →
        exec (.cardResponse .notReady) s = .next { s with csu := { s.csu with awaiting := none } } ∧
        exec (.cardResponse .ready) s =
          .next { s with opt := counted, csu := { s.csu with opening := some 2, awaiting := some .identity } }) ∧
      (s.csu.opening = some 2 → s.csu.awaiting = some .identity → ∀ capacity, capacity ≠ 0 →
        exec (.cardResponse (.identity 512 capacity)) s =
          .next
            { s with opt := counted,
                     csu := { s.csu with opening := some 3, awaiting := some .select,
                                         capacity := some capacity } }) ∧
      (s.csu.opening = some 3 → s.csu.awaiting = some .select →
        exec (.cardResponse .accepted) s = .next { s with csu := { s.csu with awaiting := some .busWidth } }) ∧
      (s.csu.opening = some 3 → s.csu.awaiting = some .busWidth →
        exec (.cardResponse .accepted) s =
          .next
            (ended (min 65535 (e.done + 1)) 3 0 s.csu.capacity
              { s.csu with wide := true, clockFull := true,
                           card := if s.csu.protect then .protect else .opened })) ∧
      (s.csu.opening = some 1 →
        exec .cardResetTimeout s = .next (ended e.done 1 1 none { s.csu with capacity := none })) ∧
      ∀ stage, s.csu.opening = some stage → s.csu.awaiting ≠ none →
        exec .cardCommandTimeout s = .next (ended e.done stage 1 none { s.csu with capacity := none })

/-- STORE-SET and EXTENTS-GIVE (R160, R175, R176, R177, R181): the cluster size is one of six and changes only while
no card space is in the part's keeping, R is 1 to 512 pages; extents are refused for the first that is no whole
clusters, ends beyond the capacity, overlaps an earlier one, or overlaps the pool or the placement; those on an opened
card that pass enter the pool, which then holds exactly the blocks it held and those given; in WAIT_SPACE the store
then places its record again: with space it is WRITING, or PAUSED with the card PROTECTED, without it, or where the
walk takes more than 16 extents, NEED_SPACE is raised anew. That a DONE sends the clusters of the pool modulo 65,536
is log 73, and that it sends the pool before such a placement takes from it is log 75. The clusters needed are the
length in clusters rounded up; the walk takes whole extents from the front of the pool, and of the last one the low
end, the rest staying with its start moved up. -/
def Obligations.StoreSettings : Prop :=
  (∀ (tag cluster pages : Nat) (s t : State), s.reaches (.storeSet tag cluster pages) tag t →
    let refused (code : Code) (detail : Nat) : Prop :=
      exec (.storeSet tag cluster pages) s = .next (t.reply tag (.refused code detail))
    (cluster ∉ [8, 16, 32, 64, 128, 256] → refused .field 1) ∧
    (cluster ∈ [8, 16, 32, 64, 128, 256] →
      (pages < 1 ∨ 512 < pages → refused .field 2) ∧
      (1 ≤ pages → pages ≤ 512 →
        let kept := t.csu.store ≠ .disabled ∨ t.csu.pool ≠ [] ∨ t.csu.placement ≠ none ∨ t.csu.fault ≠ none
        (cluster ≠ t.csu.cluster → kept → refused .wrongState (storeStateCode t.csu.store)) ∧
        (cluster = t.csu.cluster ∨ ¬ kept →
          exec (.storeSet tag cluster pages) s =
            .next
              (State.reply
                { t with csu := { t.csu with cluster := cluster }, pbf := { t.pbf with reserve := pages } }
                tag (.done (put2 cluster ++ put2 pages))))))) ∧
  (∀ (tag : Nat) (es : List Extent) (s t : State), s.reaches (.extentsGive tag es) tag t →
    let refused (code : Code) (detail : Nat) : Prop :=
      exec (.extentsGive tag es) s = .next (t.reply tag (.refused code detail))
    let fragments := match t.csu.placement with | some p => p.fragments | none => []
    let taken : List Extent :=
      t.csu.pool ++ fragments.map fun f => { start := f.start, len := f.clusters * t.csu.cluster }
    (t.csu.card = .absent ∨ t.csu.card = .present → refused .noCard 0) ∧
    (t.csu.card = .opened ∨ t.csu.card = .protect →
      (es = [] ∨ 16 < es.length → refused .field 0) ∧
      ∀ k e, es[k]? = some e → es.length ≤ 16 →
        (∀ j f, j < k → es[j]? = some f → f.len ≠ 0 ∧ f.len % t.csu.cluster = 0) →
        e.len = 0 ∨ e.len % t.csu.cluster ≠ 0 → refused .field (k + 1)) ∧
    (t.csu.card = .opened ∨ t.csu.card = .protect → es ≠ [] → es.length ≤ 16 →
      (∀ e ∈ es, e.len ≠ 0 ∧ e.len % t.csu.cluster = 0) →
      let apart (a b : Extent) : Prop := a.start + a.len ≤ b.start ∨ b.start + b.len ≤ a.start
      let inside (e : Extent) : Prop := e.start + e.len ≤ t.csu.capacity.getD 0
      (∀ k e, es[k]? = some e → ¬ inside e → (∀ j f, j < k → es[j]? = some f → inside f) → refused .range (k + 1)) ∧
      ((∀ e ∈ es, inside e) →
        (∀ k e j f, es[k]? = some e → j < k → es[j]? = some f → ¬ apart f e →
          (∀ m g i h, m < k → es[m]? = some g → i < m → es[i]? = some h → apart h g) → refused .overlap (k + 1)) ∧
        (es.Pairwise apart → ∀ k e, ∀ x ∈ taken, es[k]? = some e → ¬ apart x e →
          (∀ j f, j < k → es[j]? = some f → ∀ y ∈ taken, apart y f) → refused .overlap (k + 1)))) ∧
    (t.csu.card = .opened ∨ t.csu.card = .protect → es ≠ [] → es.length ≤ 16 →
      (∀ e ∈ es, e.len ≠ 0 ∧ e.len % t.csu.cluster = 0 ∧ e.start + e.len ≤ t.csu.capacity.getD 0) →
      es.Pairwise (fun a b => a.start + a.len ≤ b.start ∨ b.start + b.len ≤ a.start) →
      (∀ e ∈ es, ∀ x ∈ taken, x.start + x.len ≤ e.start ∨ e.start + e.len ≤ x.start) →
      let pool := addExtents t.csu.pool es
      (64 < pool.length → refused .poolFull pool.length) ∧
      (pool.length ≤ 64 → t.csu.store ≠ .waitSpace →
        exec (.extentsGive tag es) s =
          .next
            (State.reply { t with csu := { t.csu with pool := pool } } tag
              (.done (put2 pool.length ++ put2 ((pool.map (·.len)).sum / t.csu.cluster))))) ∧
      ∀ id r n, pool.length ≤ 64 → t.csu.store = .waitSpace → t.csu.current = some id → t.record id = some r →
        r.length = some n →
          let need := clustersFor t.csu.cluster n
          let answered (csu : Csu) : State :=
            State.reply { t with csu := csu } tag
              (.done (put2 pool.length ++ put2 ((pool.map (·.len)).sum / t.csu.cluster)))
          ((∀ fs left, walkPool t.csu.cluster need pool = some (fs, left) → 16 < fs.length) →
            exec (.extentsGive tag es) s =
              .next (State.attention (answered { t.csu with pool := pool }) .store .needSpace need)) ∧
          ∀ f more left, walkPool t.csu.cluster need pool = some (f :: more, left) → more.length < 16 →
            let placement : Placement :=
              { fragments := f :: more, written := 0, ahead := [], retries := 0, writeBacks := [], deferred := .none,
                repeats := 0 }
            (t.csu.card = .opened → 0 < f.clusters → t.csu.stopBusy = false → t.csu.awaiting ≠ some .stop →
              exec (.extentsGive tag es) s =
                .next
                  (answered
                    { t.csu with
                        pool := left, store := .writing, restarted := false, placement := some placement,
                        exchange := some
                          { first := 0, clusters := f.clusters, accepted := 0, busy := false, counted := 0 },
                        awaiting := some (.blockCount (f.clusters * t.csu.cluster)) })) ∧
            (t.csu.card = .protect → t.hasKind .storeHold = false →
              exec (.extentsGive tag es) s =
                .next
                  (answered { t.csu with pool := left, store := .paused, placement := some placement })))) ∧
  (∀ cluster length k : Nat, 0 < cluster → (clustersFor cluster length ≤ k ↔ length ≤ k * (cluster * 512))) ∧
  (∀ (cluster need : Nat) (pool : List Extent), 0 < cluster → 0 < need →
    let holds (l : List Extent) : Nat := (l.map fun e => e.len / cluster).sum
    (holds pool < need → walkPool cluster need pool = none) ∧
    ∀ front e rest, pool = front ++ e :: rest → holds front < need → need ≤ holds front + e.len / cluster →
      let last := need - holds front
      walkPool cluster need pool =
        some
          (front.map (fun x => { start := x.start, clusters := x.len / cluster }) ++ [{ start := e.start, clusters := last }],
            if last = e.len / cluster then rest
            else { start := e.start + last * cluster, len := e.len - last * cluster } :: rest)) ∧
  ∀ (pool es : List Extent) (b : Nat),
    (∃ x ∈ addExtents pool es, x.start ≤ b ∧ b < x.start + x.len) ↔
      ∃ x ∈ pool ++ es, x.start ≤ b ∧ b < x.start + x.len

/-- STORE-ON, STORE-HOLD and the taking of a record (R178 to R182): the refusals of STORE-ON; a DISABLED or PAUSED
store with nothing at hand becomes IDLE, another answers its state. STORE-HOLD ends DISABLED at once in DISABLED,
PAUSED in IDLE, PAUSED and WAIT_SPACE, and waits in WRITING, NOTIFYING and FAULTED, a continuation NONE becoming HOLD
(R189). An IDLE store takes the head of its queue, which becomes STORING: with space its fragments leave the pool and
the first exchange is declared to the card, without it the store is in WAIT_SPACE with ATTENTION. That an ending
DISABLED counts no unit and an ending PAUSED one is the model's choice (log 35), as is STORE_TAKE_RECORD as a command
of its own (logs 3 and 5). -/
def Obligations.StoreHoldsAndTakes : Prop :=
  (∀ (tag : Nat) (s t : State), s.reaches (.storeOn tag) tag t →
    let refused (code : Code) (detail : Nat) : Prop := exec (.storeOn tag) s = .next (t.reply tag (.refused code detail))
    (t.csu.card = .protect → refused .protect 0) ∧ (t.csu.card = .absent → refused .noCard 0) ∧
    (t.csu.card = .present → refused .noCard 1) ∧
    (t.csu.card = .opened →
      (t.csu.store = .faulted → refused .wrongState 7) ∧
      (t.csu.store = .disabled ∨ t.csu.store = .paused → t.csu.current = none → t.csu.queue = [] →
        exec (.storeOn tag) s =
          .next (State.reply { t with csu := { t.csu with store := .idle } } tag (.done [1#8]))) ∧
      (t.csu.store ≠ .faulted → t.csu.store ≠ .disabled → t.csu.store ≠ .paused →
        exec (.storeOn tag) s = .next (t.reply tag (.done [byteOf (storeStateCode t.csu.store)]))))) ∧
  (∀ (tag : Nat) (s t : State), s.reaches (.storeHold tag) tag t →
    (t.hasKind .storeHold = true → exec (.storeHold tag) s = .next (t.reply tag (.refused .busy 0))) ∧
    (t.hasKind .storeHold = false → t.hasRoom tag →
      let current := t.csu.current.map fun id => (id, match t.csu.placement with | some p => p.written + p.ahead.length | none => 0)
      let ended (store : StoreState) (units code : Nat) : State :=
        { t with
            csu := { t.csu with
              store := store,
              placement := t.csu.placement.map fun p =>
                if p.deferred = .hold then { p with deferred := .none } else p },
            lif := { t.lif with replies := t.lif.replies ++ [{ tag := tag, body := .accepted .storeHold }] },
            opt := { t.opt with outbox := t.opt.outbox ++
              [.ending { tag := tag, kind := .storeHold, cls := .complete, cause := .none, done := units,
                         resume := .absent, result := some code,
                         fields := .storeHold store current t.csu.queue.length }] } }
      (t.csu.store = .disabled → exec (.storeHold tag) s = .next (ended .disabled 0 1)) ∧
      (t.csu.store = .idle ∨ t.csu.store = .paused ∨ t.csu.store = .waitSpace →
        exec (.storeHold tag) s = .next (ended .paused 1 0)) ∧
      (t.csu.store = .writing ∨ t.csu.store = .notifying →
        exec (.storeHold tag) s = .next (t.accepted tag .storeHold .waiting (some 1))) ∧
      (t.csu.store = .faulted →
        let w := t.accepted tag .storeHold .waiting (some 1)
        exec (.storeHold tag) s =
          .next
            { w with csu := { w.csu with
                fault := w.csu.fault.map fun h =>
                  { h with continuation := if h.continuation = .none then .hold else h.continuation } } }))) ∧
  (∀ s : State, s.csu.store ≠ .idle ∨ s.csu.queue = [] → exec .storeTakeRecord s = .next s) ∧
  ∀ (s : State) (id : Nat) (rest : List Nat) (r : PicRecord) (n : Nat), s.csu.store = .idle →
    s.csu.queue = id :: rest → s.record id = some r → r.length = some n → s.csu.card = .opened →
      let need := clustersFor s.csu.cluster n
      let storing : Pbf :=
        { s.pbf with
            records := updateFirst (fun q => q.id == id) (fun q => { q with state := .storing }) s.pbf.records }
      ((∀ fs left, walkPool s.csu.cluster need s.csu.pool = some (fs, left) → 16 < fs.length) →
        exec .storeTakeRecord s =
          .next
            (State.attention
              { s with pbf := storing,
                       csu := { s.csu with queue := rest, current := some id, store := .waitSpace } }
              .store .needSpace need)) ∧
      ∀ f more left, walkPool s.csu.cluster need s.csu.pool = some (f :: more, left) → 0 < f.clusters →
        more.length < 16 → s.csu.stopBusy = false → s.csu.awaiting ≠ some .stop →
        exec .storeTakeRecord s =
          .next
            { s with
                pbf := storing,
                csu := { s.csu with
                  queue := rest, current := some id, store := .writing, pool := left, restarted := false,
                  placement := some { fragments := f :: more, written := 0, ahead := [], retries := 0, writeBacks := [],
                                      deferred := .none, repeats := 0 },
                  exchange := some { first := 0, clusters := f.clusters, accepted := 0, busy := false, counted := 0 },
                  awaiting := some (.blockCount (f.clusters * s.csu.cluster)) } }

/-- The write exchange (R182 to R187, R189, R191): an accepted block count is followed by the write-multiple command
with the first block's number, and that by the blocks; an accepted stop command by a busy; a command unanswered, or
one refused (log 22), is a block fault of the cluster not yet written, which names its first block (log 69). An
accepted block makes the card busy, and no token is read before that ends (the model's choice, log 79); a CRC error
sends the stop command and repeats the cluster, up to twice; a write error, or a busy of more than 250 ms, is a block
fault of format 1 with its write-backs, the second one judged by the blocks of this exchange alone (log 70), its
continuation, and the repeat count of a RETRY while a write-back of it is still to be written (log 76). A busy that
ends within a cluster goes on with the next block; at a cluster boundary the cluster counts, and the first row that
applies is acted on: a drop is completed, its fragments back in the pool (its pages at the free pool's tail, log 11);
a RESTART leaves the store DISABLED (after a drop too: log 26); a waiting hold ends COMPLETE and, as a PROTECTED card
does, leaves it PAUSED; the last cluster leads to NOTIFYING and its STORED notice; the end of a fragment ends the
exchange, and the next begins when the stop command's busy is over; otherwise the exchange goes on. Between two
write-backs of a RETRY a deferred HOLD or DROP waits. That the store leaves its state at once, the stop command
running on behind it, and what a timeout of that command does then, is log 23. An event whose condition does not hold
leaves everything as it is (the model's choice, log 3). -/
def Obligations.WriteExchange : Prop :=
  (∀ (token : Token) (s : State), s.csu.exchange = none → exec (.blockStatusToken token) s = .next s) ∧
  (∀ s : State, s.csu.exchange = none → s.csu.stopBusy = false →
    exec .cardBusyEnd s = .next s ∧ exec .cardBusyTimeout s = .next s) ∧
  (∀ s : State, s.csu.opening = none →
    let goes (r : CardResponse) (awaiting : Option CardCommand) : Prop :=
      exec (.cardResponse r) s = .next { s with csu := { s.csu with awaiting := awaiting } }
    (∀ n e p b m, s.csu.awaiting = some (.blockCount n) → s.csu.exchange = some e → s.csu.placement = some p →
      clusterPlace s.csu.cluster p.fragments e.first = some (b, m) →
        goes .accepted (some (.writeMultiple b))) ∧
    (∀ b, s.csu.awaiting = some (.writeMultiple b) → goes .accepted none) ∧
    (s.csu.awaiting = some .stop →
      exec (.cardResponse .accepted) s =
        .next { s with csu := { s.csu with awaiting := none, stopBusy := true } }) ∧
    (∀ c, s.csu.awaiting = some c → s.csu.placement = none →
      exec .cardCommandTimeout s = .next { s with csu := { s.csu with awaiting := none } }) ∧
    ∀ c p b n id r, s.csu.awaiting = some c → s.csu.placement = some p →
      clusterPlace s.csu.cluster p.fragments p.written = some (b, n) →
      s.csu.store = .writing ∨ s.csu.store = .paused ∨ s.csu.store = .disabled → s.csu.current = some id →
      s.record id = some r → p.written < clustersOf p.fragments →
        let fault : State :=
          State.attention
            { s with csu := { s.csu with
                awaiting := none, store := .faulted, exchange := none, restarted := false,
                fault := some
                  { format := 1, picture := id, written := p.written + p.ahead.length,
                    place := some (p.written, b), response := some .timeout,
                    continuation :=
                      if r.state = .discarding then .drop else if s.hasKind .storeHold = true then .hold else .none,
                    repeats := if p.writeBacks = [] then 0 else p.repeats,
                    writeBacks := [{ cluster := p.written, block := b, valid := true }] } } }
            .store .fault 1
        exec .cardCommandTimeout s = .next fault ∧
        ((∃ n, c = .blockCount n) ∨ (∃ n, c = .writeMultiple n) ∨ c = .stop →
          exec (.cardResponse .refused) s = .next fault)) ∧
  (∀ s : State, s.csu.stopBusy = true →
    (s.csu.store ≠ .writing → exec .cardBusyEnd s = .next { s with csu := { s.csu with stopBusy := false } }) ∧
    (s.csu.placement = none →
      exec .cardBusyTimeout s = .next { s with csu := { s.csu with stopBusy := false } }) ∧
    ∀ p b n, s.csu.placement = some p → clusterPlace s.csu.cluster p.fragments p.written = some (b, n) →
      (s.csu.store = .writing → s.csu.awaiting = none →
        let m := if p.writeBacks = [] then n else 1
        exec .cardBusyEnd s =
          .next
            { s with csu := { s.csu with
                stopBusy := false, awaiting := some (.blockCount (m * s.csu.cluster)),
                exchange := some { first := p.written, clusters := m, accepted := 0, busy := false,
                                   counted := 0 } } }) ∧
      ∀ id r, s.csu.store = .writing ∨ s.csu.store = .paused ∨ s.csu.store = .disabled → s.csu.current = some id →
        s.record id = some r → r.state = .storing → s.hasKind .storeHold = false → p.writeBacks = [] →
        s.csu.exchange = none → p.written < clustersOf p.fragments →
          exec .cardBusyTimeout s =
            .next
              (State.attention
                { s with csu := { s.csu with
                    stopBusy := false, store := .faulted, restarted := false,
                    fault := some
                      { format := 1, picture := id, written := p.written + p.ahead.length,
                        place := some (p.written, b), response := some .timeout, continuation := .none, repeats := 0,
                        writeBacks := [{ cluster := p.written, block := b, valid := true }] } } }
                .store .fault 1)) ∧
  ∀ (s : State) (e : Exchange) (p : Placement) (id : Nat) (r : PicRecord), s.csu.exchange = some e →
    s.csu.placement = some p → s.csu.current = some id → s.record id = some r → s.csu.store = .writing →
    s.csu.awaiting = none → s.csu.stopBusy = false →
      let first (k : Nat) : Nat := ((clusterPlace s.csu.cluster p.fragments k).map (·.1)).getD 0
      let faulted (block sent : Nat) (response : FaultResponse) (awaiting : Option CardCommand) : State :=
        let two := (e.counted + 1) * s.csu.cluster < sent ∧ p.written + 1 < clustersOf p.fragments
        State.attention
          { s with csu := { s.csu with
              store := .faulted, exchange := none, awaiting := awaiting, restarted := false,
              fault := some
                { format := 1, picture := id, written := p.written + p.ahead.length,
                  place := some (p.written, block), response := some response,
                  continuation :=
                    if r.state = .discarding then .drop else if s.hasKind .storeHold = true then .hold else .none,
                  repeats := if p.writeBacks = [] then 0 else p.repeats,
                  writeBacks := { cluster := p.written, block := first p.written, valid := true } ::
                    (if two then [{ cluster := p.written + 1, block := first (p.written + 1), valid := true }]
                     else []) } } }
          .store .fault 1
      let blocks := e.clusters * s.csu.cluster
      (e.busy = false → e.accepted < blocks →
        exec (.blockStatusToken .accepted) s =
          .next
            { s with csu := { s.csu with exchange := some { e with accepted := e.accepted + 1, busy := true } } } ∧
        (p.retries < 2 →
          exec (.blockStatusToken .crcError) s =
            .next
              { s with csu := { s.csu with
                  exchange := none, awaiting := some .stop,
                  placement := some { p with retries := p.retries + 1 } } }) ∧
        (2 ≤ p.retries →
          exec (.blockStatusToken .crcError) s =
            .next (faulted (first e.first + e.accepted) (min blocks (e.accepted + 2)) .crcError (some .stop))) ∧
        exec (.blockStatusToken .writeError) s =
          .next (faulted (first e.first + e.accepted) (min blocks (e.accepted + 2)) .writeError (some .stop))) ∧
      (e.busy = true →
        let busyEnds (u : State) : Prop := exec .cardBusyEnd s = .next u
        exec .cardBusyTimeout s =
          .next (faulted (first e.first + (e.accepted - 1)) (min blocks (e.accepted + 1)) .timeout none) ∧
        (e.accepted % s.csu.cluster ≠ 0 →
          busyEnds { s with csu := { s.csu with exchange := some { e with busy := false } } }) ∧
        (e.accepted % s.csu.cluster = 0 →
          (p.writeBacks = [] ∨ p.writeBacks = [p.written] → p.ahead = [] ∨ p.ahead = [p.written + 1] →
            let n := if p.ahead = [] then p.written + 1 else p.written + 2
            let q : Placement := { p with written := n, ahead := [], retries := 0, repeats := 0, writeBacks := [] }
            let leaves (q : Placement) (store : StoreState) (restarted : Bool) (opt : Opt) : State :=
              { s with opt := opt,
                       csu := { s.csu with placement := some q, exchange := none, awaiting := some .stop,
                                           store := store, restarted := restarted } }
            let pool := addExtents s.csu.pool
              (p.fragments.map fun f => { start := f.start, len := f.clusters * s.csu.cluster })
            (r.state = .discarding → pool.length ≤ 64 →
              let dropped (store : StoreState) : State :=
                { s with
                    pbf := { s.pbf with freePages := s.pbf.freePages ++ (r.pages ++ r.reserved),
                                        records := s.pbf.records.erase r },
                    csu := { s.csu with
                      pool := pool, queue := s.csu.queue.filter fun x => x != id, current := none,
                      placement := none, exchange := none, awaiting := some .stop, store := store,
                      restarted := false } }
              s.hasKind .storeHold = false →
                (s.csu.restarted = true → busyEnds (dropped .disabled)) ∧
                (s.csu.restarted = false → s.csu.card = .protect → busyEnds (dropped .paused)) ∧
                (s.csu.restarted = false → s.csu.card = .opened → (s.csu.queue.filter fun x => x != id) = [] →
                  busyEnds (dropped .idle))) ∧
            (r.state = .storing →
              (s.csu.restarted = true → s.hasKind .storeHold = false → busyEnds (leaves q .disabled false s.opt)) ∧
              (s.csu.restarted = false →
                (s.csu.card = .protect → s.hasKind .storeHold = false →
                  busyEnds (leaves q .paused false s.opt)) ∧
                (∀ h, s.entryOfKind .storeHold = some h → s.entry h.tag = some h →
                  let forgot : Placement := if p.deferred = .hold then { q with deferred := .none } else q
                  busyEnds
                    (leaves forgot .paused false
                      { table := s.opt.table.filter fun f => f.tag != h.tag,
                        outbox := s.opt.outbox ++
                          [.ending { tag := h.tag, kind := h.kind, cls := .complete, cause := .none,
                                     done := min 65535 (h.done + 1), resume := .absent, result := some 0,
                                     fields := .storeHold .paused (some (id, n)) s.csu.queue.length }] })) ∧
                (s.csu.card = .opened → s.hasKind .storeHold = false →
                  (clustersOf p.fragments ≤ n →
                    busyEnds
                      (leaves q .notifying false
                        { s.opt with outbox := s.opt.outbox ++
                            [.stored id (r.length.getD 0) s.csu.cluster r.shot p.fragments] })) ∧
                  (n < clustersOf p.fragments → e.clusters ≤ e.counted + 1 →
                    busyEnds (leaves q .writing false s.opt)) ∧
                  (n < clustersOf p.fragments → e.counted + 1 < e.clusters →
                    busyEnds
                      { s with csu := { s.csu with
                          placement := some q,
                          exchange := some { e with busy := false, counted := e.counted + 1 } } }))))) ∧
          (p.writeBacks = [p.written, p.written + 1] → p.ahead = [] → s.csu.restarted = false →
            s.csu.card = .opened → p.written + 1 < clustersOf p.fragments → e.clusters = e.counted + 1 →
            (r.state = .storing ∧ (s.hasKind .storeHold = false ∨ p.deferred = .hold)) ∨
                (r.state = .discarding ∧ p.deferred = .drop) →
              busyEnds
                { s with csu := { s.csu with
                    placement := some { p with written := p.written + 1, retries := 0,
                                               writeBacks := [p.written + 1] },
                    exchange := none, awaiting := some .stop } })))

/-- FAULT-READ and FAULT-RETURN (R176, R187, R189 to R192): with no fault record both are refused NO_SUCH; FAULT-READ
answers the record in the layout of section 12.7 and changes nothing else; the checks of an edited record are refused
by their numbers, and a RETRY with the card not OPEN is refused NO_CARD. A RETRY of one write-back takes its
relocation out of the pool, re-cuts the fragments and writes that cluster again; with its flag cleared the cluster
counts as written and writing goes on behind it, or a continuation HOLD pauses the store and the waiting STORE-HOLD
ends COMPLETE, PAUSED; the second of two counts as written at once though the first is still to be written. A fault of
these writes takes the repeat count of the returned record plus one (R191), and the retry count is 0 (log 41); that
with every flag cleared the continuation is carried out at once, and that every flag but 0 counts as set, are the
model's choices (logs 72 and 71). A DROP frees the picture and its pages (to the pool's tail, log 11), a RESTART puts
it back at the head of the queue; then a continuation HOLD pauses the store with the same ending, and otherwise the
choice of a picture boundary follows. -/
def Obligations.FaultRequests : Prop :=
  (∀ (tag : Nat) (s t : State), s.reaches (.faultRead tag) tag t →
    (t.csu.fault = none → exec (.faultRead tag) s = .next (t.reply tag (.refused .noSuch 0))) ∧
    ∀ h, t.csu.fault = some h →
      let fragments := match t.csu.placement with | some p => p.fragments | none => []
      exec (.faultRead tag) s =
        .next
          (t.reply tag
            (.done
              (put1 h.format ++ put2 h.picture ++ put2 h.written ++ putOption2 (h.place.map (·.1)) ++
                putOption4 (h.place.map (·.2)) ++
                (match h.response with
                 | some .crcError => [1#8]
                 | some .writeError => [2#8]
                 | some .timeout => [3#8]
                 | none => [0xFF#8]) ++
                (match h.continuation with | .none => [0#8] | .hold => [1#8] | .drop => [2#8]) ++ put1 h.repeats ++
                put1 h.writeBacks.length ++
                h.writeBacks.flatMap (fun w =>
                  put2 w.cluster ++ put4 w.block ++ [if w.valid then 1#8 else 0#8] ++ List.replicate 4 0xFF#8) ++
                put1 fragments.length ++ fragments.flatMap (fun x => put4 x.start ++ put2 x.clusters))))) ∧
  (∀ (tag disposition : Nat) (f : FaultOperands) (s t : State),
    s.reaches (.faultReturn tag disposition f) tag t →
    let refused (code : Code) (detail : Nat) : Prop :=
      exec (.faultReturn tag disposition f) s = .next (t.reply tag (.refused code detail))
    (t.csu.fault = none → refused .noSuch 0) ∧
    ∀ h, t.csu.fault = some h →
      (2 < disposition → refused .field 0) ∧
      (disposition ≤ 2 → f.format ≠ h.format → refused .format 1) ∧
      (disposition ≤ 2 → f.format = h.format → f.picture ≠ h.picture → refused .format 2) ∧
      (disposition ≤ 2 → f.format = h.format → f.picture = h.picture →
        (f.continuation ≠ 0 → f.continuation ≠ continuationCode h.continuation → refused .format 3) ∧
        (f.continuation = 0 ∨ f.continuation = continuationCode h.continuation →
          let agree := h.writeBacks.length = f.writeBacks.length ∧
            ∀ (k : Nat) (a : WriteBack) (b : WriteBackOperand), h.writeBacks[k]? = some a → f.writeBacks[k]? = some b →
              a.cluster = b.cluster ∧ (b.valid ≠ 0 → a.valid = true)
          (¬ agree → refused .format 4) ∧
          (agree →
            let cluster := t.csu.cluster
            let fits := ∀ (k : Nat) (w : WriteBackOperand) (b : Nat), f.writeBacks[k]? = some w → w.relocation = some b →
              w.valid ≠ 0 ∧
                (∃ x ∈ t.csu.pool, x.start ≤ b ∧ b + cluster ≤ x.start + x.len ∧ (b - x.start) % cluster = 0) ∧
                ∀ (j : Nat) (v : WriteBackOperand) (a : Nat), j < k → f.writeBacks[j]? = some v → v.relocation = some a →
                  a + cluster ≤ b ∨ b + cluster ≤ a
            let moves := f.writeBacks.filterMap fun w => w.relocation.map fun b => (w.cluster, b)
            (disposition = 0 → h.format = 2 → refused .format 5) ∧
            (disposition = 0 → h.format ≠ 2 →
              (¬ fits → refused .format 6) ∧
              (fits → 16 < (recut cluster t.placed moves).length → refused .format 7) ∧
              (fits → (recut cluster t.placed moves).length ≤ 16 →
                (t.csu.card = .protect → refused .noCard 1) ∧
                (t.csu.card = .absent ∨ t.csu.card = .present → refused .noCard 0))) ∧
            let paused (u : State) (id : Option (Nat × Nat)) (e : OpEntry) : State :=
              { u with
                  csu := { u.csu with store := .paused },
                  opt := { table := t.opt.table.filter fun g => g.tag != e.tag,
                           outbox := t.opt.outbox ++
                             [.ending { tag := e.tag, kind := e.kind, cls := .complete, cause := .none,
                                        done := min 65535 (e.done + 1), resume := .absent, result := some 0,
                                        fields := .storeHold .paused id u.csu.queue.length }] } }
            let holds (e : OpEntry) : Prop :=
              f.continuation = 1 ∧ t.entryOfKind .storeHold = some e ∧ t.entry e.tag = some e
            let answers (u : State) : Prop := exec (.faultReturn tag disposition f) s = .next (u.reply tag (.done []))
            (∀ r p w, disposition = 0 → h.format ≠ 2 → fits → t.csu.card = .opened →
              t.record h.picture = some r → t.csu.current = some h.picture → t.csu.placement = some p →
              f.writeBacks = [w] → w.cluster = p.written → p.ahead = [] ∨ p.ahead = [p.written + 1] →
              let again : Pbf :=
                { t.pbf with
                    records := updateFirst (fun q => q.id == h.picture) (fun q => { q with state := .storing })
                      t.pbf.records }
              let repeats := min 255 (f.repeats + 1)
              (w.valid ≠ 0 → (recut cluster p.fragments moves).length ≤ 16 → f.continuation ≠ 2 →
                t.csu.stopBusy = false → t.csu.awaiting ≠ some .stop →
                p.written < clustersOf (recut cluster p.fragments moves) →
                let writes (pool : List Extent) : Prop :=
                  answers
                    { t with
                        pbf := again,
                        csu := { t.csu with
                          fault := none, pool := pool, store := .writing, restarted := false,
                          placement := some
                            { fragments := recut cluster p.fragments moves, written := p.written, ahead := p.ahead,
                              retries := 0, writeBacks := [w.cluster],
                              deferred := if f.continuation = 1 then .hold else .none, repeats := repeats },
                          exchange := some { first := p.written, clusters := 1, accepted := 0, busy := false,
                                             counted := 0 },
                          awaiting := some (.blockCount cluster) } }
                (w.relocation = none → t.csu.pool.length ≤ 64 → writes t.csu.pool) ∧
                ∀ b front x rest, w.relocation = some b → t.csu.pool = front ++ x :: rest →
                  (∀ y ∈ front, y.start + y.len ≤ b) → x.start ≤ b → b + cluster ≤ x.start + x.len →
                  (b - x.start) % cluster = 0 → 0 < cluster →
                    let pool := front ++
                      ((if b = x.start then [] else [{ start := x.start, len := b - x.start }]) ++
                        (if b + cluster = x.start + x.len then []
                         else [{ start := b + cluster, len := x.start + x.len - (b + cluster) }]) ++ rest)
                    pool.length ≤ 64 → writes pool) ∧
              (w.valid = 0 → w.relocation = none → p.fragments.length ≤ 16 → t.csu.pool.length ≤ 64 →
                let n := if p.ahead = [] then p.written + 1 else p.written + 2
                let q : Placement :=
                  { fragments := p.fragments, written := n, ahead := [], retries := 0, writeBacks := [],
                    deferred := .none, repeats := repeats }
                (∀ place, f.continuation = 0 → t.csu.stopBusy = false → t.csu.awaiting ≠ some .stop →
                  n < clustersOf p.fragments → clusterPlace cluster p.fragments n = some place →
                  answers
                    { t with
                        pbf := again,
                        csu := { t.csu with
                          fault := none, store := .writing, restarted := false, placement := some q,
                          exchange := some { first := n, clusters := place.2, accepted := 0, busy := false, counted := 0 },
                          awaiting := some (.blockCount (place.2 * cluster)) } }) ∧
                ∀ e, holds e →
                  answers
                    (paused
                      { t with pbf := again,
                               csu := { t.csu with fault := none, restarted := false, placement := some q } }
                      (some (h.picture, n)) e))) ∧
            (∀ r p w w', disposition = 0 → h.format ≠ 2 → fits → t.csu.card = .opened → t.record h.picture = some r →
              t.csu.current = some h.picture → t.csu.placement = some p → f.writeBacks = [w, w'] →
              w.cluster = p.written → w'.cluster = p.written + 1 → p.ahead = [] → w.valid ≠ 0 → w'.valid = 0 →
              w.relocation = none → p.fragments.length ≤ 16 → t.csu.pool.length ≤ 64 → f.continuation = 0 →
              t.csu.stopBusy = false → t.csu.awaiting ≠ some .stop → p.written < clustersOf p.fragments →
                answers
                  { t with
                      pbf := { t.pbf with
                        records := updateFirst (fun q => q.id == h.picture) (fun q => { q with state := .storing })
                          t.pbf.records },
                      csu := { t.csu with
                        fault := none, store := .writing, restarted := false,
                        placement := some
                          { fragments := p.fragments, written := p.written, ahead := [p.written + 1], retries := 0,
                            writeBacks := [p.written], deferred := .none, repeats := min 255 (f.repeats + 1) },
                        exchange := some { first := p.written, clusters := 1, accepted := 0, busy := false,
                                           counted := 0 },
                        awaiting := some (.blockCount cluster) } }) ∧
            ∀ r, t.record h.picture = some r →
              let dropped : State :=
                { t with
                    pbf := { t.pbf with freePages := t.pbf.freePages ++ (r.pages ++ r.reserved),
                                        records := t.pbf.records.erase r },
                    csu := { t.csu with fault := none, queue := t.csu.queue.filter fun p => p != h.picture,
                                        current := none, placement := none } }
              let queued : State :=
                { t with
                    pbf := { t.pbf with
                      records := updateFirst (fun q => q.id == h.picture)
                        (fun q => { q with state := .complete }) t.pbf.records },
                    csu := { t.csu with fault := none, queue := h.picture :: t.csu.queue, current := none,
                                        placement := none } }
              (disposition = 2 ∨ (disposition = 1 ∧ f.continuation = 2) →
                (f.continuation ≠ 1 → t.hasKind .storeHold = false →
                  (t.csu.card = .opened → t.csu.queue.filter (fun p => p != h.picture) = [] →
                    answers { dropped with csu := { dropped.csu with store := .idle } }) ∧
                  (t.csu.card = .absent ∨ t.csu.card = .present →
                    answers { dropped with csu := { dropped.csu with store := .disabled, restarted := false } })) ∧
                ∀ e, holds e → answers (paused dropped none e)) ∧
              (disposition = 1 → f.continuation ≠ 2 →
                (f.continuation = 0 → t.hasKind .storeHold = false → t.csu.card = .absent ∨ t.csu.card = .present →
                  answers { queued with csu := { queued.csu with store := .disabled, restarted := false } }) ∧
                ∀ e, holds e → answers (paused queued none e)))))) ∧
  ∀ (cluster k b start n : Nat) (front rest : List Fragment), clustersOf front ≤ k → k < clustersOf front + n →
    let j := k - clustersOf front
    recut cluster (front ++ { start := start, clusters := n } :: rest) [(k, b)] =
      front ++
        ((if j = 0 then [] else [{ start := start, clusters := j }]) ++
          { start := b, clusters := 1 } ::
            ((if j + 1 = n then [] else [{ start := start + (j + 1) * cluster, clusters := n - (j + 1) }]) ++ rest))

/-! ## What every step keeps -/

/-- The state after reset is sound: picture memory in its form, every page in the free pool, nothing tracked, no axis
stepping (R16, R25, R159, R170). -/
def Obligations.ResetSound : Prop :=
  State.reset.memorySound ∧ State.reset.pagesSound ∧ State.reset.trackedSound ∧ State.reset.slotsSound

/-- Every step keeps the picture memory in its one form, which is the model's own representation of R159's bytes (log
12); the state need not be one that a run reaches. -/
def Obligations.StepKeepsMemoryForm : Prop := ∀ s t : State, s.memorySound → step s = .next t → t.memorySound

/-- Every step keeps each of the 2,048 pages in one place: the free pool or one record (R159, R161, R163, R165). -/
def Obligations.StepConservesPages : Prop := ∀ s t : State, s.pagesSound → step s = .next t → t.pagesSound

/-- Every step keeps the operations tracked, in the table or by an ENDING not yet sent, at eight or fewer (R3, R4). -/
def Obligations.StepKeepsTracked : Prop := ∀ s t : State, s.trackedSound → step s = .next t → t.trackedSound

/-- Every step keeps the axes that hold a stepping slot at two or fewer (R25). -/
def Obligations.StepKeepsSlots : Prop := ∀ s t : State, s.slotsSound → step s = .next t → t.slotsSound
end

