-- ==== Sys2Proof/Laws/Memory.lean ====
section
/-! SUPPORT. The laws of picture memory (R159): the canonical form is kept, a byte written reads back, every other address
reads as before, and equal contents are equal lists. -/

namespace Sys2Proof.Machine

/-- An address below every listed one reads 0. -/
theorem readCell_below (cells : List Host.Cell) (k : Nat) (h : allAbove k cells = true) : readCell cells k = 0 := by
  induction cells with
  | nil => rfl
  | cons c rest ih =>
    obtain ⟨a, b⟩ := c
    simp only [allAbove, List.all_cons, Bool.and_eq_true, decide_eq_true_eq] at h
    rw [readCell, if_neg (by omega)]
    exact ih h.2

theorem allAbove_trans {j k : Nat} {cells : List Host.Cell} (h : allAbove k cells = true) (hj : j ≤ k) :
    allAbove j cells = true := by
  simp only [allAbove, List.all_eq_true, decide_eq_true_eq] at *
  intro c hc
  have := h c hc
  omega

/-- A write at an address above `j` leaves all addresses above `j`. -/
theorem allAbove_writeCell {j : Nat} {cells : List Host.Cell} (h : allAbove j cells = true) {k : Nat} (hk : j < k)
    (v : Byte) : allAbove j (writeCell cells k v) = true := by
  induction cells with
  | nil => unfold writeCell; split <;> simp [allAbove, hk]
  | cons c rest ih =>
    obtain ⟨a, b⟩ := c
    simp only [allAbove, List.all_cons, Bool.and_eq_true, decide_eq_true_eq] at h
    have ih := ih (by simpa [allAbove] using h.2)
    obtain ⟨ha, hr⟩ := h
    simp only [allAbove] at ih ⊢
    unfold writeCell
    (repeat' split) <;> simp [hk, ha, hr, ih, -List.all_eq_true]

/-- A write keeps the canonical form. -/
theorem writeCell_wf (cells : List Host.Cell) (k : Nat) (v : Byte) (h : Memory.wf cells = true) :
    Memory.wf (writeCell cells k v) = true := by
  induction cells with
  | nil => unfold writeCell; split <;> simp_all [Memory.wf, allAbove]
  | cons c rest ih =>
    obtain ⟨a, b⟩ := c
    simp only [Memory.wf, Bool.and_eq_true, bne_iff_ne] at h
    obtain ⟨⟨hb, ha⟩, hr⟩ := h
    have ih := ih hr
    unfold writeCell
    split
    · rename_i hk
      have hall : allAbove k rest = true := allAbove_trans ha (by omega)
      split
      · simp only [Memory.wf, ha, hr, bne_iff_ne.mpr hb, Bool.and_self]
      · rename_i hv
        have hka : allAbove k ((a, b) :: rest) = true := by
          simp only [allAbove, List.all_cons, decide_eq_true hk, Bool.true_and]
          exact hall
        simp only [Memory.wf, hka, ha, hr, bne_iff_ne.mpr hb, bne_iff_ne.mpr hv, Bool.and_self]
    · split
      · rename_i hk hka
        subst hka
        split
        · exact hr
        · rename_i hv
          simp only [Memory.wf, ha, hr, bne_iff_ne.mpr hv, Bool.and_self]
      · rename_i hk hka
        simp only [Memory.wf, Bool.and_eq_true, bne_iff_ne]
        exact ⟨⟨hb, allAbove_writeCell ha (by omega) v⟩, ih⟩

/-- A byte written reads back. -/
theorem readCell_writeCell_same (cells : List Host.Cell) (k : Nat) (v : Byte) (h : Memory.wf cells = true) :
    readCell (writeCell cells k v) k = v := by
  induction cells with
  | nil => unfold writeCell; split <;> simp_all [readCell]
  | cons c rest ih =>
    obtain ⟨a, b⟩ := c
    simp only [Memory.wf, Bool.and_eq_true, bne_iff_ne] at h
    obtain ⟨⟨hb, ha⟩, hr⟩ := h
    unfold writeCell
    split
    · rename_i hk
      split
      · rename_i hv
        rw [readCell, if_neg (by omega), readCell_below rest k (allAbove_trans ha (by omega)), hv]
      · simp [readCell]
    · split
      · rename_i hk hka
        subst hka
        split
        · rename_i hv
          rw [readCell_below rest k ha, hv]
        · simp [readCell]
      · rename_i hk hka
        rw [readCell, if_neg (Ne.symm hka)]
        exact ih hr

/-- A write leaves every other address as it was. -/
theorem readCell_writeCell_ne (cells : List Host.Cell) (k j : Nat) (v : Byte) (h : j ≠ k) :
    readCell (writeCell cells k v) j = readCell cells j := by
  induction cells with
  | nil => unfold writeCell; split <;> simp [readCell, Ne.symm h]
  | cons c rest ih =>
    obtain ⟨a, b⟩ := c
    unfold writeCell
    split
    · split <;> simp [readCell, Ne.symm h]
    · split
      · rename_i hk hka
        subst hka
        split <;> simp [readCell, Ne.symm h]
      · simp only [readCell, ih]

/-- Memories in the canonical form that read alike are equal. -/
theorem Memory.ext_of_wf (l m : List Host.Cell) (hl : Memory.wf l = true) (hm : Memory.wf m = true)
    (h : ∀ k, readCell l k = readCell m k) : l = m := by
  induction l generalizing m with
  | nil =>
    cases m with
    | nil => rfl
    | cons c rest =>
      obtain ⟨a, b⟩ := c
      simp only [Memory.wf, Bool.and_eq_true, bne_iff_ne] at hm
      have := h a
      simp [readCell] at this
      exact absurd this.symm hm.1.1
  | cons c rest ih =>
    obtain ⟨a, b⟩ := c
    simp only [Memory.wf, Bool.and_eq_true, bne_iff_ne] at hl
    obtain ⟨⟨hb, ha⟩, hr⟩ := hl
    cases m with
    | nil =>
      have := h a
      simp [readCell] at this
      exact absurd this hb
    | cons d more =>
      obtain ⟨x, y⟩ := d
      simp only [Memory.wf, Bool.and_eq_true, bne_iff_ne] at hm
      obtain ⟨⟨hy, hx⟩, hm⟩ := hm
      have hax : a = x := by
        rcases Nat.lt_trichotomy a x with lt | eq | gt
        · have e := h a
          rw [readCell, if_pos rfl, readCell, if_neg (by omega), readCell_below more a (allAbove_trans hx (by omega))] at e
          exact absurd e hb
        · exact eq
        · have e := h x
          rw [readCell, if_neg (by omega), readCell_below rest x (allAbove_trans ha (by omega)), readCell, if_pos rfl] at e
          exact absurd e.symm hy
      subst hax
      have hby : b = y := by simpa [readCell] using h a
      subst hby
      congr 1
      refine ih more hr hm fun k => ?_
      have e := h k
      by_cases hk : a = k
      · subst hk
        rw [readCell_below rest a ha, readCell_below more a hx]
      · simpa [readCell, hk] using e

end Sys2Proof.Machine
end

