-- ==== Sys2Proof/Laws/State.lean ====
section
/-! SUPPORT. One lemma per field per update of the named operations over State, true by unfolding, so that no later proof
unfolds a record update. -/

namespace Sys2Proof.Machine

/-! ## Axes -/

@[simp] theorem State.axis_setAxis_same (s : State) (a : Axis) (r : AxisRec) : (s.setAxis a r).axis a = r := by
  cases a <;> rfl

theorem State.axis_setAxis_ne (s : State) {a b : Axis} (r : AxisRec) (h : b ≠ a) :
    (s.setAxis a r).axis b = s.axis b := by
  cases a <;> cases b <;> first | rfl | exact absurd rfl h

theorem State.setAxis_setAxis (s : State) (a : Axis) (r q : AxisRec) : (s.setAxis a r).setAxis a q = s.setAxis a q := by
  cases a <;> rfl

theorem State.setAxis_axis (s : State) (a : Axis) : s.setAxis a (s.axis a) = s := by
  cases a <;> rfl

@[simp] theorem State.setAxis_pending (s : State) (a : Axis) (r : AxisRec) : (s.setAxis a r).pending = s.pending := by
  cases a <;> rfl
@[simp] theorem State.setAxis_freeCount (s : State) (a : Axis) (r : AxisRec) :
    (s.setAxis a r).freeCount = s.freeCount := by cases a <;> rfl
@[simp] theorem State.setAxis_lif (s : State) (a : Axis) (r : AxisRec) : (s.setAxis a r).lif = s.lif := by
  cases a <;> rfl
@[simp] theorem State.setAxis_opt (s : State) (a : Axis) (r : AxisRec) : (s.setAxis a r).opt = s.opt := by
  cases a <;> rfl
@[simp] theorem State.setAxis_otb (s : State) (a : Axis) (r : AxisRec) : (s.setAxis a r).otb = s.otb := by
  cases a <;> rfl
@[simp] theorem State.setAxis_fmn (s : State) (a : Axis) (r : AxisRec) : (s.setAxis a r).fmn = s.fmn := by
  cases a <;> rfl
@[simp] theorem State.setAxis_exc (s : State) (a : Axis) (r : AxisRec) : (s.setAxis a r).exc = s.exc := by
  cases a <;> rfl
@[simp] theorem State.setAxis_fsu (s : State) (a : Axis) (r : AxisRec) : (s.setAxis a r).fsu = s.fsu := by
  cases a <;> rfl
@[simp] theorem State.setAxis_stu (s : State) (a : Axis) (r : AxisRec) : (s.setAxis a r).stu = s.stu := by
  cases a <;> rfl
@[simp] theorem State.setAxis_pcs (s : State) (a : Axis) (r : AxisRec) : (s.setAxis a r).pcs = s.pcs := by
  cases a <;> rfl
@[simp] theorem State.setAxis_csq (s : State) (a : Axis) (r : AxisRec) : (s.setAxis a r).csq = s.csq := by
  cases a <;> rfl
@[simp] theorem State.setAxis_pbf (s : State) (a : Axis) (r : AxisRec) : (s.setAxis a r).pbf = s.pbf := by
  cases a <;> rfl
@[simp] theorem State.setAxis_csu (s : State) (a : Axis) (r : AxisRec) : (s.setAxis a r).csu = s.csu := by
  cases a <;> rfl
@[simp] theorem State.setAxis_d (s : State) (a : Axis) (r : AxisRec) : (s.setAxis a r).ldu.d = s.ldu.d := by
  cases a <;> rfl
@[simp] theorem State.setAxis_waitList (s : State) (a : Axis) (r : AxisRec) :
    (s.setAxis a r).ldu.waitList = s.ldu.waitList := by cases a <;> rfl
@[simp] theorem State.setAxis_pendingIris (s : State) (a : Axis) (r : AxisRec) :
    (s.setAxis a r).ldu.pendingIris = s.ldu.pendingIris := by cases a <;> rfl
@[simp] theorem State.setAxis_irisWriter (s : State) (a : Axis) (r : AxisRec) :
    (s.setAxis a r).ldu.irisWriter = s.ldu.irisWriter := by cases a <;> rfl
@[simp] theorem State.setAxis_flags (s : State) (a : Axis) (r : AxisRec) :
    (s.setAxis a r).ldu.flags = s.ldu.flags := by cases a <;> rfl
@[simp] theorem State.setAxis_ops (s : State) (a : Axis) (r : AxisRec) : (s.setAxis a r).ldu.ops = s.ldu.ops := by
  cases a <;> rfl

/-! ## Replies and notices: `reply` writes the reply queue alone, `place` the outbox alone -/

@[simp] theorem State.reply_replies (s : State) (tag : Nat) (b : ReplyBody) :
    (s.reply tag b).lif.replies = s.lif.replies ++ [{ tag := tag, body := b }] := rfl
@[simp] theorem State.reply_queue (s : State) (tag : Nat) (b : ReplyBody) : (s.reply tag b).lif.queue = s.lif.queue := rfl
@[simp] theorem State.reply_tx (s : State) (tag : Nat) (b : ReplyBody) : (s.reply tag b).lif.tx = s.lif.tx := rfl
@[simp] theorem State.reply_handed (s : State) (tag : Nat) (b : ReplyBody) :
    (s.reply tag b).lif.handed = s.lif.handed := rfl
@[simp] theorem State.reply_restart (s : State) (tag : Nat) (b : ReplyBody) :
    (s.reply tag b).lif.restart = s.lif.restart := rfl
@[simp] theorem State.reply_pending (s : State) (tag : Nat) (b : ReplyBody) : (s.reply tag b).pending = s.pending := rfl
@[simp] theorem State.reply_opt (s : State) (tag : Nat) (b : ReplyBody) : (s.reply tag b).opt = s.opt := rfl
@[simp] theorem State.reply_ldu (s : State) (tag : Nat) (b : ReplyBody) : (s.reply tag b).ldu = s.ldu := rfl
@[simp] theorem State.reply_otb (s : State) (tag : Nat) (b : ReplyBody) : (s.reply tag b).otb = s.otb := rfl
@[simp] theorem State.reply_fmn (s : State) (tag : Nat) (b : ReplyBody) : (s.reply tag b).fmn = s.fmn := rfl
@[simp] theorem State.reply_exc (s : State) (tag : Nat) (b : ReplyBody) : (s.reply tag b).exc = s.exc := rfl
@[simp] theorem State.reply_fsu (s : State) (tag : Nat) (b : ReplyBody) : (s.reply tag b).fsu = s.fsu := rfl
@[simp] theorem State.reply_stu (s : State) (tag : Nat) (b : ReplyBody) : (s.reply tag b).stu = s.stu := rfl
@[simp] theorem State.reply_pcs (s : State) (tag : Nat) (b : ReplyBody) : (s.reply tag b).pcs = s.pcs := rfl
@[simp] theorem State.reply_csq (s : State) (tag : Nat) (b : ReplyBody) : (s.reply tag b).csq = s.csq := rfl
@[simp] theorem State.reply_pbf (s : State) (tag : Nat) (b : ReplyBody) : (s.reply tag b).pbf = s.pbf := rfl
@[simp] theorem State.reply_csu (s : State) (tag : Nat) (b : ReplyBody) : (s.reply tag b).csu = s.csu := rfl

@[simp] theorem State.place_outbox (s : State) (n : Notice) : (s.place n).opt.outbox = s.opt.outbox ++ [n] := rfl
@[simp] theorem State.place_table (s : State) (n : Notice) : (s.place n).opt.table = s.opt.table := rfl
@[simp] theorem State.place_pending (s : State) (n : Notice) : (s.place n).pending = s.pending := rfl
@[simp] theorem State.place_lif (s : State) (n : Notice) : (s.place n).lif = s.lif := rfl
@[simp] theorem State.place_ldu (s : State) (n : Notice) : (s.place n).ldu = s.ldu := rfl
@[simp] theorem State.place_otb (s : State) (n : Notice) : (s.place n).otb = s.otb := rfl
@[simp] theorem State.place_fmn (s : State) (n : Notice) : (s.place n).fmn = s.fmn := rfl
@[simp] theorem State.place_exc (s : State) (n : Notice) : (s.place n).exc = s.exc := rfl
@[simp] theorem State.place_fsu (s : State) (n : Notice) : (s.place n).fsu = s.fsu := rfl
@[simp] theorem State.place_stu (s : State) (n : Notice) : (s.place n).stu = s.stu := rfl
@[simp] theorem State.place_pcs (s : State) (n : Notice) : (s.place n).pcs = s.pcs := rfl
@[simp] theorem State.place_csq (s : State) (n : Notice) : (s.place n).csq = s.csq := rfl
@[simp] theorem State.place_pbf (s : State) (n : Notice) : (s.place n).pbf = s.pbf := rfl
@[simp] theorem State.place_csu (s : State) (n : Notice) : (s.place n).csu = s.csu := rfl

/-! ## The operation table: `enter`, `removeEntry` and `updateEntry` write the table alone -/

@[simp] theorem State.enter_table (s : State) (tag : Nat) (k : OpKind) (st : OpState) (p : Option Nat) :
    (s.enter tag k st p).opt.table =
      s.opt.table ++ [{ tag := tag, kind := k, state := st, done := 0, planned := p, cause := none }] := rfl
@[simp] theorem State.enter_outbox (s : State) (tag : Nat) (k : OpKind) (st : OpState) (p : Option Nat) :
    (s.enter tag k st p).opt.outbox = s.opt.outbox := rfl
@[simp] theorem State.removeEntry_table (s : State) (tag : Nat) :
    (s.removeEntry tag).opt.table = s.opt.table.filter fun f => f.tag != tag := rfl
@[simp] theorem State.removeEntry_outbox (s : State) (tag : Nat) : (s.removeEntry tag).opt.outbox = s.opt.outbox := rfl
@[simp] theorem State.updateEntry_table (s : State) (tag : Nat) (f : OpEntry → OpEntry) :
    (s.updateEntry tag f).opt.table = s.opt.table.map fun e => if e.tag = tag then f e else e := rfl
@[simp] theorem State.updateEntry_outbox (s : State) (tag : Nat) (f : OpEntry → OpEntry) :
    (s.updateEntry tag f).opt.outbox = s.opt.outbox := rfl

/-! ## The blocks that write one field of theirs -/

@[simp] theorem State.onCsu_csu (s : State) (f : Csu → Csu) : (s.onCsu f).csu = f s.csu := rfl
@[simp] theorem State.onCsu_pbf (s : State) (f : Csu → Csu) : (s.onCsu f).pbf = s.pbf := rfl
@[simp] theorem State.onCsu_opt (s : State) (f : Csu → Csu) : (s.onCsu f).opt = s.opt := rfl
@[simp] theorem State.onLif_lif (s : State) (f : Lif → Lif) : (s.onLif f).lif = f s.lif := rfl
@[simp] theorem State.onLif_opt (s : State) (f : Lif → Lif) : (s.onLif f).opt = s.opt := rfl
@[simp] theorem State.onLif_pbf (s : State) (f : Lif → Lif) : (s.onLif f).pbf = s.pbf := rfl
@[simp] theorem State.setCsq_state (s : State) (st : CsqState) : (s.setCsq st).csq.state = st := rfl
@[simp] theorem State.setCsq_capture (s : State) (st : CsqState) : (s.setCsq st).csq.capture = s.csq.capture := rfl
@[simp] theorem State.onCapture_capture (s : State) (f : Capture → Capture) :
    (s.onCapture f).csq.capture = s.csq.capture.map f := rfl
@[simp] theorem State.onCapture_state (s : State) (f : Capture → Capture) :
    (s.onCapture f).csq.state = s.csq.state := rfl
@[simp] theorem State.setScan_scan (s : State) (c : Option Scan) : (s.setScan c).fsu.scan = c := rfl
@[simp] theorem State.setRequest_request (s : State) (b : Bool) : (s.setRequest b).pbf.request = b := rfl
@[simp] theorem State.setRequest_memory (s : State) (b : Bool) : (s.setRequest b).pbf.memory = s.pbf.memory := rfl
@[simp] theorem State.setEngine_engine (s : State) (e : Engine) : (s.setEngine e).pbf.engine = e := rfl
@[simp] theorem State.setEngine_memory (s : State) (e : Engine) : (s.setEngine e).pbf.memory = s.pbf.memory := rfl

/-! ## The counter of free values -/

@[simp] theorem State.drawFree_frame (s : State) :
    s.drawFree.pending = s.pending ∧ s.drawFree.lif = s.lif ∧ s.drawFree.opt = s.opt ∧ s.drawFree.ldu = s.ldu ∧
      s.drawFree.otb = s.otb ∧ s.drawFree.fmn = s.fmn ∧ s.drawFree.exc = s.exc ∧ s.drawFree.fsu = s.fsu ∧
      s.drawFree.stu = s.stu ∧ s.drawFree.pcs = s.pcs ∧ s.drawFree.csq = s.csq ∧ s.drawFree.pbf = s.pbf ∧
      s.drawFree.csu = s.csu := by simp [State.drawFree]

end Sys2Proof.Machine
end

