-- ==== Sys2Proof/Laws/Buffer.lean ====
section
/-! SUPPORT. What the operations of Buffer.lean do with pages and picture memory (R159, R161 to R165): pages move between
the free pool and the records and none is lost or doubled; one operation writes picture memory, and in its one form. -/

namespace Sys2Proof.Machine

/-! ## Lists -/

/-- Changing an element to one of the same image keeps the images. -/
theorem flatMap_updateFirst {α β : Type} (test : α → Bool) (f : α → α) (g : α → List β) (l : List α)
    (h : ∀ a ∈ l, test a = true → g (f a) = g a) : (updateFirst test f l).flatMap g = l.flatMap g := by
  induction l with
  | nil => rfl
  | cons a rest ih =>
    unfold updateFirst
    split
    · rename_i ha
      rw [List.flatMap_cons, List.flatMap_cons, h a (by simp) ha]
    · rw [List.flatMap_cons, List.flatMap_cons, ih fun b hb => h b (by simp [hb])]

/-- The first element that satisfies a test, changed, images and all, stands for the one found. -/
theorem flatMap_updateFirst_found {α β : Type} (test : α → Bool) (f : α → α) (g : α → List β) (l : List α) (a : α)
    (h : l.find? test = some a) : ∃ x y, l.flatMap g = x ++ g a ++ y ∧ (updateFirst test f l).flatMap g = x ++ g (f a) ++ y := by
  induction l with
  | nil => cases h
  | cons b rest ih =>
    unfold updateFirst
    rw [List.find?_cons] at h
    split at h
    · rename_i hb
      cases h
      exact ⟨[], rest.flatMap g, by simp, by simp [hb]⟩
    · rename_i hb
      obtain ⟨x, y, h1, h2⟩ := ih h
      exact ⟨g b ++ x, y, by simp [h1], by simp [hb, h2]⟩

/-! ## Pages -/

/-- Changing a record to one that holds the same pages moves no page. -/
theorem State.setRecord_pages (s : State) (id : Nat) (f : PicRecord → PicRecord) (h : ∀ r, (f r).held = r.held) :
    (s.setRecord id f).pages = s.pages := by
  simp only [State.pages, State.setRecord]
  rw [flatMap_updateFirst _ _ _ _ fun a _ _ => h a]

/-- A freed record's pages return to the pool (R163). -/
theorem State.freeRecord_pages (s : State) (id : Nat) : (s.freeRecord id).pages.Perm s.pages := by
  unfold State.freeRecord
  split
  · exact List.Perm.refl _
  · rename_i r hr
    have hm : r ∈ s.pbf.records := List.mem_of_find?_eq_some hr
    have hp := (List.perm_cons_erase hm).flatMap_right PicRecord.held
    simp only [State.pages, List.append_assoc]
    exact List.Perm.append_left _ (by simpa [List.flatMap_cons] using hp.symm)

/-- The pages of freed records return to the pool (R163). -/
theorem State.freeRecords_pages (s : State) (p : PicRecord → Bool) : (s.freeRecords p).pages.Perm s.pages := by
  have hp := (List.filter_append_perm p s.pbf.records).flatMap_right PicRecord.held
  simp only [State.pages, State.freeRecords, List.append_assoc]
  exact List.Perm.append_left _ (by simpa using hp)

/-- A grant moves R pages from the pool to the new record (R161). -/
theorem State.grant_pages (s : State) (id tag pos : Nat) : (s.grant id tag pos).pages.Perm s.pages := by
  simp only [State.pages, State.grant, List.flatMap_append, List.flatMap_cons, List.flatMap_nil, PicRecord.held,
    List.nil_append, List.append_nil]
  rw [← List.append_assoc]
  refine List.perm_append_comm.trans ?_
  rw [← List.append_assoc, List.take_append_drop]

/-- A record that draws its next page holds the pages it held (R165). -/
theorem PicRecord.draw_held {r q : PicRecord} (h : r.draw = some q) : q.held = r.held := by
  unfold PicRecord.draw at h
  split at h
  · split at h
    · cases h
    · rename_i hr
      cases h
      simp [PicRecord.held, hr]
  · cases h
    rfl

/-- A record that draws its next page counts one byte more and stays the record it was (R165). -/
theorem PicRecord.draw_received {r q : PicRecord} (h : r.draw = some q) :
    q.received = r.received + 1 ∧ q.id = r.id ∧ q.state = r.state ∧ q.length = r.length ∧ q.tag = r.tag ∧
      q.pos = r.pos ∧ q.shot = r.shot := by
  unfold PicRecord.draw at h
  split at h
  · split at h <;> cases h
    simp
  · cases h
    simp

/-- The unused pages of a picture return with its last byte (R165). -/
theorem State.completePicture_pages (s : State) (id : Nat) (r : PicRecord) (h : s.record id = some r) :
    (s.completePicture id r).pages.Perm s.pages := by
  obtain ⟨x, y, h1, h2⟩ := flatMap_updateFirst_found (fun r : PicRecord => r.id == id)
    (fun q => { q with state := .complete, reserved := [] }) PicRecord.held s.pbf.records r h
  simp only [State.pages, State.completePicture, State.setRecord, h1, h2, PicRecord.held, List.append_nil,
    List.append_assoc]
  refine List.Perm.append_left _ ?_
  refine (List.perm_append_comm_assoc _ _ _).trans (List.Perm.append_left _ ?_)
  exact List.perm_append_comm_assoc _ _ _

/-- The record found after a record is changed to another of the same id. -/
theorem State.record_setRecord (s : State) (id : Nat) (r q : PicRecord) (h : s.record id = some r) (hq : q.id = id) :
    (s.setRecord id fun _ => q).record id = some q := by
  simp only [State.record, State.setRecord] at *
  generalize s.pbf.records = l at h ⊢
  induction l with
  | nil => cases h
  | cons b rest ih =>
    unfold updateFirst
    rw [List.find?_cons] at h
    split at h
    · rename_i hb
      simp [hb, hq]
    · rename_i hb
      simp only [hb, Bool.false_eq_true, if_false, List.find?_cons]
      exact ih h

/-! ## A byte of a picture (R165) -/

/-- All a byte taken in DATA can do short of a fault: it lies in the page that holds its place, in a page of the pool's
2,048, and with the last byte the picture is complete. -/
theorem State.dataByte_cases {s t : State} {id : Nat} {b : Byte} {report : IntakeReport}
    (h : s.dataByte id b = .inr (t, report)) :
    ∃ r q page, s.record id = some r ∧ r.draw = some q ∧ q.pages[r.received / pageBytes]? = some page ∧ page < 2048 ∧
      (let u := s.setRecord id fun _ => q
       let w : State := { u with pbf := { u.pbf with
         memory := writeCell u.pbf.memory (page * pageBytes + r.received % pageBytes) b } }
       (q.received = r.length.getD 0 ∧ t = w.completePicture id q ∧ report = .ended) ∨
         (q.received ≠ r.length.getD 0 ∧ t = w ∧ report = .none)) := by
  unfold State.dataByte at h
  split at h
  · cases h
  · rename_i r hr
    split at h
    · cases h
    · rename_i q hq
      split at h
      · cases h
      · rename_i page hp
        split at h
        · cases h
        · rename_i hlt
          refine ⟨r, q, page, hr, hq, hp, by omega, ?_⟩
          dsimp only at h ⊢
          split at h
          · rename_i he
            cases h
            exact .inl ⟨he, rfl, rfl⟩
          · rename_i he
            cases h
            exact .inr ⟨he, rfl, rfl⟩

/-- A byte taken in DATA moves no page out of the pool's or the records' hold. -/
theorem State.dataByte_pages {s t : State} {id : Nat} {b : Byte} {report : IntakeReport}
    (h : s.dataByte id b = .inr (t, report)) : t.pages.Perm s.pages := by
  obtain ⟨r, q, page, hr, hq, -, -, hc⟩ := State.dataByte_cases h
  have hid : q.id = id := by
    rw [(PicRecord.draw_received hq).2.1]
    simpa using List.find?_some hr
  obtain ⟨x, y, h1, h2⟩ := flatMap_updateFirst_found (fun r : PicRecord => r.id == id) (fun _ => q) PicRecord.held s.pbf.records r hr
  have hs : (s.setRecord id fun _ => q).pages = s.pages := by
    simp only [State.pages, State.setRecord, h1, h2, PicRecord.draw_held hq]
  obtain ⟨-, rfl, -⟩ | ⟨-, rfl, -⟩ := hc
  · refine (State.completePicture_pages _ id q ?_).trans (List.Perm.of_eq hs)
    exact State.record_setRecord s id r q hr hid
  · exact List.Perm.of_eq hs

/-- A byte taken in DATA keeps the canonical form of picture memory. -/
theorem State.dataByte_memory {s t : State} {id : Nat} {b : Byte} {report : IntakeReport}
    (h : s.dataByte id b = .inr (t, report)) (hm : s.memorySound) : t.memorySound := by
  obtain ⟨r, q, page, -, -, -, -, hc⟩ := State.dataByte_cases h
  obtain ⟨-, rfl, -⟩ | ⟨-, rfl, -⟩ := hc <;> exact writeCell_wf _ _ _ hm

end Sys2Proof.Machine
end

