-- ==== Sys2Proof/Laws/Bytes.lean ====
section
/-! SUPPORT. The byte layouts of R202: each field read where it was written gives its value, when it fits its width. -/

namespace Sys2Proof

@[simp] theorem byteOf_toNat (n : Nat) : (byteOf n).toNat = n % 256 := by simp [byteOf]

theorem get1_cons_zero (b : Byte) (l : List Byte) : get1 (b :: l) 0 = b.toNat := rfl

theorem get1_cons_succ (b : Byte) (l : List Byte) (i : Nat) : get1 (b :: l) (i + 1) = get1 l i := rfl

/-- Bytes of the second part of a list. -/
theorem get1_append (a b : List Byte) (i : Nat) : get1 (a ++ b) (a.length + i) = get1 b i := by
  simp [get1, List.getD_eq_getElem?_getD, List.getElem?_append_right]

/-- Bytes of the first part of a list. -/
theorem get1_append_left (a b : List Byte) (i : Nat) (h : i < a.length) : get1 (a ++ b) i = get1 a i := by
  simp [get1, List.getD_eq_getElem?_getD, List.getElem?_append_left h]

theorem get2_append (a b : List Byte) (i : Nat) : get2 (a ++ b) (a.length + i) = get2 b i := by
  unfold get2
  rw [Nat.add_assoc, get1_append, get1_append]

theorem get3_append (a b : List Byte) (i : Nat) : get3 (a ++ b) (a.length + i) = get3 b i := by
  unfold get3
  rw [Nat.add_assoc, get2_append, get1_append]

theorem get4_append (a b : List Byte) (i : Nat) : get4 (a ++ b) (a.length + i) = get4 b i := by
  unfold get4
  rw [Nat.add_assoc, get2_append, get2_append]

/-! ## A field at the front of a list -/

theorem get1_put1 (n : Nat) (l : List Byte) (h : n < 256) : get1 (put1 n ++ l) 0 = n := by
  show (byteOf n).toNat = n
  rw [byteOf_toNat]; omega

theorem get2_put2 (n : Nat) (l : List Byte) (h : n < 65536) : get2 (put2 n ++ l) 0 = n := by
  show 256 * (byteOf (n / 256)).toNat + (byteOf n).toNat = n
  rw [byteOf_toNat, byteOf_toNat]; omega

theorem get3_put3 (n : Nat) (l : List Byte) (h : n < 16777216) : get3 (put3 n ++ l) 0 = n := by
  show 256 * (256 * (byteOf (n / 65536)).toNat + (byteOf (n / 256)).toNat) + (byteOf n).toNat = n
  rw [byteOf_toNat, byteOf_toNat, byteOf_toNat]; omega

theorem get4_put4 (n : Nat) (l : List Byte) (h : n < 4294967296) : get4 (put4 n ++ l) 0 = n := by
  show 65536 * (256 * (byteOf (n / 16777216)).toNat + (byteOf (n / 65536)).toNat) +
      (256 * (byteOf (n / 256)).toNat + (byteOf n).toNat) = n
  simp only [byteOf_toNat]; omega

theorem getOption1_putOption1 (o : Option Nat) (l : List Byte) (h : fitsOption 255 o = true) :
    getOption1 (putOption1 o ++ l) 0 = o := by
  cases o with
  | none => rfl
  | some n =>
    have h' : n < 255 := by simpa [fitsOption] using h
    simp only [getOption1, putOption1, get1_put1 n l (by omega)]
    rw [if_neg (by omega)]

theorem getOption2_putOption2 (o : Option Nat) (l : List Byte) (h : fitsOption 65535 o = true) :
    getOption2 (putOption2 o ++ l) 0 = o := by
  cases o with
  | none => simp only [getOption2, putOption2, get2_put2 65535 l (by omega), if_true]
  | some n =>
    have h' : n < 65535 := by simpa [fitsOption] using h
    simp only [getOption2, putOption2, get2_put2 n l (by omega)]
    rw [if_neg (by omega)]

theorem getOption4_putOption4 (o : Option Nat) (l : List Byte) (h : fitsOption 4294967295 o = true) :
    getOption4 (putOption4 o ++ l) 0 = o := by
  cases o with
  | none => simp only [getOption4, putOption4, get4_put4 4294967295 l (by omega), if_true]
  | some n =>
    have h' : n < 4294967295 := by simpa [fitsOption] using h
    simp only [getOption4, putOption4, get4_put4 n l (by omega)]
    rw [if_neg (by omega)]

theorem getSigned_putSigned (x : Int) (l : List Byte) (h : -32768 ≤ x ∧ x < 32768) :
    getSigned (putSigned x ++ l) 0 = x := by
  have e : (x.emod 65536).toNat < 65536 := by
    have h1 := Int.emod_nonneg x (b := 65536) (by decide)
    have h2 := Int.emod_lt_of_pos x (b := 65536) (by decide)
    change (x % 65536).toNat < 65536
    omega
  simp only [getSigned, putSigned, get2_put2 _ l e]
  change (if (x % 65536).toNat < 32768 then ((x % 65536).toNat : Int) else ((x % 65536).toNat : Int) - 65536) = x
  split <;> omega

theorem getValue_putValue (o : Option Int) (l : List Byte) (h : fitsValue o = true) :
    getValue (putValue o ++ l) 0 = o := by
  cases o with
  | none => simp only [getValue, putValue, get2_put2 32768 l (by omega), if_true]
  | some x =>
    have h' : -32768 < x ∧ x < 32768 := by simpa [fitsValue] using h
    have e : (x % 65536).toNat < 65536 := by omega
    have n : get2 (putSigned x ++ l) 0 = (x % 65536).toNat := get2_put2 _ l e
    show (if get2 (putSigned x ++ l) 0 = 32768 then none else some (getSigned (putSigned x ++ l) 0)) = some x
    rw [getSigned_putSigned x l (by omega), n, if_neg (by omega)]

/-! ## Widths -/

@[simp] theorem length_put1 (n : Nat) : (put1 n).length = 1 := rfl
@[simp] theorem length_put2 (n : Nat) : (put2 n).length = 2 := rfl
@[simp] theorem length_put3 (n : Nat) : (put3 n).length = 3 := rfl
@[simp] theorem length_put4 (n : Nat) : (put4 n).length = 4 := rfl
@[simp] theorem length_putSigned (x : Int) : (putSigned x).length = 2 := rfl
@[simp] theorem length_putOption1 (o : Option Nat) : (putOption1 o).length = 1 := by cases o <;> rfl
@[simp] theorem length_putOption2 (o : Option Nat) : (putOption2 o).length = 2 := by cases o <;> rfl
@[simp] theorem length_putOption4 (o : Option Nat) : (putOption4 o).length = 4 := by cases o <;> rfl
@[simp] theorem length_putValue (o : Option Int) : (putValue o).length = 2 := by cases o <;> rfl
@[simp] theorem length_putTableFields_node (f : NodeFields) : (putTableFields (.node f)).length = 16 := rfl
@[simp] theorem length_putTableFields_global (f : GlobalFields) : (putTableFields (.global f)).length = 10 := rfl
@[simp] theorem length_putProgram (o : ProgramOperands) : (putProgram o).length = 9 := rfl
@[simp] theorem length_putAf (a : AfOperands) : (putAf a).length = 15 := rfl
@[simp] theorem length_putScan (o : ScanOperands) : (putScan o).length = 17 := by simp [putScan]
@[simp] theorem length_putExtent (e : Extent) : (putExtent e).length = 8 := rfl
@[simp] theorem length_putFragment (f : Fragment) : (putFragment f).length = 6 := rfl
@[simp] theorem length_putWriteBack (w : WriteBackOperand) : (putWriteBack w).length = 11 := by simp [putWriteBack]

@[simp] theorem length_putMeter (m : MeterOperands) : (putMeter m).length = 13 + m.weights.length := by
  simp [putMeter]; omega

@[simp] theorem length_putContext (o : ContextOperands) : (putContext o).length = 40 + o.meter.weights.length := by
  simp [putContext]; omega

@[simp] theorem length_putExtents (es : List Extent) : (es.flatMap putExtent).length = 8 * es.length := by
  induction es with
  | nil => rfl
  | cons e es ih => simp [ih]; omega

@[simp] theorem length_putFragments (fs : List Fragment) : (fs.flatMap putFragment).length = 6 * fs.length := by
  induction fs with
  | nil => rfl
  | cons f fs ih => simp [ih]; omega

@[simp] theorem length_putWriteBacks (ws : List WriteBackOperand) :
    (ws.flatMap putWriteBack).length = 11 * ws.length := by
  induction ws with
  | nil => rfl
  | cons w ws ih => simp [ih]; omega

@[simp] theorem length_putFault (f : FaultOperands) :
    (putFault f).length = 16 + 11 * f.writeBacks.length + 6 * f.fragments.length := by
  simp [putFault]; omega

end Sys2Proof
end

