-- ==== Sys2Proof/Laws/Lens.lean ====
section
/-! SUPPORT. What giving a target, waiting for a slot and the arbiter can do (R21, R25), said once each. -/

namespace Sys2Proof.Machine

/-- A target given to an UNREFERENCED axis changes nothing. -/
theorem State.giveTarget_unreferenced (s : State) (a : Axis) (v : Nat) (h : (s.axis a).pp = none) :
    s.giveTarget a v = (s, .unreferenced) := by simp [State.giveTarget, h]

/-- A RELEASED axis at the target has arrived. -/
theorem State.giveTarget_released_here (s : State) (a : Axis) (v : Nat) (h : (s.axis a).pp = some v)
    (hs : (s.axis a).state = .released) :
    s.giveTarget a v = (s.setAxis a { s.axis a with target := some v }, .arrived) := by
  simp [State.giveTarget, h, hs]

/-- A RELEASED axis elsewhere energizes. -/
theorem State.giveTarget_released (s : State) (a : Axis) (v p : Nat) (h : (s.axis a).pp = some p) (hv : v ≠ p)
    (hs : (s.axis a).state = .released) (he : (s.axis a).setup.energize ≠ 0) :
    s.giveTarget a v =
      (s.setAxis a { s.axis a with target := some v, state := .energizing,
                                   timer := some (s.axis a).setup.energize }, .underway) := by
  simp [State.giveTarget, h, hs, hv, State.energizeAxis, he]

/-- A HELD axis at the target has arrived. -/
theorem State.giveTarget_held_here (s : State) (a : Axis) (v : Nat) (h : (s.axis a).pp = some v)
    (hs : (s.axis a).state = .held) :
    s.giveTarget a v = (s.setAxis a { s.axis a with target := some v }, .arrived) := by
  simp [State.giveTarget, h, hs]

/-- A HELD axis elsewhere joins the wait list. -/
theorem State.giveTarget_held (s : State) (a : Axis) (v p : Nat) (h : (s.axis a).pp = some p) (hv : v ≠ p)
    (hs : (s.axis a).state = .held) :
    s.giveTarget a v = (s.joinWait a { s.axis a with target := some v }, .underway) := by
  simp [State.giveTarget, h, hs, hv]

/-- The arbiter does nothing while no axis waits. -/
theorem State.arbitrate_nil (s : State) (h : s.ldu.waitList = []) : s.arbitrate = s := by
  simp [State.arbitrate, State.grantOne, h]

/-- The arbiter does nothing while both slots are held. -/
theorem State.arbitrate_full (s : State) (h : ¬ s.slotHolders.length < 2) : s.arbitrate = s := by
  have g : s.grantOne = s := by
    unfold State.grantOne
    split
    · rfl
    · rw [if_neg h]
  rw [State.arbitrate, g, g]

/-- The arbiter grants a free slot to the one axis that waits. -/
theorem State.arbitrate_one (s : State) (a : Axis) (h : s.ldu.waitList = [a]) (hs : s.slotHolders.length < 2)
    (hn : (State.granted { s with ldu := { s.ldu with waitList := [] } } a).ldu.waitList = []) :
    s.arbitrate = State.granted { s with ldu := { s.ldu with waitList := [] } } a := by
  have g : s.grantOne = State.granted { s with ldu := { s.ldu with waitList := [] } } a := by
    simp [State.grantOne, h, hs]
  rw [State.arbitrate, g]
  simp [State.grantOne, hn]

/-- The axes that step, from whether each does. -/
def slotList (z f i : Bool) : List Axis :=
  (if z then [.zoom] else []) ++ (if f then [.focus] else []) ++ (if i then [.iris] else [])

/-- The axes that hold slots are those that step. -/
theorem State.slotHolders_eq (s : State) :
    s.slotHolders = slotList s.ldu.zoom.stepping s.ldu.focus.stepping s.ldu.iris.stepping := by
  simp only [State.slotHolders, allAxes, List.filter_cons, List.filter_nil, State.axis, slotList]
  cases s.ldu.zoom.stepping <;> cases s.ldu.focus.stepping <;> cases s.ldu.iris.stepping <;> rfl

/-- Writing an axis record that steps as the old one did leaves the slot holders. -/
theorem State.slotHolders_setAxis (s : State) (a : Axis) (r : AxisRec) (h : r.stepping = (s.axis a).stepping) :
    (s.setAxis a r).slotHolders = s.slotHolders := by
  rw [State.slotHolders_eq, State.slotHolders_eq]
  cases a <;> simp only [State.setAxis, State.axis] at * <;> rw [h]

theorem slotList_zoom (z x f i : Bool) : (slotList x f i).length ≤ (slotList z f i).length + 1 := by
  revert z x f i; decide

theorem slotList_focus (z x f i : Bool) : (slotList z x i).length ≤ (slotList z f i).length + 1 := by
  revert z x f i; decide

theorem slotList_iris (z x f i : Bool) : (slotList z f x).length ≤ (slotList z f i).length + 1 := by
  revert z x f i; decide

/-- Writing an axis record adds at most one slot holder. -/
theorem State.slotHolders_setAxis_le (s : State) (a : Axis) (r : AxisRec) :
    (s.setAxis a r).slotHolders.length ≤ s.slotHolders.length + 1 := by
  rw [State.slotHolders_eq, State.slotHolders_eq]
  cases a
  · exact slotList_zoom _ _ _ _
  · exact slotList_focus _ _ _ _
  · exact slotList_iris _ _ _ _

theorem slotList_zoom_rest (z f i : Bool) : (slotList false f i).length ≤ (slotList z f i).length := by
  revert z f i; decide

theorem slotList_focus_rest (z f i : Bool) : (slotList z false i).length ≤ (slotList z f i).length := by
  revert z f i; decide

theorem slotList_iris_rest (z f i : Bool) : (slotList z f false).length ≤ (slotList z f i).length := by
  revert z f i; decide

/-- An axis record that does not step takes no slot. -/
theorem State.slotHolders_setAxis_rest (s : State) (a : Axis) (r : AxisRec) (h : r.stepping = false) :
    (s.setAxis a r).slotHolders.length ≤ s.slotHolders.length := by
  rw [State.slotHolders_eq, State.slotHolders_eq]
  cases a <;> simp only [State.setAxis] <;> rw [h]
  · exact slotList_zoom_rest _ _ _
  · exact slotList_focus_rest _ _ _
  · exact slotList_iris_rest _ _ _

/-- A HELD axis given a target elsewhere, with nothing waiting and a slot free, begins its first step at once. -/
theorem State.giveTarget_held_arbitrate (s : State) (a : Axis) (v p : Nat) (h : (s.axis a).pp = some p) (hv : v ≠ p)
    (hs : (s.axis a).state = .held) (hw : s.ldu.waitList = []) (hl : s.slotHolders.length < 2)
    (hn : (State.granted (s.setAxis a { s.axis a with target := some v, state := .awaitingSlot, timer := none })
      a).ldu.waitList = []) :
    (s.giveTarget a v).1.arbitrate =
      State.granted (s.setAxis a { s.axis a with target := some v, state := .awaitingSlot, timer := none }) a := by
  rw [State.giveTarget_held s a v p h hv hs]
  have e : ({ s.joinWait a { s.axis a with target := some v } with
      ldu := { (s.joinWait a { s.axis a with target := some v }).ldu with waitList := [] } } : State) =
      s.setAxis a { s.axis a with target := some v, state := .awaitingSlot, timer := none } := by
    unfold State.joinWait
    cases a <;> simp only [State.setAxis] <;> rw [← hw]
  have k := State.arbitrate_one (s.joinWait a { s.axis a with target := some v }) a
  rw [e] at k
  apply k
  · simp [State.joinWait, hw]
  · have m := State.slotHolders_setAxis s a { s.axis a with target := some v, state := .awaitingSlot, timer := none }
      (by simp [AxisRec.stepping, hs])
    have q : (s.joinWait a { s.axis a with target := some v }).slotHolders =
        (s.setAxis a { s.axis a with target := some v, state := .awaitingSlot, timer := none }).slotHolders := by
      rw [State.slotHolders_eq, State.slotHolders_eq]; cases a <;> rfl
    rw [q, m]; exact hl
  · exact hn

end Sys2Proof.Machine
end

