-- ==== Sys2Proof/Laws/FramesLens.lean ====
section
/-! SUPPORT. What the shared operations of Ops.lean and Lens.lean leave alone: for each, the blocks it never touches. -/

namespace Sys2Proof.Machine

-- one declaration after another: each unfolds operations whose equations another would be waiting for
set_option Elab.async false

/-- A pair given by its parts. -/
theorem pair_eq {α β : Type} {p : α × β} {a : α} {b : β} : p = (a, b) ↔ a = p.1 ∧ p.2 = b := by
  rcases p with ⟨x, y⟩
  simp [eq_comm]

/-- A fold of operations that keep `pending` keeps it. -/
@[simp] theorem foldl_pending (f : State → Axis → State) (h : ∀ t a, (f t a).pending = t.pending) (l : List Axis) (s : State) :
    (l.foldl f s).pending = s.pending := by
  induction l generalizing s with
  | nil => rfl
  | cons a l ih => rw [List.foldl_cons, ih, h]

/-- A fold of operations that keep `lif` keeps it. -/
@[simp] theorem foldl_lif (f : State → Axis → State) (h : ∀ t a, (f t a).lif = t.lif) (l : List Axis) (s : State) :
    (l.foldl f s).lif = s.lif := by
  induction l generalizing s with
  | nil => rfl
  | cons a l ih => rw [List.foldl_cons, ih, h]

/-- A fold of operations that keep `opt` keeps it. -/
@[simp] theorem foldl_opt (f : State → Axis → State) (h : ∀ t a, (f t a).opt = t.opt) (l : List Axis) (s : State) :
    (l.foldl f s).opt = s.opt := by
  induction l generalizing s with
  | nil => rfl
  | cons a l ih => rw [List.foldl_cons, ih, h]

/-- A fold of operations that keep `ldu` keeps it. -/
@[simp] theorem foldl_ldu (f : State → Axis → State) (h : ∀ t a, (f t a).ldu = t.ldu) (l : List Axis) (s : State) :
    (l.foldl f s).ldu = s.ldu := by
  induction l generalizing s with
  | nil => rfl
  | cons a l ih => rw [List.foldl_cons, ih, h]

/-- A fold of operations that keep `otb` keeps it. -/
@[simp] theorem foldl_otb (f : State → Axis → State) (h : ∀ t a, (f t a).otb = t.otb) (l : List Axis) (s : State) :
    (l.foldl f s).otb = s.otb := by
  induction l generalizing s with
  | nil => rfl
  | cons a l ih => rw [List.foldl_cons, ih, h]

/-- A fold of operations that keep `pcs` keeps it. -/
@[simp] theorem foldl_pcs (f : State → Axis → State) (h : ∀ t a, (f t a).pcs = t.pcs) (l : List Axis) (s : State) :
    (l.foldl f s).pcs = s.pcs := by
  induction l generalizing s with
  | nil => rfl
  | cons a l ih => rw [List.foldl_cons, ih, h]

/-- A fold of operations that keep `csq` keeps it. -/
@[simp] theorem foldl_csq (f : State → Axis → State) (h : ∀ t a, (f t a).csq = t.csq) (l : List Axis) (s : State) :
    (l.foldl f s).csq = s.csq := by
  induction l generalizing s with
  | nil => rfl
  | cons a l ih => rw [List.foldl_cons, ih, h]

/-- A fold of operations that keep `pbf` keeps it. -/
@[simp] theorem foldl_pbf (f : State → Axis → State) (h : ∀ t a, (f t a).pbf = t.pbf) (l : List Axis) (s : State) :
    (l.foldl f s).pbf = s.pbf := by
  induction l generalizing s with
  | nil => rfl
  | cons a l ih => rw [List.foldl_cons, ih, h]

/-- A fold of operations that keep `csu` keeps it. -/
@[simp] theorem foldl_csu (f : State → Axis → State) (h : ∀ t a, (f t a).csu = t.csu) (l : List Axis) (s : State) :
    (l.foldl f s).csu = s.csu := by
  induction l generalizing s with
  | nil => rfl
  | cons a l ih => rw [List.foldl_cons, ih, h]

@[simp] theorem State.reply_frame (s : State) (tag : Nat) (b : ReplyBody) :
    (s.reply tag b).pending = s.pending ∧ (s.reply tag b).opt = s.opt ∧ (s.reply tag b).ldu = s.ldu ∧
    (s.reply tag b).otb = s.otb ∧ (s.reply tag b).pcs = s.pcs ∧ (s.reply tag b).csq = s.csq ∧
    (s.reply tag b).pbf = s.pbf ∧ (s.reply tag b).csu = s.csu := by
  and_intros <;> rfl

@[simp] theorem State.place_frame (s : State) (n : Notice) :
    (s.place n).pending = s.pending ∧ (s.place n).lif = s.lif ∧ (s.place n).ldu = s.ldu ∧ (s.place n).otb = s.otb ∧
    (s.place n).pcs = s.pcs ∧ (s.place n).csq = s.csq ∧ (s.place n).pbf = s.pbf ∧ (s.place n).csu = s.csu := by
  and_intros <;> rfl

@[simp] theorem State.attention_frame (s : State) (src : Source) (c : Condition) (d : Nat) :
    (s.attention src c d).pending = s.pending ∧ (s.attention src c d).lif = s.lif ∧
    (s.attention src c d).ldu = s.ldu ∧ (s.attention src c d).otb = s.otb ∧ (s.attention src c d).pcs = s.pcs ∧
    (s.attention src c d).csq = s.csq ∧ (s.attention src c d).pbf = s.pbf ∧ (s.attention src c d).csu = s.csu := by
  unfold State.attention; split <;> simp

@[simp] theorem State.placeExposure_frame (s : State) (n : Notice) :
    (s.placeExposure n).pending = s.pending ∧ (s.placeExposure n).lif = s.lif ∧ (s.placeExposure n).ldu = s.ldu ∧
    (s.placeExposure n).otb = s.otb ∧ (s.placeExposure n).pcs = s.pcs ∧ (s.placeExposure n).csq = s.csq ∧
    (s.placeExposure n).pbf = s.pbf ∧ (s.placeExposure n).csu = s.csu := by
  unfold State.placeExposure; split <;> simp

@[simp] theorem State.updateEntry_frame (s : State) (tag : Nat) (f : OpEntry → OpEntry) :
    (s.updateEntry tag f).pending = s.pending ∧ (s.updateEntry tag f).lif = s.lif ∧
    (s.updateEntry tag f).ldu = s.ldu ∧ (s.updateEntry tag f).otb = s.otb ∧ (s.updateEntry tag f).pcs = s.pcs ∧
    (s.updateEntry tag f).csq = s.csq ∧ (s.updateEntry tag f).pbf = s.pbf ∧ (s.updateEntry tag f).csu = s.csu := by
  and_intros <;> rfl

@[simp] theorem State.beginUnit_frame (s : State) (tag : Nat) :
    (s.beginUnit tag).pending = s.pending ∧ (s.beginUnit tag).lif = s.lif ∧ (s.beginUnit tag).ldu = s.ldu ∧
    (s.beginUnit tag).otb = s.otb ∧ (s.beginUnit tag).pcs = s.pcs ∧ (s.beginUnit tag).csq = s.csq ∧
    (s.beginUnit tag).pbf = s.pbf ∧ (s.beginUnit tag).csu = s.csu := by
  and_intros <;> rfl

@[simp] theorem State.countUnit_frame (s : State) (tag : Nat) :
    (s.countUnit tag).pending = s.pending ∧ (s.countUnit tag).lif = s.lif ∧ (s.countUnit tag).ldu = s.ldu ∧
    (s.countUnit tag).otb = s.otb ∧ (s.countUnit tag).pcs = s.pcs ∧ (s.countUnit tag).csq = s.csq ∧
    (s.countUnit tag).pbf = s.pbf ∧ (s.countUnit tag).csu = s.csu := by
  and_intros <;> rfl

@[simp] theorem State.markStopping_frame (s : State) (tag : Nat) (c : StopCause) :
    (s.markStopping tag c).pending = s.pending ∧ (s.markStopping tag c).lif = s.lif ∧
    (s.markStopping tag c).ldu = s.ldu ∧ (s.markStopping tag c).otb = s.otb ∧ (s.markStopping tag c).pcs = s.pcs ∧
    (s.markStopping tag c).csq = s.csq ∧ (s.markStopping tag c).pbf = s.pbf ∧ (s.markStopping tag c).csu = s.csu := by
  and_intros <;> rfl

@[simp] theorem State.enter_frame (s : State) (tag : Nat) (k : OpKind) (st : OpState) (p : Option Nat) :
    (s.enter tag k st p).pending = s.pending ∧ (s.enter tag k st p).lif = s.lif ∧ (s.enter tag k st p).ldu = s.ldu ∧
    (s.enter tag k st p).otb = s.otb ∧ (s.enter tag k st p).pcs = s.pcs ∧ (s.enter tag k st p).csq = s.csq ∧
    (s.enter tag k st p).pbf = s.pbf ∧ (s.enter tag k st p).csu = s.csu := by
  and_intros <;> rfl

@[simp] theorem State.removeEntry_frame (s : State) (tag : Nat) :
    (s.removeEntry tag).pending = s.pending ∧ (s.removeEntry tag).lif = s.lif ∧ (s.removeEntry tag).ldu = s.ldu ∧
    (s.removeEntry tag).otb = s.otb ∧ (s.removeEntry tag).pcs = s.pcs ∧ (s.removeEntry tag).csq = s.csq ∧
    (s.removeEntry tag).pbf = s.pbf ∧ (s.removeEntry tag).csu = s.csu := by
  and_intros <;> rfl

@[simp] theorem State.ending_frame (s : State) (tag : Nat) (c : EndClass) (u : Cause) (r : Resume) (n : Option Nat) (f : EndFields) :
    (s.ending tag c u r n f).pending = s.pending ∧ (s.ending tag c u r n f).lif = s.lif ∧
    (s.ending tag c u r n f).ldu = s.ldu ∧ (s.ending tag c u r n f).otb = s.otb ∧
    (s.ending tag c u r n f).pcs = s.pcs ∧ (s.ending tag c u r n f).csq = s.csq ∧
    (s.ending tag c u r n f).pbf = s.pbf ∧ (s.ending tag c u r n f).csu = s.csu := by
  unfold State.ending; split <;> simp

@[simp] theorem State.excLost_frame (s : State) :
    s.excLost.pending = s.pending ∧ s.excLost.lif = s.lif ∧ s.excLost.opt = s.opt ∧ s.excLost.ldu = s.ldu ∧
    s.excLost.otb = s.otb ∧ s.excLost.pcs = s.pcs ∧ s.excLost.csq = s.csq ∧ s.excLost.pbf = s.pbf ∧
    s.excLost.csu = s.csu := by
  and_intros <;> rfl

@[simp] theorem State.onSteady_frame (s : State) (f : SteadyAxis → SteadyAxis) :
    (s.onSteady f).pending = s.pending ∧ (s.onSteady f).lif = s.lif ∧ (s.onSteady f).opt = s.opt ∧
    (s.onSteady f).ldu = s.ldu ∧ (s.onSteady f).otb = s.otb ∧ (s.onSteady f).pcs = s.pcs ∧
    (s.onSteady f).csq = s.csq ∧ (s.onSteady f).pbf = s.pbf ∧ (s.onSteady f).csu = s.csu := by
  and_intros <;> rfl

@[simp] theorem State.centreStu_frame (s : State) :
    s.centreStu.pending = s.pending ∧ s.centreStu.lif = s.lif ∧ s.centreStu.opt = s.opt ∧
    s.centreStu.ldu = s.ldu ∧ s.centreStu.otb = s.otb ∧ s.centreStu.fmn = s.fmn ∧ s.centreStu.fsu = s.fsu ∧
    s.centreStu.pcs = s.pcs ∧ s.centreStu.csq = s.csq ∧ s.centreStu.pbf = s.pbf ∧ s.centreStu.csu = s.csu := by
  unfold State.centreStu; split <;> simp [State.onSteady]

@[simp] theorem State.geometryLost_frame (s : State) :
    s.geometryLost.pending = s.pending ∧ s.geometryLost.lif = s.lif ∧ s.geometryLost.opt = s.opt ∧
    s.geometryLost.ldu = s.ldu ∧ s.geometryLost.otb = s.otb ∧ s.geometryLost.fmn = s.fmn ∧ s.geometryLost.fsu = s.fsu ∧
    s.geometryLost.pcs = s.pcs ∧ s.geometryLost.csq = s.csq ∧ s.geometryLost.pbf = s.pbf ∧ s.geometryLost.csu = s.csu := by
  simp [State.geometryLost, State.excLost]

@[simp] theorem State.referenceLost_frame (s : State) (a : Axis) :
    (s.referenceLost a).pending = s.pending ∧ (s.referenceLost a).lif = s.lif ∧ (s.referenceLost a).opt = s.opt ∧
    (s.referenceLost a).ldu = s.ldu ∧ (s.referenceLost a).otb = s.otb ∧ (s.referenceLost a).fmn = s.fmn ∧ (s.referenceLost a).fsu = s.fsu ∧
    (s.referenceLost a).pcs = s.pcs ∧ (s.referenceLost a).csq = s.csq ∧ (s.referenceLost a).pbf = s.pbf ∧ (s.referenceLost a).csu = s.csu := by
  cases a <;> simp [State.referenceLost, State.excLost]

@[simp] theorem State.excFound_frame (s : State) :
    s.excFound.pending = s.pending ∧ s.excFound.lif = s.lif ∧ s.excFound.opt = s.opt ∧ s.excFound.ldu = s.ldu ∧
    s.excFound.otb = s.otb ∧ s.excFound.pcs = s.pcs ∧ s.excFound.csq = s.csq ∧ s.excFound.pbf = s.pbf ∧
    s.excFound.csu = s.csu := by
  unfold State.excFound; (repeat' split) <;> simp

@[simp] theorem State.markOpen_frame (s : State) (f : FrameRec → FrameRec) :
    (s.markOpen f).pending = s.pending ∧ (s.markOpen f).lif = s.lif ∧ (s.markOpen f).opt = s.opt ∧
    (s.markOpen f).ldu = s.ldu ∧ (s.markOpen f).otb = s.otb ∧ (s.markOpen f).pcs = s.pcs ∧
    (s.markOpen f).csq = s.csq ∧ (s.markOpen f).pbf = s.pbf ∧ (s.markOpen f).csu = s.csu := by
  unfold State.markOpen; split <;> simp

@[simp] theorem State.reportStep_frame (s : State) (a : Axis) :
    (s.reportStep a).pending = s.pending ∧ (s.reportStep a).lif = s.lif ∧ (s.reportStep a).opt = s.opt ∧
    (s.reportStep a).ldu = s.ldu ∧ (s.reportStep a).otb = s.otb ∧ (s.reportStep a).pcs = s.pcs ∧
    (s.reportStep a).csq = s.csq ∧ (s.reportStep a).pbf = s.pbf ∧ (s.reportStep a).csu = s.csu := by
  simp [State.reportStep]

@[simp] theorem State.reportClamped_frame (s : State) :
    s.reportClamped.pending = s.pending ∧ s.reportClamped.lif = s.lif ∧ s.reportClamped.opt = s.opt ∧
    s.reportClamped.ldu = s.ldu ∧ s.reportClamped.otb = s.otb ∧ s.reportClamped.pcs = s.pcs ∧
    s.reportClamped.csq = s.csq ∧ s.reportClamped.pbf = s.pbf ∧ s.reportClamped.csu = s.csu := by
  simp [State.reportClamped]

@[simp] theorem State.joinWait_frame (s : State) (a : Axis) (r : AxisRec) :
    (s.joinWait a r).pending = s.pending ∧ (s.joinWait a r).lif = s.lif ∧ (s.joinWait a r).opt = s.opt ∧
    (s.joinWait a r).otb = s.otb ∧ (s.joinWait a r).pcs = s.pcs ∧ (s.joinWait a r).csq = s.csq ∧
    (s.joinWait a r).pbf = s.pbf ∧ (s.joinWait a r).csu = s.csu := by
  simp [State.joinWait]

@[simp] theorem State.leaveWait_frame (s : State) (a : Axis) :
    (s.leaveWait a).pending = s.pending ∧ (s.leaveWait a).lif = s.lif ∧ (s.leaveWait a).opt = s.opt ∧
    (s.leaveWait a).otb = s.otb ∧ (s.leaveWait a).pcs = s.pcs ∧ (s.leaveWait a).csq = s.csq ∧
    (s.leaveWait a).pbf = s.pbf ∧ (s.leaveWait a).csu = s.csu := by
  and_intros <;> rfl

@[simp] theorem State.energizeAxis_frame (s : State) (a : Axis) (r : AxisRec) :
    (s.energizeAxis a r).pending = s.pending ∧ (s.energizeAxis a r).lif = s.lif ∧ (s.energizeAxis a r).opt = s.opt ∧
    (s.energizeAxis a r).otb = s.otb ∧ (s.energizeAxis a r).pcs = s.pcs ∧ (s.energizeAxis a r).csq = s.csq ∧
    (s.energizeAxis a r).pbf = s.pbf ∧ (s.energizeAxis a r).csu = s.csu := by
  unfold State.energizeAxis; split <;> simp

@[simp] theorem State.giveTarget_frame (s : State) (a : Axis) (v : Nat) :
    (s.giveTarget a v).1.pending = s.pending ∧ (s.giveTarget a v).1.lif = s.lif ∧ (s.giveTarget a v).1.opt = s.opt ∧
    (s.giveTarget a v).1.otb = s.otb ∧ (s.giveTarget a v).1.pcs = s.pcs ∧ (s.giveTarget a v).1.csq = s.csq ∧
    (s.giveTarget a v).1.pbf = s.pbf ∧ (s.giveTarget a v).1.csu = s.csu := by
  unfold State.giveTarget; dsimp only; (repeat' split) <;> simp

@[simp] theorem State.haltAxis_frame (s : State) (a : Axis) :
    (s.haltAxis a).pending = s.pending ∧ (s.haltAxis a).lif = s.lif ∧ (s.haltAxis a).opt = s.opt ∧
    (s.haltAxis a).otb = s.otb ∧ (s.haltAxis a).pcs = s.pcs ∧ (s.haltAxis a).csq = s.csq ∧
    (s.haltAxis a).pbf = s.pbf ∧ (s.haltAxis a).csu = s.csu := by
  unfold State.haltAxis; dsimp only; (repeat' split) <;> simp

@[simp] theorem State.beginStep_frame (s : State) (a : Axis) :
    (s.beginStep a).pending = s.pending ∧ (s.beginStep a).lif = s.lif ∧ (s.beginStep a).opt = s.opt ∧
    (s.beginStep a).otb = s.otb ∧ (s.beginStep a).pcs = s.pcs ∧ (s.beginStep a).csq = s.csq ∧
    (s.beginStep a).pbf = s.pbf ∧ (s.beginStep a).csu = s.csu := by
  simp [State.beginStep]

@[simp] theorem State.beginHoming_frame (s : State) (a : Axis) :
    (s.beginHoming a).pending = s.pending ∧ (s.beginHoming a).lif = s.lif ∧ (s.beginHoming a).otb = s.otb ∧
    (s.beginHoming a).pcs = s.pcs ∧ (s.beginHoming a).csq = s.csq ∧ (s.beginHoming a).pbf = s.pbf ∧
    (s.beginHoming a).csu = s.csu := by
  unfold State.beginHoming; dsimp only; (repeat' split) <;> simp

@[simp] theorem State.followPoint_frame (s : State) :
    s.followPoint.pending = s.pending ∧ s.followPoint.lif = s.lif ∧ s.followPoint.opt = s.opt ∧
    s.followPoint.otb = s.otb ∧ s.followPoint.pcs = s.pcs ∧ s.followPoint.csq = s.csq ∧ s.followPoint.pbf = s.pbf ∧
    s.followPoint.csu = s.csu := by
  simp [State.followPoint]

@[simp] theorem State.granted_frame (s : State) (a : Axis) :
    (s.granted a).pending = s.pending ∧ (s.granted a).lif = s.lif ∧ (s.granted a).otb = s.otb ∧
    (s.granted a).pcs = s.pcs ∧ (s.granted a).csq = s.csq ∧ (s.granted a).pbf = s.pbf ∧
    (s.granted a).csu = s.csu := by
  unfold State.granted; dsimp only; (repeat' split) <;> simp

@[simp] theorem State.grantOne_frame (s : State) :
    s.grantOne.pending = s.pending ∧ s.grantOne.lif = s.lif ∧ s.grantOne.otb = s.otb ∧ s.grantOne.pcs = s.pcs ∧
    s.grantOne.csq = s.csq ∧ s.grantOne.pbf = s.pbf ∧ s.grantOne.csu = s.csu := by
  unfold State.grantOne; (repeat' split) <;> simp

@[simp] theorem State.arbitrate_frame (s : State) :
    s.arbitrate.pending = s.pending ∧ s.arbitrate.lif = s.lif ∧ s.arbitrate.otb = s.otb ∧ s.arbitrate.pcs = s.pcs ∧
    s.arbitrate.csq = s.csq ∧ s.arbitrate.pbf = s.pbf ∧ s.arbitrate.csu = s.csu := by
  simp [State.arbitrate]

@[simp] theorem State.actIris_frame (s : State) :
    s.actIris.1.pending = s.pending ∧ s.actIris.1.lif = s.lif ∧ s.actIris.1.opt = s.opt ∧ s.actIris.1.otb = s.otb ∧
    s.actIris.1.pcs = s.pcs ∧ s.actIris.1.csq = s.csq ∧ s.actIris.1.pbf = s.pbf ∧ s.actIris.1.csu = s.csu := by
  and_intros <;> (unfold State.actIris; repeat' split) <;>
    first | (simp; done) | simp_all [pair_eq]

@[simp] theorem State.writeIris_frame (s : State) (v : Nat) (w : Writer) :
    (s.writeIris v w).1.pending = s.pending ∧ (s.writeIris v w).1.lif = s.lif ∧ (s.writeIris v w).1.otb = s.otb ∧
    (s.writeIris v w).1.pcs = s.pcs ∧ (s.writeIris v w).1.csq = s.csq ∧ (s.writeIris v w).1.pbf = s.pbf ∧
    (s.writeIris v w).1.csu = s.csu := by
  simp [State.writeIris]

@[simp] theorem State.discardIris_frame (s : State) :
    s.discardIris.pending = s.pending ∧ s.discardIris.lif = s.lif ∧ s.discardIris.opt = s.opt ∧
    s.discardIris.otb = s.otb ∧ s.discardIris.pcs = s.pcs ∧ s.discardIris.csq = s.csq ∧ s.discardIris.pbf = s.pbf ∧
    s.discardIris.csu = s.csu := by
  and_intros <;> rfl

@[simp] theorem State.claim_frame (s : State) (l : List Axis) (o : Owner) :
    (s.claim l o).pending = s.pending ∧ (s.claim l o).lif = s.lif ∧ (s.claim l o).opt = s.opt ∧
    (s.claim l o).otb = s.otb ∧ (s.claim l o).pcs = s.pcs ∧ (s.claim l o).csq = s.csq ∧ (s.claim l o).pbf = s.pbf ∧
    (s.claim l o).csu = s.csu := by
  simp [State.claim]

@[simp] theorem State.release_frame (s : State) (l : List Axis) :
    (s.release l).pending = s.pending ∧ (s.release l).lif = s.lif ∧ (s.release l).otb = s.otb ∧
    (s.release l).pcs = s.pcs ∧ (s.release l).csq = s.csq ∧ (s.release l).pbf = s.pbf ∧
    (s.release l).csu = s.csu := by
  unfold State.release; split <;> simp

@[simp] theorem State.setBody_frame (s : State) (tag : Nat) (f : LensBody → LensBody) :
    (s.setBody tag f).pending = s.pending ∧ (s.setBody tag f).lif = s.lif ∧ (s.setBody tag f).opt = s.opt ∧
    (s.setBody tag f).otb = s.otb ∧ (s.setBody tag f).pcs = s.pcs ∧ (s.setBody tag f).csq = s.csq ∧
    (s.setBody tag f).pbf = s.pbf ∧ (s.setBody tag f).csu = s.csu := by
  and_intros <;> rfl

@[simp] theorem State.markPart_frame (s : State) (a : Axis) (p : HomePart) :
    (s.markPart a p).pending = s.pending ∧ (s.markPart a p).lif = s.lif ∧ (s.markPart a p).opt = s.opt ∧
    (s.markPart a p).otb = s.otb ∧ (s.markPart a p).pcs = s.pcs ∧ (s.markPart a p).csq = s.csq ∧
    (s.markPart a p).pbf = s.pbf ∧ (s.markPart a p).csu = s.csu := by
  unfold State.markPart; split <;> simp

@[simp] theorem State.endLensOp_frame (s : State) (o : LensOp) :
    (s.endLensOp o).pending = s.pending ∧ (s.endLensOp o).lif = s.lif ∧ (s.endLensOp o).otb = s.otb ∧
    (s.endLensOp o).pcs = s.pcs ∧ (s.endLensOp o).csq = s.csq ∧ (s.endLensOp o).pbf = s.pbf ∧
    (s.endLensOp o).csu = s.csu := by
  unfold State.endLensOp; (repeat' split) <;> simp

@[simp] theorem State.checkLensEnd_frame (s : State) (tag : Nat) :
    (s.checkLensEnd tag).pending = s.pending ∧ (s.checkLensEnd tag).lif = s.lif ∧ (s.checkLensEnd tag).otb = s.otb ∧
    (s.checkLensEnd tag).pcs = s.pcs ∧ (s.checkLensEnd tag).csq = s.csq ∧ (s.checkLensEnd tag).pbf = s.pbf ∧
    (s.checkLensEnd tag).csu = s.csu := by
  unfold State.checkLensEnd; (repeat' split) <;> simp

@[simp] theorem State.addLensOp_frame (s : State) (tag : Nat) (k : OpKind) (b : LensBody) :
    (s.addLensOp tag k b).pending = s.pending ∧ (s.addLensOp tag k b).lif = s.lif ∧
    (s.addLensOp tag k b).opt = s.opt ∧ (s.addLensOp tag k b).otb = s.otb ∧ (s.addLensOp tag k b).pcs = s.pcs ∧
    (s.addLensOp tag k b).csq = s.csq ∧ (s.addLensOp tag k b).pbf = s.pbf ∧ (s.addLensOp tag k b).csu = s.csu := by
  simp [State.addLensOp]

@[simp] theorem State.markWaitStopped_frame (s : State) (tag : Nat) (w : Bool) :
    (s.markWaitStopped tag w).pending = s.pending ∧ (s.markWaitStopped tag w).lif = s.lif ∧
    (s.markWaitStopped tag w).opt = s.opt ∧ (s.markWaitStopped tag w).otb = s.otb ∧
    (s.markWaitStopped tag w).pcs = s.pcs ∧ (s.markWaitStopped tag w).csq = s.csq ∧
    (s.markWaitStopped tag w).pbf = s.pbf ∧ (s.markWaitStopped tag w).csu = s.csu := by
  and_intros <;> rfl

@[simp] theorem State.stopLensOp_frame (s : State) (tag : Nat) (w : Bool) :
    (s.stopLensOp tag w).pending = s.pending ∧ (s.stopLensOp tag w).lif = s.lif ∧ (s.stopLensOp tag w).otb = s.otb ∧
    (s.stopLensOp tag w).pcs = s.pcs ∧ (s.stopLensOp tag w).csq = s.csq ∧ (s.stopLensOp tag w).pbf = s.pbf ∧
    (s.stopLensOp tag w).csu = s.csu := by
  unfold State.stopLensOp; split <;> simp

@[simp] theorem State.lensLost_frame (s : State) (a : Axis) :
    (s.lensLost a).pending = s.pending ∧ (s.lensLost a).lif = s.lif ∧ (s.lensLost a).opt = s.opt ∧
    (s.lensLost a).otb = s.otb ∧ (s.lensLost a).pcs = s.pcs ∧ (s.lensLost a).csq = s.csq ∧
    (s.lensLost a).pbf = s.pbf ∧ (s.lensLost a).csu = s.csu := by
  and_intros <;> (unfold State.lensLost; dsimp only [List.foldl_cons, List.foldl_nil]; repeat' split) <;> simp

@[simp] theorem State.loseStep_frame (s : State) (a : Axis) (p : Nat) :
    (s.loseStep a p).pending = s.pending ∧ (s.loseStep a p).lif = s.lif ∧ (s.loseStep a p).otb = s.otb ∧
    (s.loseStep a p).pcs = s.pcs ∧ (s.loseStep a p).csq = s.csq ∧ (s.loseStep a p).pbf = s.pbf ∧
    (s.loseStep a p).csu = s.csu := by
  unfold State.loseStep; dsimp only; (repeat' split) <;> simp

@[simp] theorem State.countLens_frame (s : State) (tag : Nat) :
    (s.countLens tag).pending = s.pending ∧ (s.countLens tag).lif = s.lif ∧ (s.countLens tag).ldu = s.ldu ∧
    (s.countLens tag).otb = s.otb ∧ (s.countLens tag).pcs = s.pcs ∧ (s.countLens tag).csq = s.csq ∧
    (s.countLens tag).pbf = s.pbf ∧ (s.countLens tag).csu = s.csu := by
  unfold State.countLens; split <;> simp

@[simp] theorem State.countStep_frame (s : State) (a : Axis) :
    (s.countStep a).pending = s.pending ∧ (s.countStep a).lif = s.lif ∧ (s.countStep a).ldu = s.ldu ∧
    (s.countStep a).otb = s.otb ∧ (s.countStep a).pcs = s.pcs ∧ (s.countStep a).csq = s.csq ∧
    (s.countStep a).pbf = s.pbf ∧ (s.countStep a).csu = s.csu := by
  unfold State.countStep; (repeat' split) <;> simp

@[simp] theorem State.afterStep_frame (s : State) (a : Axis) :
    (s.afterStep a).pending = s.pending ∧ (s.afterStep a).lif = s.lif ∧ (s.afterStep a).opt = s.opt ∧
    (s.afterStep a).otb = s.otb ∧ (s.afterStep a).pcs = s.pcs ∧ (s.afterStep a).csq = s.csq ∧
    (s.afterStep a).pbf = s.pbf ∧ (s.afterStep a).csu = s.csu := by
  unfold State.afterStep; dsimp only; (repeat' split) <;> simp

@[simp] theorem State.moveStep_frame (s : State) (a : Axis) :
    (s.moveStep a).1.pending = s.pending ∧ (s.moveStep a).1.lif = s.lif ∧ (s.moveStep a).1.otb = s.otb ∧
    (s.moveStep a).1.pcs = s.pcs ∧ (s.moveStep a).1.csq = s.csq ∧ (s.moveStep a).1.pbf = s.pbf ∧
    (s.moveStep a).1.csu = s.csu := by
  unfold State.moveStep; dsimp only; (repeat' split) <;> simp

@[simp] theorem State.homingFound_frame (s : State) (a : Axis) :
    (s.homingFound a).pending = s.pending ∧ (s.homingFound a).lif = s.lif ∧ (s.homingFound a).opt = s.opt ∧
    (s.homingFound a).otb = s.otb ∧ (s.homingFound a).pcs = s.pcs ∧ (s.homingFound a).csq = s.csq ∧
    (s.homingFound a).pbf = s.pbf ∧ (s.homingFound a).csu = s.csu := by
  unfold State.homingFound; dsimp only; (repeat' split) <;> simp

@[simp] theorem State.homingStep_frame (s : State) (a : Axis) :
    (s.homingStep a).pending = s.pending ∧ (s.homingStep a).lif = s.lif ∧ (s.homingStep a).otb = s.otb ∧
    (s.homingStep a).pcs = s.pcs ∧ (s.homingStep a).csq = s.csq ∧ (s.homingStep a).pbf = s.pbf ∧
    (s.homingStep a).csu = s.csu := by
  unfold State.homingStep; dsimp only; (repeat' split) <;> simp

@[simp] theorem State.completeStep_frame (s : State) (a : Axis) :
    (s.completeStep a).1.pending = s.pending ∧ (s.completeStep a).1.lif = s.lif ∧ (s.completeStep a).1.otb = s.otb ∧
    (s.completeStep a).1.pcs = s.pcs ∧ (s.completeStep a).1.csq = s.csq ∧ (s.completeStep a).1.pbf = s.pbf ∧
    (s.completeStep a).1.csu = s.csu := by
  unfold State.completeStep; split <;> simp

end Sys2Proof.Machine
end

