-- ==== Sys2Proof/Laws/FramesLoops.lean ====
section
/-! SUPPORT. What the operations of Exposure.lean, Steadying.lean, Focus.lean and Buffer.lean leave alone. -/

namespace Sys2Proof.Machine

-- one declaration after another: each unfolds operations whose equations another would be waiting for
set_option Elab.async false

@[simp] theorem State.setX_frame (s : State) (x : Int) :
    (s.setX x).pending = s.pending ∧ (s.setX x).lif = s.lif ∧ (s.setX x).opt = s.opt ∧ (s.setX x).ldu = s.ldu ∧
    (s.setX x).otb = s.otb ∧ (s.setX x).pcs = s.pcs ∧ (s.setX x).csq = s.csq ∧ (s.setX x).pbf = s.pbf ∧
    (s.setX x).csu = s.csu := by
  unfold State.setX; (repeat' split) <;> simp

@[simp] theorem State.converge_frame (s : State) (x : Int) :
    (s.converge x).1.pending = s.pending ∧ (s.converge x).1.lif = s.lif ∧ (s.converge x).1.opt = s.opt ∧
    (s.converge x).1.ldu = s.ldu ∧ (s.converge x).1.otb = s.otb ∧ (s.converge x).1.pcs = s.pcs ∧
    (s.converge x).1.csq = s.csq ∧ (s.converge x).1.pbf = s.pbf ∧ (s.converge x).1.csu = s.csu := by
  unfold State.converge; dsimp only; (repeat' split) <;> simp

@[simp] theorem State.excOffer_frame (s : State) (r : FrameRec) :
    (s.excOffer r).1.pending = s.pending ∧ (s.excOffer r).1.lif = s.lif ∧ (s.excOffer r).1.opt = s.opt ∧
    (s.excOffer r).1.ldu = s.ldu ∧ (s.excOffer r).1.otb = s.otb ∧ (s.excOffer r).1.pcs = s.pcs ∧
    (s.excOffer r).1.csq = s.csq ∧ (s.excOffer r).1.pbf = s.pbf ∧ (s.excOffer r).1.csu = s.csu := by
  unfold State.excOffer; (repeat' split) <;> simp

@[simp] theorem State.sendExposure_frame (s : State) (e : ExpEntry) :
    (s.sendExposure e).pending = s.pending ∧ (s.sendExposure e).lif = s.lif ∧ (s.sendExposure e).ldu = s.ldu ∧
    (s.sendExposure e).otb = s.otb ∧ (s.sendExposure e).pcs = s.pcs ∧ (s.sendExposure e).csq = s.csq ∧
    (s.sendExposure e).pbf = s.pbf ∧ (s.sendExposure e).csu = s.csu := by
  simp [State.sendExposure]

@[simp] theorem State.issue_frame (s : State) (e : ExpEntry) :
    (s.issue e).pending = s.pending ∧ (s.issue e).lif = s.lif ∧ (s.issue e).ldu = s.ldu ∧ (s.issue e).otb = s.otb ∧
    (s.issue e).pcs = s.pcs ∧ (s.issue e).csq = s.csq ∧ (s.issue e).pbf = s.pbf ∧ (s.issue e).csu = s.csu := by
  simp [State.issue]

@[simp] theorem State.issueOrKeep_frame (s : State) (e : ExpEntry) :
    (s.issueOrKeep e).pending = s.pending ∧ (s.issueOrKeep e).lif = s.lif ∧ (s.issueOrKeep e).ldu = s.ldu ∧
    (s.issueOrKeep e).otb = s.otb ∧ (s.issueOrKeep e).pcs = s.pcs ∧ (s.issueOrKeep e).csq = s.csq ∧
    (s.issueOrKeep e).pbf = s.pbf ∧ (s.issueOrKeep e).csu = s.csu := by
  unfold State.issueOrKeep; (repeat' split) <;> simp

@[simp] theorem State.excFrame_frame (s : State) :
    s.excFrame.pending = s.pending ∧ s.excFrame.lif = s.lif ∧ s.excFrame.otb = s.otb ∧ s.excFrame.pcs = s.pcs ∧
    s.excFrame.csq = s.csq ∧ s.excFrame.pbf = s.pbf ∧ s.excFrame.csu = s.csu := by
  unfold State.excFrame; (repeat' split) <;> simp

@[simp] theorem State.requestLock_frame (s : State) :
    s.requestLock.1.pending = s.pending ∧ s.requestLock.1.lif = s.lif ∧ s.requestLock.1.opt = s.opt ∧
    s.requestLock.1.ldu = s.ldu ∧ s.requestLock.1.otb = s.otb ∧ s.requestLock.1.pcs = s.pcs ∧
    s.requestLock.1.csq = s.csq ∧ s.requestLock.1.pbf = s.pbf ∧ s.requestLock.1.csu = s.csu := by
  unfold State.requestLock; (repeat' split) <;> simp

@[simp] theorem State.giveUpLock_frame (s : State) :
    s.giveUpLock.pending = s.pending ∧ s.giveUpLock.lif = s.lif ∧ s.giveUpLock.opt = s.opt ∧
    s.giveUpLock.ldu = s.ldu ∧ s.giveUpLock.otb = s.otb ∧ s.giveUpLock.pcs = s.pcs ∧ s.giveUpLock.csq = s.csq ∧
    s.giveUpLock.pbf = s.pbf ∧ s.giveUpLock.csu = s.csu := by
  and_intros <;> rfl

@[simp] theorem State.deriveStu_frame (s : State) :
    s.deriveStu.pending = s.pending ∧ s.deriveStu.lif = s.lif ∧ s.deriveStu.opt = s.opt ∧ s.deriveStu.ldu = s.ldu ∧
    s.deriveStu.otb = s.otb ∧ s.deriveStu.pcs = s.pcs ∧ s.deriveStu.csq = s.csq ∧ s.deriveStu.pbf = s.pbf ∧
    s.deriveStu.csu = s.csu := by
  unfold State.deriveStu; (repeat' split) <;> simp

@[simp] theorem State.setWindow_frame (s : State) (b : Bool) :
    (s.setWindow b).pending = s.pending ∧ (s.setWindow b).lif = s.lif ∧ (s.setWindow b).opt = s.opt ∧
    (s.setWindow b).ldu = s.ldu ∧ (s.setWindow b).otb = s.otb ∧ (s.setWindow b).pcs = s.pcs ∧
    (s.setWindow b).csq = s.csq ∧ (s.setWindow b).pbf = s.pbf ∧ (s.setWindow b).csu = s.csu := by
  simp [State.setWindow]

@[simp] theorem State.enterStu_frame (s : State) (x : StuState) :
    (s.enterStu x).pending = s.pending ∧ (s.enterStu x).lif = s.lif ∧ (s.enterStu x).opt = s.opt ∧
    (s.enterStu x).ldu = s.ldu ∧ (s.enterStu x).otb = s.otb ∧ (s.enterStu x).pcs = s.pcs ∧
    (s.enterStu x).csq = s.csq ∧ (s.enterStu x).pbf = s.pbf ∧ (s.enterStu x).csu = s.csu := by
  and_intros <;> rfl

@[simp] theorem State.endCalibration_frame (s : State) (c : EndClass) (u : Cause) (n : Option Nat) (j : Nat) (l : Option WindowReport) :
    (s.endCalibration c u n j l).pending = s.pending ∧ (s.endCalibration c u n j l).lif = s.lif ∧
    (s.endCalibration c u n j l).ldu = s.ldu ∧ (s.endCalibration c u n j l).otb = s.otb ∧
    (s.endCalibration c u n j l).pcs = s.pcs ∧ (s.endCalibration c u n j l).csq = s.csq ∧
    (s.endCalibration c u n j l).pbf = s.pbf ∧ (s.endCalibration c u n j l).csu = s.csu := by
  unfold State.endCalibration; split <;> simp

@[simp] theorem State.setOffset_frame (s : State) (y p : Int) :
    (s.setOffset y p).pending = s.pending ∧ (s.setOffset y p).lif = s.lif ∧ (s.setOffset y p).opt = s.opt ∧
    (s.setOffset y p).ldu = s.ldu ∧ (s.setOffset y p).otb = s.otb ∧ (s.setOffset y p).pcs = s.pcs ∧
    (s.setOffset y p).csq = s.csq ∧ (s.setOffset y p).pbf = s.pbf ∧ (s.setOffset y p).csu = s.csu := by
  simp [State.setOffset]

@[simp] theorem State.judgeWindow_frame (s : State) (c : Calibration) :
    (s.judgeWindow c).pending = s.pending ∧ (s.judgeWindow c).lif = s.lif ∧ (s.judgeWindow c).ldu = s.ldu ∧
    (s.judgeWindow c).otb = s.otb ∧ (s.judgeWindow c).pcs = s.pcs ∧ (s.judgeWindow c).csq = s.csq ∧
    (s.judgeWindow c).pbf = s.pbf ∧ (s.judgeWindow c).csu = s.csu := by
  unfold State.judgeWindow; (repeat' split) <;> simp

@[simp] theorem State.stopCalibration_frame (s : State) (tag : Nat) :
    (s.stopCalibration tag).pending = s.pending ∧ (s.stopCalibration tag).lif = s.lif ∧
    (s.stopCalibration tag).ldu = s.ldu ∧ (s.stopCalibration tag).otb = s.otb ∧
    (s.stopCalibration tag).pcs = s.pcs ∧ (s.stopCalibration tag).csq = s.csq ∧
    (s.stopCalibration tag).pbf = s.pbf ∧ (s.stopCalibration tag).csu = s.csu := by
  unfold State.stopCalibration; (repeat' split) <;> simp

@[simp] theorem State.calibrate_frame (s : State) (x : Sample) :
    (s.calibrate x).pending = s.pending ∧ (s.calibrate x).lif = s.lif ∧ (s.calibrate x).ldu = s.ldu ∧
    (s.calibrate x).otb = s.otb ∧ (s.calibrate x).pcs = s.pcs ∧ (s.calibrate x).csq = s.csq ∧
    (s.calibrate x).pbf = s.pbf ∧ (s.calibrate x).csu = s.csu := by
  unfold State.calibrate; dsimp only; (repeat' split) <;> simp

@[simp] theorem State.latchFault_frame (s : State) (d : Nat) :
    (s.latchFault d).pending = s.pending ∧ (s.latchFault d).lif = s.lif ∧ (s.latchFault d).ldu = s.ldu ∧
    (s.latchFault d).otb = s.otb ∧ (s.latchFault d).pcs = s.pcs ∧ (s.latchFault d).csq = s.csq ∧
    (s.latchFault d).pbf = s.pbf ∧ (s.latchFault d).csu = s.csu := by
  unfold State.latchFault; dsimp only; (repeat' split) <;> simp

@[simp] theorem State.superviseStage_frame (s : State) :
    s.superviseStage.pending = s.pending ∧ s.superviseStage.lif = s.lif ∧ s.superviseStage.ldu = s.ldu ∧
    s.superviseStage.otb = s.otb ∧ s.superviseStage.pcs = s.pcs ∧ s.superviseStage.csq = s.csq ∧
    s.superviseStage.pbf = s.pbf ∧ s.superviseStage.csu = s.csu := by
  unfold State.superviseStage; dsimp only; (repeat' split) <;> simp

@[simp] theorem State.panning_frame (s : State) (b : Bool) :
    (s.panning b).pending = s.pending ∧ (s.panning b).lif = s.lif ∧ (s.panning b).opt = s.opt ∧
    (s.panning b).ldu = s.ldu ∧ (s.panning b).otb = s.otb ∧ (s.panning b).pcs = s.pcs ∧ (s.panning b).csq = s.csq ∧
    (s.panning b).pbf = s.pbf ∧ (s.panning b).csu = s.csu := by
  unfold State.panning; (repeat' split) <;> simp

@[simp] theorem State.integrateStage_frame (s : State) (x : Sample) :
    (s.integrateStage x).pending = s.pending ∧ (s.integrateStage x).lif = s.lif ∧ (s.integrateStage x).opt = s.opt ∧
    (s.integrateStage x).ldu = s.ldu ∧ (s.integrateStage x).otb = s.otb ∧ (s.integrateStage x).pcs = s.pcs ∧
    (s.integrateStage x).csq = s.csq ∧ (s.integrateStage x).pbf = s.pbf ∧ (s.integrateStage x).csu = s.csu := by
  unfold State.integrateStage; dsimp only; (repeat' split) <;> simp

@[simp] theorem State.recentre_frame (s : State) :
    s.recentre.1.pending = s.pending ∧ s.recentre.1.lif = s.lif ∧ s.recentre.1.opt = s.opt ∧
    s.recentre.1.ldu = s.ldu ∧ s.recentre.1.otb = s.otb ∧ s.recentre.1.pcs = s.pcs ∧ s.recentre.1.csq = s.csq ∧
    s.recentre.1.pbf = s.pbf ∧ s.recentre.1.csu = s.csu := by
  unfold State.recentre; dsimp only; (repeat' split) <;> simp

@[simp] theorem State.checkCentred_frame (s : State) :
    s.checkCentred.1.pending = s.pending ∧ s.checkCentred.1.lif = s.lif ∧ s.checkCentred.1.opt = s.opt ∧
    s.checkCentred.1.ldu = s.ldu ∧ s.checkCentred.1.otb = s.otb ∧ s.checkCentred.1.pcs = s.pcs ∧
    s.checkCentred.1.csq = s.csq ∧ s.checkCentred.1.pbf = s.pbf ∧ s.checkCentred.1.csu = s.csu := by
  unfold State.checkCentred; split <;> simp

@[simp] theorem State.readShift_frame (s : State) (x : Sample) :
    (s.readShift x).pending = s.pending ∧ (s.readShift x).lif = s.lif ∧ (s.readShift x).opt = s.opt ∧
    (s.readShift x).ldu = s.ldu ∧ (s.readShift x).otb = s.otb ∧ (s.readShift x).pcs = s.pcs ∧
    (s.readShift x).csq = s.csq ∧ (s.readShift x).pbf = s.pbf ∧ (s.readShift x).csu = s.csu := by
  and_intros <;> rfl

@[simp] theorem State.sampleStu_frame (s : State) (x : Sample) :
    (s.sampleStu x).1.pending = s.pending ∧ (s.sampleStu x).1.lif = s.lif ∧ (s.sampleStu x).1.ldu = s.ldu ∧
    (s.sampleStu x).1.otb = s.otb ∧ (s.sampleStu x).1.pcs = s.pcs ∧ (s.sampleStu x).1.csq = s.csq ∧
    (s.sampleStu x).1.pbf = s.pbf ∧ (s.sampleStu x).1.csu = s.csu := by
  simp [State.sampleStu]

@[simp] theorem State.restartStu_frame (s : State) :
    s.restartStu.pending = s.pending ∧ s.restartStu.lif = s.lif ∧ s.restartStu.opt = s.opt ∧
    s.restartStu.ldu = s.ldu ∧ s.restartStu.otb = s.otb ∧ s.restartStu.pcs = s.pcs ∧ s.restartStu.csq = s.csq ∧
    s.restartStu.pbf = s.pbf ∧ s.restartStu.csu = s.csu := by
  and_intros <;> rfl

@[simp] theorem State.exchangeStu_frame (s : State) (m : SteadyMode) (l : Nat) :
    (s.exchangeStu m l).pending = s.pending ∧ (s.exchangeStu m l).lif = s.lif ∧ (s.exchangeStu m l).opt = s.opt ∧
    (s.exchangeStu m l).ldu = s.ldu ∧ (s.exchangeStu m l).otb = s.otb ∧ (s.exchangeStu m l).pcs = s.pcs ∧
    (s.exchangeStu m l).csq = s.csq ∧ (s.exchangeStu m l).pbf = s.pbf ∧ (s.exchangeStu m l).csu = s.csu := by
  simp [State.exchangeStu]

@[simp] theorem State.setScan_frame (s : State) (c : Option Scan) :
    (s.setScan c).pending = s.pending ∧ (s.setScan c).lif = s.lif ∧ (s.setScan c).opt = s.opt ∧
    (s.setScan c).ldu = s.ldu ∧ (s.setScan c).otb = s.otb ∧ (s.setScan c).pcs = s.pcs ∧ (s.setScan c).csq = s.csq ∧
    (s.setScan c).pbf = s.pbf ∧ (s.setScan c).csu = s.csu := by
  and_intros <;> rfl

@[simp] theorem State.beginScanUnit_frame (s : State) (c : Scan) :
    (s.beginScanUnit c).pending = s.pending ∧ (s.beginScanUnit c).lif = s.lif ∧ (s.beginScanUnit c).ldu = s.ldu ∧
    (s.beginScanUnit c).otb = s.otb ∧ (s.beginScanUnit c).pcs = s.pcs ∧ (s.beginScanUnit c).csq = s.csq ∧
    (s.beginScanUnit c).pbf = s.pbf ∧ (s.beginScanUnit c).csu = s.csu := by
  unfold State.beginScanUnit; split <;> simp

@[simp] theorem State.countScanUnit_frame (s : State) (c : Scan) :
    (s.countScanUnit c).pending = s.pending ∧ (s.countScanUnit c).lif = s.lif ∧ (s.countScanUnit c).ldu = s.ldu ∧
    (s.countScanUnit c).otb = s.otb ∧ (s.countScanUnit c).pcs = s.pcs ∧ (s.countScanUnit c).csq = s.csq ∧
    (s.countScanUnit c).pbf = s.pbf ∧ (s.countScanUnit c).csu = s.csu := by
  unfold State.countScanUnit; split <;> simp

@[simp] theorem State.finishScan_frame (s : State) (c : Scan) (k : EndClass) (u : Cause) (r : Option ScanResult) (w n : Option Nat) :
    (s.finishScan c k u r w n).1.pending = s.pending ∧ (s.finishScan c k u r w n).1.lif = s.lif ∧
    (s.finishScan c k u r w n).1.opt = s.opt ∧ (s.finishScan c k u r w n).1.ldu = s.ldu ∧
    (s.finishScan c k u r w n).1.otb = s.otb ∧ (s.finishScan c k u r w n).1.pcs = s.pcs ∧
    (s.finishScan c k u r w n).1.csq = s.csq ∧ (s.finishScan c k u r w n).1.pbf = s.pbf ∧
    (s.finishScan c k u r w n).1.csu = s.csu := by
  and_intros <;> rfl

@[simp] theorem State.recomputeD_frame (s : State) :
    s.recomputeD.pending = s.pending ∧ s.recomputeD.lif = s.lif ∧ s.recomputeD.opt = s.opt ∧
    s.recomputeD.otb = s.otb ∧ s.recomputeD.pcs = s.pcs ∧ s.recomputeD.csq = s.csq ∧ s.recomputeD.pbf = s.pbf ∧
    s.recomputeD.csu = s.csu := by
  and_intros <;> rfl

@[simp] theorem State.scanLost_frame (s : State) (c : Scan) :
    (s.scanLost c).1.pending = s.pending ∧ (s.scanLost c).1.lif = s.lif ∧ (s.scanLost c).1.opt = s.opt ∧
    (s.scanLost c).1.ldu = s.ldu ∧ (s.scanLost c).1.otb = s.otb ∧ (s.scanLost c).1.pcs = s.pcs ∧
    (s.scanLost c).1.csq = s.csq ∧ (s.scanLost c).1.pbf = s.pbf ∧ (s.scanLost c).1.csu = s.csu := by
  unfold State.scanLost; split <;> simp

@[simp] theorem State.enterFrameWait_frame (s : State) (c : Scan) :
    (s.enterFrameWait c).pending = s.pending ∧ (s.enterFrameWait c).lif = s.lif ∧ (s.enterFrameWait c).opt = s.opt ∧
    (s.enterFrameWait c).ldu = s.ldu ∧ (s.enterFrameWait c).otb = s.otb ∧ (s.enterFrameWait c).pcs = s.pcs ∧
    (s.enterFrameWait c).csq = s.csq ∧ (s.enterFrameWait c).pbf = s.pbf ∧ (s.enterFrameWait c).csu = s.csu := by
  and_intros <;> rfl

@[simp] theorem State.finalArrival_frame (s : State) (c : Scan) :
    (s.finalArrival c).1.pending = s.pending ∧ (s.finalArrival c).1.lif = s.lif ∧ (s.finalArrival c).1.otb = s.otb ∧
    (s.finalArrival c).1.pcs = s.pcs ∧ (s.finalArrival c).1.csq = s.csq ∧ (s.finalArrival c).1.pbf = s.pbf ∧
    (s.finalArrival c).1.csu = s.csu := by
  unfold State.finalArrival; dsimp only; (repeat' split) <;> simp

@[simp] theorem State.travelFinal_frame (s : State) (c : Scan) (p : Nat) (g : ScanGoal) :
    (s.travelFinal c p g).1.pending = s.pending ∧ (s.travelFinal c p g).1.lif = s.lif ∧
    (s.travelFinal c p g).1.otb = s.otb ∧ (s.travelFinal c p g).1.pcs = s.pcs ∧ (s.travelFinal c p g).1.csq = s.csq ∧
    (s.travelFinal c p g).1.pbf = s.pbf ∧ (s.travelFinal c p g).1.csu = s.csu := by
  and_intros <;> (unfold State.travelFinal; repeat' split) <;>
    first | (simp; done) | simp_all [pair_eq]

@[simp] theorem State.travelUnit_frame (s : State) (c : Scan) (i : Nat) :
    (s.travelUnit c i).1.pending = s.pending ∧ (s.travelUnit c i).1.lif = s.lif ∧ (s.travelUnit c i).1.otb = s.otb ∧
    (s.travelUnit c i).1.pcs = s.pcs ∧ (s.travelUnit c i).1.csq = s.csq ∧ (s.travelUnit c i).1.pbf = s.pbf ∧
    (s.travelUnit c i).1.csu = s.csu := by
  and_intros <;> (unfold State.travelUnit; dsimp only; repeat' split) <;>
    first | (simp; done) | simp_all [pair_eq]

@[simp] theorem State.startScan_frame (s : State) (u : ScanUser) (p : ScanPlan) :
    (s.startScan u p).1.pending = s.pending ∧ (s.startScan u p).1.lif = s.lif ∧ (s.startScan u p).1.otb = s.otb ∧
    (s.startScan u p).1.pcs = s.pcs ∧ (s.startScan u p).1.csq = s.csq ∧ (s.startScan u p).1.pbf = s.pbf ∧
    (s.startScan u p).1.csu = s.csu := by
  simp [State.startScan]

@[simp] theorem State.scanStepped_frame (s : State) (r : AxisRec) :
    (s.scanStepped r).pending = s.pending ∧ (s.scanStepped r).lif = s.lif ∧ (s.scanStepped r).ldu = s.ldu ∧
    (s.scanStepped r).otb = s.otb ∧ (s.scanStepped r).pcs = s.pcs ∧ (s.scanStepped r).csq = s.csq ∧
    (s.scanStepped r).pbf = s.pbf ∧ (s.scanStepped r).csu = s.csu := by
  unfold State.scanStepped; (repeat' split) <;> simp

@[simp] theorem State.scanArrived_frame (s : State) :
    s.scanArrived.1.pending = s.pending ∧ s.scanArrived.1.lif = s.lif ∧ s.scanArrived.1.otb = s.otb ∧
    s.scanArrived.1.pcs = s.pcs ∧ s.scanArrived.1.csq = s.csq ∧ s.scanArrived.1.pbf = s.pbf ∧
    s.scanArrived.1.csu = s.csu := by
  unfold State.scanArrived; (repeat' split) <;> simp

@[simp] theorem State.infinityStep_frame (s : State) :
    s.infinityStep.1.pending = s.pending ∧ s.infinityStep.1.lif = s.lif ∧ s.infinityStep.1.opt = s.opt ∧
    s.infinityStep.1.ldu = s.ldu ∧ s.infinityStep.1.otb = s.otb ∧ s.infinityStep.1.pcs = s.pcs ∧
    s.infinityStep.1.csq = s.csq ∧ s.infinityStep.1.pbf = s.pbf ∧ s.infinityStep.1.csu = s.csu := by
  unfold State.infinityStep; split <;> simp

@[simp] theorem State.positionsOut_frame (s : State) (c : Scan) :
    (s.positionsOut c).1.pending = s.pending ∧ (s.positionsOut c).1.lif = s.lif ∧ (s.positionsOut c).1.otb = s.otb ∧
    (s.positionsOut c).1.pcs = s.pcs ∧ (s.positionsOut c).1.csq = s.csq ∧ (s.positionsOut c).1.pbf = s.pbf ∧
    (s.positionsOut c).1.csu = s.csu := by
  unfold State.positionsOut; dsimp only; (repeat' split) <;> simp

@[simp] theorem State.compareRecord_frame (s : State) (c : Scan) (r : FrameRec) :
    (s.compareRecord c r).1.pending = s.pending ∧ (s.compareRecord c r).1.lif = s.lif ∧
    (s.compareRecord c r).1.otb = s.otb ∧ (s.compareRecord c r).1.pcs = s.pcs ∧ (s.compareRecord c r).1.csq = s.csq ∧
    (s.compareRecord c r).1.pbf = s.pbf ∧ (s.compareRecord c r).1.csu = s.csu := by
  unfold State.compareRecord; dsimp only; (repeat' split) <;> simp

@[simp] theorem State.waitFails_frame (s : State) (c : Scan) (u : Cause) :
    (s.waitFails c u).1.pending = s.pending ∧ (s.waitFails c u).1.lif = s.lif ∧ (s.waitFails c u).1.otb = s.otb ∧
    (s.waitFails c u).1.pcs = s.pcs ∧ (s.waitFails c u).1.csq = s.csq ∧ (s.waitFails c u).1.pbf = s.pbf ∧
    (s.waitFails c u).1.csu = s.csu := by
  unfold State.waitFails; (repeat' split) <;> simp

@[simp] theorem State.fsuOffer_frame (s : State) (r : FrameRec) :
    (s.fsuOffer r).1.pending = s.pending ∧ (s.fsuOffer r).1.lif = s.lif ∧ (s.fsuOffer r).1.otb = s.otb ∧
    (s.fsuOffer r).1.pcs = s.pcs ∧ (s.fsuOffer r).1.csq = s.csq ∧ (s.fsuOffer r).1.pbf = s.pbf ∧
    (s.fsuOffer r).1.csu = s.csu := by
  unfold State.fsuOffer; (repeat' split) <;> simp

@[simp] theorem State.fsuFrame_frame (s : State) (n : Option Nat) :
    (s.fsuFrame n).1.pending = s.pending ∧ (s.fsuFrame n).1.lif = s.lif ∧ (s.fsuFrame n).1.otb = s.otb ∧
    (s.fsuFrame n).1.pcs = s.pcs ∧ (s.fsuFrame n).1.csq = s.csq ∧ (s.fsuFrame n).1.pbf = s.pbf ∧
    (s.fsuFrame n).1.csu = s.csu := by
  unfold State.fsuFrame; dsimp only; (repeat' split) <;> simp

@[simp] theorem State.stopScan_frame (s : State) (c : StopCause) :
    (s.stopScan c).1.pending = s.pending ∧ (s.stopScan c).1.lif = s.lif ∧ (s.stopScan c).1.otb = s.otb ∧
    (s.stopScan c).1.pcs = s.pcs ∧ (s.stopScan c).1.csq = s.csq ∧ (s.stopScan c).1.pbf = s.pbf ∧
    (s.stopScan c).1.csu = s.csu := by
  unfold State.stopScan; (repeat' split) <;> simp

@[simp] theorem State.freeRecord_frame (s : State) (id : Nat) :
    (s.freeRecord id).pending = s.pending ∧ (s.freeRecord id).lif = s.lif ∧ (s.freeRecord id).opt = s.opt ∧
    (s.freeRecord id).ldu = s.ldu ∧ (s.freeRecord id).otb = s.otb ∧ (s.freeRecord id).pcs = s.pcs ∧
    (s.freeRecord id).csq = s.csq := by
  unfold State.freeRecord; split <;> simp

@[simp] theorem State.freeRecords_frame (s : State) (p : PicRecord → Bool) :
    (s.freeRecords p).pending = s.pending ∧ (s.freeRecords p).lif = s.lif ∧ (s.freeRecords p).opt = s.opt ∧
    (s.freeRecords p).ldu = s.ldu ∧ (s.freeRecords p).otb = s.otb ∧ (s.freeRecords p).exc = s.exc ∧
    (s.freeRecords p).pcs = s.pcs ∧ (s.freeRecords p).csq = s.csq ∧ (s.freeRecords p).csu = s.csu := by
  simp [State.freeRecords]

@[simp] theorem State.setRecord_frame (s : State) (id : Nat) (f : PicRecord → PicRecord) :
    (s.setRecord id f).pending = s.pending ∧ (s.setRecord id f).lif = s.lif ∧ (s.setRecord id f).opt = s.opt ∧
    (s.setRecord id f).ldu = s.ldu ∧ (s.setRecord id f).otb = s.otb ∧ (s.setRecord id f).pcs = s.pcs ∧
    (s.setRecord id f).csq = s.csq ∧ (s.setRecord id f).csu = s.csu := by
  and_intros <;> rfl

@[simp] theorem State.grant_frame (s : State) (id tag pos : Nat) :
    (s.grant id tag pos).pending = s.pending ∧ (s.grant id tag pos).lif = s.lif ∧ (s.grant id tag pos).opt = s.opt ∧
    (s.grant id tag pos).ldu = s.ldu ∧ (s.grant id tag pos).otb = s.otb ∧ (s.grant id tag pos).pcs = s.pcs ∧
    (s.grant id tag pos).csq = s.csq ∧ (s.grant id tag pos).csu = s.csu := by
  and_intros <;> rfl

@[simp] theorem State.setRequest_frame (s : State) (b : Bool) :
    (s.setRequest b).pending = s.pending ∧ (s.setRequest b).lif = s.lif ∧ (s.setRequest b).opt = s.opt ∧
    (s.setRequest b).ldu = s.ldu ∧ (s.setRequest b).otb = s.otb ∧ (s.setRequest b).pcs = s.pcs ∧
    (s.setRequest b).csq = s.csq ∧ (s.setRequest b).csu = s.csu := by
  and_intros <;> rfl

@[simp] theorem State.setEngine_frame (s : State) (e : Engine) :
    (s.setEngine e).pending = s.pending ∧ (s.setEngine e).lif = s.lif ∧ (s.setEngine e).opt = s.opt ∧
    (s.setEngine e).ldu = s.ldu ∧ (s.setEngine e).otb = s.otb ∧ (s.setEngine e).pcs = s.pcs ∧
    (s.setEngine e).csq = s.csq ∧ (s.setEngine e).csu = s.csu := by
  and_intros <;> rfl

@[simp] theorem State.dropAtLimit_frame (s : State) (id : Nat) :
    (s.dropAtLimit id).pending = s.pending ∧ (s.dropAtLimit id).lif = s.lif ∧ (s.dropAtLimit id).opt = s.opt ∧
    (s.dropAtLimit id).ldu = s.ldu ∧ (s.dropAtLimit id).otb = s.otb ∧ (s.dropAtLimit id).pcs = s.pcs ∧
    (s.dropAtLimit id).csq = s.csq := by
  unfold State.dropAtLimit; (repeat' split) <;> simp

@[simp] theorem State.strobe_frame (s : State) (b : Byte) :
    (s.strobe b).pending = s.pending ∧ (s.strobe b).lif = s.lif ∧ (s.strobe b).opt = s.opt ∧
    (s.strobe b).ldu = s.ldu ∧ (s.strobe b).otb = s.otb ∧ (s.strobe b).pcs = s.pcs ∧ (s.strobe b).csq = s.csq ∧
    (s.strobe b).csu = s.csu := by
  and_intros <;> rfl

@[simp] theorem State.stray_frame (s : State) (r : Bool) :
    (s.stray r).pending = s.pending ∧ (s.stray r).lif = s.lif ∧ (s.stray r).ldu = s.ldu ∧ (s.stray r).otb = s.otb ∧
    (s.stray r).pcs = s.pcs ∧ (s.stray r).csq = s.csq ∧ (s.stray r).pbf = s.pbf ∧ (s.stray r).csu = s.csu := by
  unfold State.stray; split <;> simp

@[simp] theorem State.seekByte_frame (s : State) (a r : Bool) (b : Byte) :
    (s.seekByte a r b).pending = s.pending ∧ (s.seekByte a r b).lif = s.lif ∧ (s.seekByte a r b).ldu = s.ldu ∧
    (s.seekByte a r b).otb = s.otb ∧ (s.seekByte a r b).pcs = s.pcs ∧ (s.seekByte a r b).csq = s.csq ∧
    (s.seekByte a r b).csu = s.csu := by
  unfold State.seekByte; (repeat' split) <;> simp

@[simp] theorem State.judgeHeader_frame (s : State) (h : List Byte) :
    (s.judgeHeader h).1.pending = s.pending ∧ (s.judgeHeader h).1.lif = s.lif ∧ (s.judgeHeader h).1.ldu = s.ldu ∧
    (s.judgeHeader h).1.otb = s.otb ∧ (s.judgeHeader h).1.pcs = s.pcs ∧ (s.judgeHeader h).1.csq = s.csq := by
  unfold State.judgeHeader; dsimp only; (repeat' split) <;> simp

@[simp] theorem State.completePicture_frame (s : State) (id : Nat) (r : PicRecord) :
    (s.completePicture id r).pending = s.pending ∧ (s.completePicture id r).lif = s.lif ∧
    (s.completePicture id r).opt = s.opt ∧ (s.completePicture id r).ldu = s.ldu ∧
    (s.completePicture id r).otb = s.otb ∧ (s.completePicture id r).pcs = s.pcs ∧
    (s.completePicture id r).csq = s.csq := by
  and_intros <;> rfl

@[simp] theorem State.dataGap_frame (s : State) (id l : Nat) :
    (s.dataGap id l).pending = s.pending ∧ (s.dataGap id l).lif = s.lif ∧ (s.dataGap id l).opt = s.opt ∧
    (s.dataGap id l).ldu = s.ldu ∧ (s.dataGap id l).otb = s.otb ∧ (s.dataGap id l).pcs = s.pcs ∧
    (s.dataGap id l).csq = s.csq := by
  unfold State.dataGap; split <;> simp

@[simp] theorem State.engineGap_frame (s : State) (l : Nat) :
    (s.engineGap l).1.pending = s.pending ∧ (s.engineGap l).1.lif = s.lif ∧ (s.engineGap l).1.ldu = s.ldu ∧
    (s.engineGap l).1.otb = s.otb ∧ (s.engineGap l).1.pcs = s.pcs ∧ (s.engineGap l).1.csq = s.csq := by
  unfold State.engineGap; split <;> simp

@[simp] theorem State.drainIntake_frame (s : State) :
    s.drainIntake.pending = s.pending ∧ s.drainIntake.lif = s.lif ∧ s.drainIntake.opt = s.opt ∧
    s.drainIntake.ldu = s.ldu ∧ s.drainIntake.otb = s.otb ∧ s.drainIntake.pcs = s.pcs ∧ s.drainIntake.csq = s.csq ∧
    s.drainIntake.csu = s.csu := by
  and_intros <;> rfl

end Sys2Proof.Machine
end

