-- ==== Sys2Proof/Laws/FramesCapture.lean ====
section
/-! SUPPORT. What the operations of Capture.lean, Programs.lean and Arrivals.lean leave alone. -/

namespace Sys2Proof.Machine

-- one declaration after another: each unfolds operations whose equations another would be waiting for
set_option Elab.async false

@[simp] theorem State.setCsq_frame (s : State) (c : CsqState) :
    (s.setCsq c).pending = s.pending ∧ (s.setCsq c).lif = s.lif ∧ (s.setCsq c).opt = s.opt ∧
    (s.setCsq c).ldu = s.ldu ∧ (s.setCsq c).otb = s.otb ∧ (s.setCsq c).pcs = s.pcs ∧ (s.setCsq c).pbf = s.pbf ∧
    (s.setCsq c).csu = s.csu := by
  and_intros <;> rfl

@[simp] theorem State.onCapture_frame (s : State) (f : Capture → Capture) :
    (s.onCapture f).pending = s.pending ∧ (s.onCapture f).lif = s.lif ∧ (s.onCapture f).opt = s.opt ∧
    (s.onCapture f).ldu = s.ldu ∧ (s.onCapture f).otb = s.otb ∧ (s.onCapture f).pcs = s.pcs ∧
    (s.onCapture f).pbf = s.pbf ∧ (s.onCapture f).csu = s.csu := by
  and_intros <;> rfl

@[simp] theorem State.csqIdle_frame (s : State) :
    s.csqIdle.pending = s.pending ∧ s.csqIdle.lif = s.lif ∧ s.csqIdle.otb = s.otb ∧ s.csqIdle.pcs = s.pcs ∧
    s.csqIdle.csu = s.csu := by
  simp [State.csqIdle]

@[simp] theorem State.endShoot_frame (s : State) (c : Capture) (k : EndClass) (u : Cause) :
    (s.endShoot c k u).pending = s.pending ∧ (s.endShoot c k u).lif = s.lif ∧ (s.endShoot c k u).otb = s.otb ∧
    (s.endShoot c k u).pcs = s.pcs ∧ (s.endShoot c k u).csu = s.csu := by
  simp [State.endShoot]

@[simp] theorem State.endPrepare_frame (s : State) (c : Capture) (k : EndClass) (u : Cause) (r : Option ScanResult) (f : ScanFields) (n : Option Nat) :
    (s.endPrepare c k u r f n).pending = s.pending ∧ (s.endPrepare c k u r f n).lif = s.lif ∧
    (s.endPrepare c k u r f n).otb = s.otb ∧ (s.endPrepare c k u r f n).pcs = s.pcs ∧
    (s.endPrepare c k u r f n).csu = s.csu := by
  unfold State.endPrepare; split <;> simp

@[simp] theorem State.checkFinish_frame (s : State) :
    s.checkFinish.pending = s.pending ∧ s.checkFinish.lif = s.lif ∧ s.checkFinish.otb = s.otb ∧
    s.checkFinish.pcs = s.pcs ∧ s.checkFinish.csu = s.csu := by
  unfold State.checkFinish; (repeat' split) <;> simp

@[simp] theorem State.enterFinishing_frame (s : State) :
    s.enterFinishing.pending = s.pending ∧ s.enterFinishing.lif = s.lif ∧ s.enterFinishing.otb = s.otb ∧
    s.enterFinishing.pcs = s.pcs ∧ s.enterFinishing.csu = s.csu := by
  simp [State.enterFinishing]

@[simp] theorem State.recordFailure_frame (s : State) (k : EndClass) (u : Cause) :
    (s.recordFailure k u).pending = s.pending ∧ (s.recordFailure k u).lif = s.lif ∧
    (s.recordFailure k u).opt = s.opt ∧ (s.recordFailure k u).ldu = s.ldu ∧ (s.recordFailure k u).otb = s.otb ∧
    (s.recordFailure k u).pcs = s.pcs ∧ (s.recordFailure k u).pbf = s.pbf ∧ (s.recordFailure k u).csu = s.csu := by
  and_intros <;> rfl

@[simp] theorem State.afterFailure_frame (s : State) :
    s.afterFailure.pending = s.pending ∧ s.afterFailure.lif = s.lif ∧ s.afterFailure.otb = s.otb ∧
    s.afterFailure.pcs = s.pcs ∧ s.afterFailure.csu = s.csu := by
  unfold State.afterFailure; split <;> simp

@[simp] theorem State.setOutcome_frame (s : State) (id : Nat) (o : PictureOutcome) :
    (s.setOutcome id o).pending = s.pending ∧ (s.setOutcome id o).lif = s.lif ∧ (s.setOutcome id o).opt = s.opt ∧
    (s.setOutcome id o).ldu = s.ldu ∧ (s.setOutcome id o).otb = s.otb ∧ (s.setOutcome id o).pcs = s.pcs ∧
    (s.setOutcome id o).pbf = s.pbf ∧ (s.setOutcome id o).csu = s.csu := by
  and_intros <;> rfl

@[simp] theorem State.failHand_frame (s : State) (id : Nat) (o : PictureOutcome) (k : EndClass) (u : Cause) :
    (s.failHand id o k u).pending = s.pending ∧ (s.failHand id o k u).lif = s.lif ∧
    (s.failHand id o k u).opt = s.opt ∧ (s.failHand id o k u).ldu = s.ldu ∧ (s.failHand id o k u).otb = s.otb ∧
    (s.failHand id o k u).pcs = s.pcs := by
  simp [State.failHand]

@[simp] theorem State.beginPicture_frame (s : State) (p : Nat) :
    (s.beginPicture p).pending = s.pending ∧ (s.beginPicture p).lif = s.lif ∧ (s.beginPicture p).opt = s.opt ∧
    (s.beginPicture p).ldu = s.ldu ∧ (s.beginPicture p).otb = s.otb ∧ (s.beginPicture p).pcs = s.pcs ∧
    (s.beginPicture p).csu = s.csu := by
  and_intros <;> rfl

@[simp] theorem State.centred_frame (s : State) (b : Bool) :
    (s.centred b).pending = s.pending ∧ (s.centred b).lif = s.lif ∧ (s.centred b).ldu = s.ldu ∧
    (s.centred b).otb = s.otb ∧ (s.centred b).pcs = s.pcs ∧ (s.centred b).pbf = s.pbf ∧
    (s.centred b).csu = s.csu := by
  unfold State.centred; (repeat' split) <;> simp

@[simp] theorem State.irisArrived_frame (s : State) :
    s.irisArrived.pending = s.pending ∧ s.irisArrived.lif = s.lif ∧ s.irisArrived.ldu = s.ldu ∧
    s.irisArrived.otb = s.otb ∧ s.irisArrived.pcs = s.pcs ∧ s.irisArrived.pbf = s.pbf ∧
    s.irisArrived.csu = s.csu := by
  and_intros <;> (unfold State.irisArrived; repeat' split) <;>
    first | (simp; done) | simp_all [pair_eq]

@[simp] theorem State.irisFailed_frame (s : State) :
    s.irisFailed.pending = s.pending ∧ s.irisFailed.lif = s.lif ∧ s.irisFailed.otb = s.otb ∧
    s.irisFailed.pcs = s.pcs := by
  unfold State.irisFailed; (repeat' split) <;> simp

@[simp] theorem State.splitPicture_frame (s : State) :
    s.splitPicture.pending = s.pending ∧ s.splitPicture.lif = s.lif ∧ s.splitPicture.otb = s.otb ∧
    s.splitPicture.pcs = s.pcs := by
  and_intros <;> (unfold State.splitPicture; dsimp only; repeat' split) <;>
    first | (simp; done) | simp_all [pair_eq]

@[simp] theorem State.grantPicture_frame (s : State) (c : Capture) :
    (s.grantPicture c).pending = s.pending ∧ (s.grantPicture c).lif = s.lif ∧ (s.grantPicture c).otb = s.otb ∧
    (s.grantPicture c).pcs = s.pcs := by
  unfold State.grantPicture; dsimp only; (repeat' split) <;> simp

@[simp] theorem State.exposeSent_frame (s : State) (id : Nat) :
    (s.exposeSent id).pending = s.pending ∧ (s.exposeSent id).lif = s.lif ∧ (s.exposeSent id).opt = s.opt ∧
    (s.exposeSent id).ldu = s.ldu ∧ (s.exposeSent id).otb = s.otb ∧ (s.exposeSent id).pcs = s.pcs ∧
    (s.exposeSent id).pbf = s.pbf ∧ (s.exposeSent id).csu = s.csu := by
  unfold State.exposeSent; split <;> simp

@[simp] theorem State.beginExposure_frame (s : State) (h : Hand) :
    (s.beginExposure h).pending = s.pending ∧ (s.beginExposure h).lif = s.lif ∧ (s.beginExposure h).opt = s.opt ∧
    (s.beginExposure h).ldu = s.ldu ∧ (s.beginExposure h).otb = s.otb ∧ (s.beginExposure h).pcs = s.pcs ∧
    (s.beginExposure h).csu = s.csu := by
  unfold State.beginExposure; split <;> simp

@[simp] theorem State.joinIntake_frame (s : State) (id : Nat) :
    (s.joinIntake id).pending = s.pending ∧ (s.joinIntake id).lif = s.lif ∧ (s.joinIntake id).opt = s.opt ∧
    (s.joinIntake id).ldu = s.ldu ∧ (s.joinIntake id).otb = s.otb ∧ (s.joinIntake id).pcs = s.pcs ∧
    (s.joinIntake id).pbf = s.pbf ∧ (s.joinIntake id).csu = s.csu := by
  and_intros <;> rfl

@[simp] theorem State.checkInterval_frame (s : State) :
    s.checkInterval.pending = s.pending ∧ s.checkInterval.lif = s.lif ∧ s.checkInterval.opt = s.opt ∧
    s.checkInterval.ldu = s.ldu ∧ s.checkInterval.otb = s.otb ∧ s.checkInterval.pcs = s.pcs ∧
    s.checkInterval.csu = s.csu := by
  unfold State.checkInterval; (repeat' split) <;> simp

@[simp] theorem State.refineReported_frame (s : State) (r : RefineReport) :
    (s.refineReported r).pending = s.pending ∧ (s.refineReported r).lif = s.lif ∧ (s.refineReported r).otb = s.otb ∧
    (s.refineReported r).pcs = s.pcs ∧ (s.refineReported r).csu = s.csu := by
  unfold State.refineReported; dsimp only; (repeat' split) <;> simp

@[simp] theorem State.enterInterval_frame (s : State) (p : Program) :
    (s.enterInterval p).pending = s.pending ∧ (s.enterInterval p).lif = s.lif ∧ (s.enterInterval p).otb = s.otb ∧
    (s.enterInterval p).pcs = s.pcs ∧ (s.enterInterval p).csu = s.csu := by
  and_intros <;> (unfold State.enterInterval; dsimp only; repeat' split) <;>
    first | (simp; done) | simp_all [pair_eq]

@[simp] theorem State.goOnShooting_frame (s : State) :
    s.goOnShooting.pending = s.pending ∧ s.goOnShooting.lif = s.lif ∧ s.goOnShooting.otb = s.otb ∧
    s.goOnShooting.pcs = s.pcs ∧ s.goOnShooting.csu = s.csu := by
  unfold State.goOnShooting; (repeat' split) <;> simp

@[simp] theorem State.afterExposure_frame (s : State) :
    s.afterExposure.pending = s.pending ∧ s.afterExposure.lif = s.lif ∧ s.afterExposure.otb = s.otb ∧
    s.afterExposure.pcs = s.pcs ∧ s.afterExposure.csu = s.csu := by
  simp [State.afterExposure, State.dropHand]

@[simp] theorem State.leaveIntake_frame (s : State) (id : Nat) (o : PictureOutcome) (f : Option Cause) :
    (s.leaveIntake id o f).pending = s.pending ∧ (s.leaveIntake id o f).lif = s.lif ∧
    (s.leaveIntake id o f).otb = s.otb ∧ (s.leaveIntake id o f).pcs = s.pcs := by
  unfold State.leaveIntake; dsimp only; (repeat' split) <;> simp

@[simp] theorem State.intakeReported_frame (s : State) (r : IntakeReport) :
    (s.intakeReported r).pending = s.pending ∧ (s.intakeReported r).lif = s.lif ∧ (s.intakeReported r).otb = s.otb ∧
    (s.intakeReported r).pcs = s.pcs := by
  unfold State.intakeReported; (repeat' split) <;> simp

@[simp] theorem State.preparationEnded_frame (s : State) (e : ScanEnd) :
    (s.preparationEnded e).pending = s.pending ∧ (s.preparationEnded e).lif = s.lif ∧
    (s.preparationEnded e).otb = s.otb ∧ (s.preparationEnded e).pcs = s.pcs ∧ (s.preparationEnded e).csu = s.csu := by
  unfold State.preparationEnded; dsimp only; (repeat' split) <;> simp

@[simp] theorem State.askScan_frame (s : State) (u : ScanUser) (p : ScanPlan) :
    (s.askScan u p).pending = s.pending ∧ (s.askScan u p).lif = s.lif ∧ (s.askScan u p).otb = s.otb ∧
    (s.askScan u p).pcs = s.pcs ∧ (s.askScan u p).csu = s.csu := by
  and_intros <;> (unfold State.askScan; repeat' split) <;>
    first | (simp; done) | simp_all [pair_eq]

@[simp] theorem State.goOnPreparing_frame (s : State) :
    s.goOnPreparing.pending = s.pending ∧ s.goOnPreparing.lif = s.lif ∧ s.goOnPreparing.otb = s.otb ∧
    s.goOnPreparing.pcs = s.pcs ∧ s.goOnPreparing.csu = s.csu := by
  unfold State.goOnPreparing; (repeat' split) <;> simp

@[simp] theorem State.lensFreed_frame (s : State) (tag : Nat) :
    (s.lensFreed tag).pending = s.pending ∧ (s.lensFreed tag).lif = s.lif ∧ (s.lensFreed tag).otb = s.otb ∧
    (s.lensFreed tag).pcs = s.pcs ∧ (s.lensFreed tag).csu = s.csu := by
  unfold State.lensFreed; dsimp only; (repeat' split) <;> simp

@[simp] theorem State.deliver_frame (p : State × FsuReport) :
    (State.deliver p).pending = p.1.pending ∧ (State.deliver p).lif = p.1.lif ∧ (State.deliver p).otb = p.1.otb ∧
    (State.deliver p).pcs = p.1.pcs ∧ (State.deliver p).csu = p.1.csu := by
  unfold State.deliver; (repeat' split) <;> simp

@[simp] theorem State.stopPrepare_frame (s : State) (c : Capture) :
    (s.stopPrepare c).pending = s.pending ∧ (s.stopPrepare c).lif = s.lif ∧ (s.stopPrepare c).otb = s.otb ∧
    (s.stopPrepare c).pcs = s.pcs ∧ (s.stopPrepare c).csu = s.csu := by
  unfold State.stopPrepare; (repeat' split) <;> simp

@[simp] theorem State.stopShoot_frame (s : State) (c : Capture) (w : Bool) :
    (s.stopShoot c w).pending = s.pending ∧ (s.stopShoot c w).lif = s.lif ∧ (s.stopShoot c w).otb = s.otb ∧
    (s.stopShoot c w).pcs = s.pcs ∧ (s.stopShoot c w).csu = s.csu := by
  unfold State.stopShoot; (repeat' split) <;> simp

@[simp] theorem State.stopCapture_frame (s : State) (tag : Nat) (w : Bool) :
    (s.stopCapture tag w).pending = s.pending ∧ (s.stopCapture tag w).lif = s.lif ∧
    (s.stopCapture tag w).otb = s.otb ∧ (s.stopCapture tag w).pcs = s.pcs ∧ (s.stopCapture tag w).csu = s.csu := by
  unfold State.stopCapture; (repeat' split) <;> simp

@[simp] theorem State.restartCsq_frame (s : State) :
    s.restartCsq.pending = s.pending ∧ s.restartCsq.lif = s.lif ∧ s.restartCsq.opt = s.opt ∧
    s.restartCsq.ldu = s.ldu ∧ s.restartCsq.otb = s.otb ∧ s.restartCsq.pcs = s.pcs ∧ s.restartCsq.pbf = s.pbf ∧
    s.restartCsq.csu = s.csu := by
  and_intros <;> rfl

@[simp] theorem State.setSlot_frame (s : State) (i : Nat) (c : Slot) :
    (s.setSlot i c).pending = s.pending ∧ (s.setSlot i c).lif = s.lif ∧ (s.setSlot i c).opt = s.opt ∧
    (s.setSlot i c).ldu = s.ldu ∧ (s.setSlot i c).otb = s.otb ∧ (s.setSlot i c).csq = s.csq ∧
    (s.setSlot i c).pbf = s.pbf ∧ (s.setSlot i c).csu = s.csu := by
  and_intros <;> rfl

@[simp] theorem State.setContextOp_frame (s : State) (o : Option ContextOp) :
    (s.setContextOp o).pending = s.pending ∧ (s.setContextOp o).lif = s.lif ∧ (s.setContextOp o).opt = s.opt ∧
    (s.setContextOp o).ldu = s.ldu ∧ (s.setContextOp o).otb = s.otb ∧ (s.setContextOp o).csq = s.csq ∧
    (s.setContextOp o).pbf = s.pbf ∧ (s.setContextOp o).csu = s.csu := by
  and_intros <;> rfl

@[simp] theorem State.loadExc_frame (s : State) (c : Slot) :
    (s.loadExc c).pending = s.pending ∧ (s.loadExc c).lif = s.lif ∧ (s.loadExc c).opt = s.opt ∧
    (s.loadExc c).ldu = s.ldu ∧ (s.loadExc c).otb = s.otb ∧ (s.loadExc c).pcs = s.pcs ∧ (s.loadExc c).csq = s.csq ∧
    (s.loadExc c).pbf = s.pbf ∧ (s.loadExc c).csu = s.csu := by
  unfold State.loadExc; dsimp only; (repeat' split) <;> simp

@[simp] theorem State.loadContext_frame (s : State) (c : Slot) :
    (s.loadContext c).pending = s.pending ∧ (s.loadContext c).lif = s.lif ∧ (s.loadContext c).opt = s.opt ∧
    (s.loadContext c).otb = s.otb ∧ (s.loadContext c).pcs = s.pcs ∧ (s.loadContext c).csq = s.csq ∧
    (s.loadContext c).pbf = s.pbf ∧ (s.loadContext c).csu = s.csu := by
  simp [State.loadContext]

@[simp] theorem State.exchange_frame (s : State) (k : OpKind) (i : Nat) :
    (s.exchange k i).pending = s.pending ∧ (s.exchange k i).lif = s.lif ∧ (s.exchange k i).opt = s.opt ∧
    (s.exchange k i).otb = s.otb ∧ (s.exchange k i).csq = s.csq ∧ (s.exchange k i).pbf = s.pbf ∧
    (s.exchange k i).csu = s.csu := by
  simp [State.exchange]

@[simp] theorem State.beginContext_frame (s : State) (tag : Nat) (k : OpKind) (i : Nat) :
    (s.beginContext tag k i).pending = s.pending ∧ (s.beginContext tag k i).lif = s.lif ∧
    (s.beginContext tag k i).otb = s.otb ∧ (s.beginContext tag k i).csq = s.csq ∧
    (s.beginContext tag k i).pbf = s.pbf ∧ (s.beginContext tag k i).csu = s.csu := by
  simp [State.beginContext]

@[simp] theorem State.endContext_frame (s : State) (o : ContextOp) (k : EndClass) (u : Cause) :
    (s.endContext o k u).pending = s.pending ∧ (s.endContext o k u).lif = s.lif ∧ (s.endContext o k u).otb = s.otb ∧
    (s.endContext o k u).csq = s.csq ∧ (s.endContext o k u).pbf = s.pbf ∧ (s.endContext o k u).csu = s.csu := by
  simp [State.endContext]

@[simp] theorem State.focusTravelled_frame (s : State) (o : ContextOp) :
    (s.focusTravelled o).pending = s.pending ∧ (s.focusTravelled o).lif = s.lif ∧ (s.focusTravelled o).otb = s.otb ∧
    (s.focusTravelled o).csq = s.csq ∧ (s.focusTravelled o).pbf = s.pbf ∧ (s.focusTravelled o).csu = s.csu := by
  simp [State.focusTravelled]

@[simp] theorem State.zoomTravelled_frame (s : State) (o : ContextOp) :
    (s.zoomTravelled o).pending = s.pending ∧ (s.zoomTravelled o).lif = s.lif ∧ (s.zoomTravelled o).otb = s.otb ∧
    (s.zoomTravelled o).csq = s.csq ∧ (s.zoomTravelled o).pbf = s.pbf ∧ (s.zoomTravelled o).csu = s.csu := by
  and_intros <;> (unfold State.zoomTravelled; dsimp only; repeat' split) <;>
    first | (simp; done) | simp_all [pair_eq]

@[simp] theorem State.contextTravel_frame (s : State) (o : ContextOp) :
    (s.contextTravel o).pending = s.pending ∧ (s.contextTravel o).lif = s.lif ∧ (s.contextTravel o).otb = s.otb ∧
    (s.contextTravel o).csq = s.csq ∧ (s.contextTravel o).pbf = s.pbf ∧ (s.contextTravel o).csu = s.csu := by
  and_intros <;> (unfold State.contextTravel; dsimp only; repeat' split) <;>
    first | (simp; done) | simp_all [pair_eq]

@[simp] theorem State.contextArrived_frame (s : State) (a : Axis) :
    (s.contextArrived a).pending = s.pending ∧ (s.contextArrived a).lif = s.lif ∧ (s.contextArrived a).otb = s.otb ∧
    (s.contextArrived a).csq = s.csq ∧ (s.contextArrived a).pbf = s.pbf ∧ (s.contextArrived a).csu = s.csu := by
  unfold State.contextArrived; (repeat' split) <;> simp

@[simp] theorem State.contextLost_frame (s : State) :
    s.contextLost.pending = s.pending ∧ s.contextLost.lif = s.lif ∧ s.contextLost.otb = s.otb ∧
    s.contextLost.csq = s.csq ∧ s.contextLost.pbf = s.pbf ∧ s.contextLost.csu = s.csu := by
  unfold State.contextLost; split <;> simp

@[simp] theorem State.irisReached_frame (s : State) :
    s.irisReached.pending = s.pending ∧ s.irisReached.lif = s.lif ∧ s.irisReached.otb = s.otb ∧
    s.irisReached.pcs = s.pcs ∧ s.irisReached.pbf = s.pbf ∧ s.irisReached.csu = s.csu := by
  unfold State.irisReached; (repeat' split) <;> simp

@[simp] theorem State.lensOpHeld_frame (s : State) (tag : Nat) :
    (s.lensOpHeld tag).pending = s.pending ∧ (s.lensOpHeld tag).lif = s.lif ∧ (s.lensOpHeld tag).otb = s.otb ∧
    (s.lensOpHeld tag).pcs = s.pcs ∧ (s.lensOpHeld tag).csu = s.csu := by
  unfold State.lensOpHeld; dsimp only; (repeat' split) <;> simp

@[simp] theorem State.axisHeld_frame (s : State) (a : Axis) :
    (s.axisHeld a).pending = s.pending ∧ (s.axisHeld a).lif = s.lif ∧ (s.axisHeld a).otb = s.otb ∧
    (s.axisHeld a).csu = s.csu := by
  unfold State.axisHeld; dsimp only; (repeat' split) <;> simp

@[simp] theorem State.settled_frame (s : State) (a : Axis) :
    (s.settled a).pending = s.pending ∧ (s.settled a).lif = s.lif ∧ (s.settled a).otb = s.otb ∧
    (s.settled a).csu = s.csu := by
  simp [State.settled]

@[simp] theorem State.settleAtOnce_frame (s : State) (a : Axis) :
    (s.settleAtOnce a).pending = s.pending ∧ (s.settleAtOnce a).lif = s.lif ∧ (s.settleAtOnce a).otb = s.otb ∧
    (s.settleAtOnce a).csu = s.csu := by
  unfold State.settleAtOnce; dsimp only; (repeat' split) <;> simp

@[simp] theorem State.settleZero_frame (s r : State) (a : Axis) :
    (s.settleZero r a).pending = s.pending ∧ (s.settleZero r a).lif = s.lif ∧ (s.settleZero r a).otb = s.otb ∧
    (s.settleZero r a).csu = s.csu := by
  unfold State.settleZero allAxes; dsimp only [List.foldl_cons, List.foldl_nil]; (repeat' split) <;> simp

@[simp] theorem State.reportLost_frame (s : State) (a : Axis) :
    (s.reportLost a).pending = s.pending ∧ (s.reportLost a).lif = s.lif ∧ (s.reportLost a).otb = s.otb := by
  unfold State.reportLost; (repeat' split) <;> simp

@[simp] theorem State.stepCompleted_frame (s : State) (a : Axis) :
    (s.stepCompleted a).pending = s.pending ∧ (s.stepCompleted a).lif = s.lif ∧ (s.stepCompleted a).otb = s.otb := by
  and_intros <;> (unfold State.stepCompleted; repeat' split) <;>
    first | (simp; done) | simp_all [pair_eq]

@[simp] theorem State.energized_frame (s : State) (a : Axis) :
    (s.energized a).pending = s.pending ∧ (s.energized a).lif = s.lif ∧ (s.energized a).otb = s.otb ∧
    (s.energized a).csu = s.csu := by
  simp [State.energized]

@[simp] theorem State.offer_frame (s : State) (r : FrameRec) :
    (s.offer r).pending = s.pending ∧ (s.offer r).lif = s.lif ∧ (s.offer r).otb = s.otb ∧ (s.offer r).pcs = s.pcs ∧
    (s.offer r).csu = s.csu := by
  unfold State.offer; dsimp only; (repeat' split) <;> simp

@[simp] theorem State.clearOffer_frame (s : State) (n : Nat) :
    (s.clearOffer n).pending = s.pending ∧ (s.clearOffer n).lif = s.lif ∧ (s.clearOffer n).opt = s.opt ∧
    (s.clearOffer n).ldu = s.ldu ∧ (s.clearOffer n).otb = s.otb ∧ (s.clearOffer n).pcs = s.pcs ∧
    (s.clearOffer n).csq = s.csq ∧ (s.clearOffer n).pbf = s.pbf ∧ (s.clearOffer n).csu = s.csu := by
  and_intros <;> rfl

@[simp] theorem State.openFrame_frame (s : State) :
    s.openFrame.pending = s.pending ∧ s.openFrame.lif = s.lif ∧ s.openFrame.opt = s.opt ∧ s.openFrame.ldu = s.ldu ∧
    s.openFrame.otb = s.otb ∧ s.openFrame.pcs = s.pcs ∧ s.openFrame.csq = s.csq ∧ s.openFrame.pbf = s.pbf ∧
    s.openFrame.csu = s.csu := by
  and_intros <;> rfl

@[simp] theorem State.heldOffer_frame (s : State) (o : Option FrameRec) :
    (s.heldOffer o).pending = s.pending ∧ (s.heldOffer o).lif = s.lif ∧ (s.heldOffer o).otb = s.otb ∧
    (s.heldOffer o).pcs = s.pcs ∧ (s.heldOffer o).csu = s.csu := by
  unfold State.heldOffer; (repeat' split) <;> simp

@[simp] theorem State.frameBegun_frame (s : State) :
    s.frameBegun.pending = s.pending ∧ s.frameBegun.lif = s.lif ∧ s.frameBegun.otb = s.otb ∧
    s.frameBegun.pcs = s.pcs ∧ s.frameBegun.csu = s.csu := by
  simp [State.frameBegun]

@[simp] theorem State.countInterval_frame (s : State) :
    s.countInterval.pending = s.pending ∧ s.countInterval.lif = s.lif ∧ s.countInterval.opt = s.opt ∧
    s.countInterval.ldu = s.ldu ∧ s.countInterval.otb = s.otb ∧ s.countInterval.pcs = s.pcs ∧
    s.countInterval.csu = s.csu := by
  unfold State.countInterval; split <;> simp

@[simp] theorem State.frameStart_frame (s : State) :
    s.frameStart.pending = s.pending ∧ s.frameStart.lif = s.lif ∧ s.frameStart.otb = s.otb ∧
    s.frameStart.pcs = s.pcs ∧ s.frameStart.csu = s.csu := by
  simp [State.frameStart]

@[simp] theorem State.dropStats_frame (s : State) :
    s.dropStats.pending = s.pending ∧ s.dropStats.lif = s.lif ∧ s.dropStats.opt = s.opt ∧ s.dropStats.ldu = s.ldu ∧
    s.dropStats.otb = s.otb ∧ s.dropStats.pcs = s.pcs ∧ s.dropStats.csq = s.csq ∧ s.dropStats.pbf = s.pbf ∧
    s.dropStats.csu = s.csu := by
  and_intros <;> rfl

@[simp] theorem State.fileStats_frame (s : State) (f : StatsFeed) :
    (s.fileStats f).pending = s.pending ∧ (s.fileStats f).lif = s.lif ∧ (s.fileStats f).otb = s.otb ∧
    (s.fileStats f).pcs = s.pcs ∧ (s.fileStats f).csu = s.csu := by
  unfold State.fileStats; dsimp only; (repeat' split) <;> simp

end Sys2Proof.Machine
end

