-- ==== Sys2Proof/Laws/FramesCard.lean ====
section
/-! SUPPORT. What the operations of CardStore.lean, Stops.lean, Optics.lean and Link.lean leave alone. -/

namespace Sys2Proof.Machine

-- one declaration after another: each unfolds operations whose equations another would be waiting for
set_option Elab.async false

@[simp] theorem State.onCsu_frame (s : State) (f : Csu → Csu) :
    (s.onCsu f).pending = s.pending ∧ (s.onCsu f).lif = s.lif ∧ (s.onCsu f).opt = s.opt ∧ (s.onCsu f).ldu = s.ldu ∧
    (s.onCsu f).otb = s.otb ∧ (s.onCsu f).pcs = s.pcs ∧ (s.onCsu f).csq = s.csq ∧ (s.onCsu f).pbf = s.pbf := by
  and_intros <;> rfl

@[simp] theorem State.trimPool_frame (s : State) :
    s.trimPool.pending = s.pending ∧ s.trimPool.lif = s.lif ∧ s.trimPool.ldu = s.ldu ∧ s.trimPool.otb = s.otb ∧
    s.trimPool.pcs = s.pcs ∧ s.trimPool.csq = s.csq ∧ s.trimPool.pbf = s.pbf := by
  unfold State.trimPool; split <;> simp

@[simp] theorem State.forgetHold_frame (s : State) :
    s.forgetHold.pending = s.pending ∧ s.forgetHold.lif = s.lif ∧ s.forgetHold.opt = s.opt ∧
    s.forgetHold.ldu = s.ldu ∧ s.forgetHold.otb = s.otb ∧ s.forgetHold.pcs = s.pcs ∧ s.forgetHold.csq = s.csq ∧
    s.forgetHold.pbf = s.pbf := by
  simp [State.forgetHold]

@[simp] theorem State.endHold_frame (s : State) (p : Bool) :
    (s.endHold p).pending = s.pending ∧ (s.endHold p).lif = s.lif ∧ (s.endHold p).ldu = s.ldu ∧
    (s.endHold p).otb = s.otb ∧ (s.endHold p).pcs = s.pcs ∧ (s.endHold p).csq = s.csq ∧
    (s.endHold p).pbf = s.pbf := by
  unfold State.endHold; (repeat' split) <;> simp

@[simp] theorem State.enterPaused_frame (s : State) :
    s.enterPaused.pending = s.pending ∧ s.enterPaused.lif = s.lif ∧ s.enterPaused.ldu = s.ldu ∧
    s.enterPaused.otb = s.otb ∧ s.enterPaused.pcs = s.pcs ∧ s.enterPaused.csq = s.csq ∧
    s.enterPaused.pbf = s.pbf := by
  simp [State.enterPaused]

@[simp] theorem State.enterDisabled_frame (s : State) :
    s.enterDisabled.pending = s.pending ∧ s.enterDisabled.lif = s.lif ∧ s.enterDisabled.ldu = s.ldu ∧
    s.enterDisabled.otb = s.otb ∧ s.enterDisabled.pcs = s.pcs ∧ s.enterDisabled.csq = s.csq ∧
    s.enterDisabled.pbf = s.pbf := by
  simp [State.enterDisabled]

@[simp] theorem State.startExchange_frame (s : State) :
    s.startExchange.pending = s.pending ∧ s.startExchange.lif = s.lif ∧ s.startExchange.opt = s.opt ∧
    s.startExchange.ldu = s.ldu ∧ s.startExchange.otb = s.otb ∧ s.startExchange.pcs = s.pcs ∧
    s.startExchange.csq = s.csq ∧ s.startExchange.pbf = s.pbf := by
  unfold State.startExchange; (repeat' split) <;> simp

@[simp] theorem State.leaveExchange_frame (s : State) :
    s.leaveExchange.pending = s.pending ∧ s.leaveExchange.lif = s.lif ∧ s.leaveExchange.opt = s.opt ∧
    s.leaveExchange.ldu = s.ldu ∧ s.leaveExchange.otb = s.otb ∧ s.leaveExchange.pcs = s.pcs ∧
    s.leaveExchange.csq = s.csq ∧ s.leaveExchange.pbf = s.pbf := by
  and_intros <;> rfl

@[simp] theorem State.enterNotifying_frame (s : State) :
    s.enterNotifying.pending = s.pending ∧ s.enterNotifying.lif = s.lif ∧ s.enterNotifying.ldu = s.ldu ∧
    s.enterNotifying.otb = s.otb ∧ s.enterNotifying.pcs = s.pcs ∧ s.enterNotifying.csq = s.csq ∧
    s.enterNotifying.pbf = s.pbf := by
  unfold State.enterNotifying; split <;> simp

@[simp] theorem State.resumeWriting_frame (s : State) :
    s.resumeWriting.pending = s.pending ∧ s.resumeWriting.lif = s.lif ∧ s.resumeWriting.ldu = s.ldu ∧
    s.resumeWriting.otb = s.otb ∧ s.resumeWriting.pcs = s.pcs ∧ s.resumeWriting.csq = s.csq ∧
    s.resumeWriting.pbf = s.pbf := by
  unfold State.resumeWriting; (repeat' split) <;> simp

@[simp] theorem State.placeCurrent_frame (s : State) :
    s.placeCurrent.pending = s.pending ∧ s.placeCurrent.lif = s.lif ∧ s.placeCurrent.ldu = s.ldu ∧
    s.placeCurrent.otb = s.otb ∧ s.placeCurrent.pcs = s.pcs ∧ s.placeCurrent.csq = s.csq ∧
    s.placeCurrent.pbf = s.pbf := by
  unfold State.placeCurrent; dsimp only; (repeat' split) <;> simp

@[simp] theorem State.takeHead_frame (s : State) (id : Nat) :
    (s.takeHead id).pending = s.pending ∧ (s.takeHead id).lif = s.lif ∧ (s.takeHead id).ldu = s.ldu ∧
    (s.takeHead id).otb = s.otb ∧ (s.takeHead id).pcs = s.pcs ∧ (s.takeHead id).csq = s.csq := by
  simp [State.takeHead]

@[simp] theorem State.takeOrIdle_frame (s : State) :
    s.takeOrIdle.pending = s.pending ∧ s.takeOrIdle.lif = s.lif ∧ s.takeOrIdle.ldu = s.ldu ∧
    s.takeOrIdle.otb = s.otb ∧ s.takeOrIdle.pcs = s.pcs ∧ s.takeOrIdle.csq = s.csq := by
  unfold State.takeOrIdle; split <;> simp

@[simp] theorem State.boundaryChoice_frame (s : State) :
    s.boundaryChoice.pending = s.pending ∧ s.boundaryChoice.lif = s.lif ∧ s.boundaryChoice.ldu = s.ldu ∧
    s.boundaryChoice.otb = s.otb ∧ s.boundaryChoice.pcs = s.pcs ∧ s.boundaryChoice.csq = s.csq := by
  unfold State.boundaryChoice; (repeat' split) <;> simp

@[simp] theorem State.forgetCurrent_frame (s : State) :
    s.forgetCurrent.pending = s.pending ∧ s.forgetCurrent.lif = s.lif ∧ s.forgetCurrent.opt = s.opt ∧
    s.forgetCurrent.ldu = s.ldu ∧ s.forgetCurrent.otb = s.otb ∧ s.forgetCurrent.pcs = s.pcs ∧
    s.forgetCurrent.csq = s.csq ∧ s.forgetCurrent.pbf = s.pbf := by
  and_intros <;> rfl

@[simp] theorem State.returnDropped_frame (s : State) (id : Nat) :
    (s.returnDropped id).pending = s.pending ∧ (s.returnDropped id).lif = s.lif ∧ (s.returnDropped id).ldu = s.ldu ∧
    (s.returnDropped id).otb = s.otb ∧ (s.returnDropped id).pcs = s.pcs ∧ (s.returnDropped id).csq = s.csq := by
  simp [State.returnDropped]

@[simp] theorem State.completeDrop_frame (s : State) :
    s.completeDrop.pending = s.pending ∧ s.completeDrop.lif = s.lif ∧ s.completeDrop.ldu = s.ldu ∧
    s.completeDrop.otb = s.otb ∧ s.completeDrop.pcs = s.pcs ∧ s.completeDrop.csq = s.csq := by
  unfold State.completeDrop; (repeat' split) <;> simp

/-- What a stop at a cluster boundary leaves alone. -/
theorem State.boundaryStop_frame {s u : State} (h : s.boundaryStop = some u) :
    u.pending = s.pending ∧ u.lif = s.lif ∧ u.ldu = s.ldu ∧ u.otb = s.otb ∧ u.pcs = s.pcs ∧ u.csq = s.csq := by
  unfold State.boundaryStop at h
  dsimp only at h
  split at h
  · cases h; simp
  · split at h
    · cases h; simp
    · split at h <;> cases h
      simp

@[simp] theorem State.clusterBoundary_frame (s : State) (e : Exchange) :
    (s.clusterBoundary e).pending = s.pending ∧ (s.clusterBoundary e).lif = s.lif ∧
    (s.clusterBoundary e).ldu = s.ldu ∧ (s.clusterBoundary e).otb = s.otb ∧ (s.clusterBoundary e).pcs = s.pcs ∧
    (s.clusterBoundary e).csq = s.csq := by
  unfold State.clusterBoundary
  split
  · simp
  · dsimp only
    split
    · rename_i h
      simpa using State.boundaryStop_frame h
    · and_intros <;> (repeat' split) <;> simp

@[simp] theorem State.enterFaulted_frame (s : State) (f : FaultRecord) :
    (s.enterFaulted f).pending = s.pending ∧ (s.enterFaulted f).lif = s.lif ∧ (s.enterFaulted f).ldu = s.ldu ∧
    (s.enterFaulted f).otb = s.otb ∧ (s.enterFaulted f).pcs = s.pcs ∧ (s.enterFaulted f).csq = s.csq ∧
    (s.enterFaulted f).pbf = s.pbf := by
  simp [State.enterFaulted]

@[simp] theorem State.blockFault_frame (s : State) (b n : Nat) (r : FaultResponse) :
    (s.blockFault b n r).pending = s.pending ∧ (s.blockFault b n r).lif = s.lif ∧ (s.blockFault b n r).ldu = s.ldu ∧
    (s.blockFault b n r).otb = s.otb ∧ (s.blockFault b n r).pcs = s.pcs ∧ (s.blockFault b n r).csq = s.csq ∧
    (s.blockFault b n r).pbf = s.pbf := by
  unfold State.blockFault; split <;> simp

@[simp] theorem State.cardLossFault_frame (s : State) (id w : Nat) :
    (s.cardLossFault id w).pending = s.pending ∧ (s.cardLossFault id w).lif = s.lif ∧
    (s.cardLossFault id w).ldu = s.ldu ∧ (s.cardLossFault id w).otb = s.otb ∧ (s.cardLossFault id w).pcs = s.pcs ∧
    (s.cardLossFault id w).csq = s.csq ∧ (s.cardLossFault id w).pbf = s.pbf := by
  simp [State.cardLossFault]

@[simp] theorem State.badToken_frame (s : State) (e : Exchange) (k : FaultResponse) :
    (s.badToken e k).pending = s.pending ∧ (s.badToken e k).lif = s.lif ∧ (s.badToken e k).ldu = s.ldu ∧
    (s.badToken e k).otb = s.otb ∧ (s.badToken e k).pcs = s.pcs ∧ (s.badToken e k).csq = s.csq ∧
    (s.badToken e k).pbf = s.pbf := by
  unfold State.badToken; (repeat' split) <;> simp

@[simp] theorem State.takeToken_frame (s : State) (k : Token) :
    (s.takeToken k).pending = s.pending ∧ (s.takeToken k).lif = s.lif ∧ (s.takeToken k).ldu = s.ldu ∧
    (s.takeToken k).otb = s.otb ∧ (s.takeToken k).pcs = s.pcs ∧ (s.takeToken k).csq = s.csq ∧
    (s.takeToken k).pbf = s.pbf := by
  unfold State.takeToken; (repeat' split) <;> simp

@[simp] theorem State.commandFault_frame (s : State) :
    s.commandFault.pending = s.pending ∧ s.commandFault.lif = s.lif ∧ s.commandFault.ldu = s.ldu ∧
    s.commandFault.otb = s.otb ∧ s.commandFault.pcs = s.pcs ∧ s.commandFault.csq = s.csq ∧
    s.commandFault.pbf = s.pbf := by
  unfold State.commandFault; (repeat' split) <;> simp

@[simp] theorem State.busyEnd_frame (s : State) :
    s.busyEnd.pending = s.pending ∧ s.busyEnd.lif = s.lif ∧ s.busyEnd.ldu = s.ldu ∧ s.busyEnd.otb = s.otb ∧
    s.busyEnd.pcs = s.pcs ∧ s.busyEnd.csq = s.csq := by
  unfold State.busyEnd; dsimp only; (repeat' split) <;> simp

@[simp] theorem State.busyTimeout_frame (s : State) :
    s.busyTimeout.pending = s.pending ∧ s.busyTimeout.lif = s.lif ∧ s.busyTimeout.ldu = s.ldu ∧
    s.busyTimeout.otb = s.otb ∧ s.busyTimeout.pcs = s.pcs ∧ s.busyTimeout.csq = s.csq ∧
    s.busyTimeout.pbf = s.pbf := by
  unfold State.busyTimeout; (repeat' split) <;> simp

@[simp] theorem State.endOpening_frame (s : State) (k : EndClass) (u : Cause) (n : Option Nat) :
    (s.endOpening k u n).pending = s.pending ∧ (s.endOpening k u n).lif = s.lif ∧ (s.endOpening k u n).ldu = s.ldu ∧
    (s.endOpening k u n).otb = s.otb ∧ (s.endOpening k u n).pcs = s.pcs ∧ (s.endOpening k u n).csq = s.csq ∧
    (s.endOpening k u n).pbf = s.pbf := by
  unfold State.endOpening; dsimp only; (repeat' split) <;> simp

@[simp] theorem State.stageDone_frame (s : State) (k : CardCommand) :
    (s.stageDone k).pending = s.pending ∧ (s.stageDone k).lif = s.lif ∧ (s.stageDone k).ldu = s.ldu ∧
    (s.stageDone k).otb = s.otb ∧ (s.stageDone k).pcs = s.pcs ∧ (s.stageDone k).csq = s.csq ∧
    (s.stageDone k).pbf = s.pbf := by
  unfold State.stageDone; (repeat' split) <;> simp

@[simp] theorem State.openingDone_frame (s : State) :
    s.openingDone.pending = s.pending ∧ s.openingDone.lif = s.lif ∧ s.openingDone.ldu = s.ldu ∧
    s.openingDone.otb = s.otb ∧ s.openingDone.pcs = s.pcs ∧ s.openingDone.csq = s.csq ∧
    s.openingDone.pbf = s.pbf := by
  unfold State.openingDone; dsimp only; (repeat' split) <;> simp

@[simp] theorem State.openingResponse_frame (s : State) (k : CardCommand) (r : CardResponse) :
    (s.openingResponse k r).pending = s.pending ∧ (s.openingResponse k r).lif = s.lif ∧
    (s.openingResponse k r).ldu = s.ldu ∧ (s.openingResponse k r).otb = s.otb ∧ (s.openingResponse k r).pcs = s.pcs ∧
    (s.openingResponse k r).csq = s.csq ∧ (s.openingResponse k r).pbf = s.pbf := by
  unfold State.openingResponse; (repeat' split) <;> simp

@[simp] theorem State.writeResponse_frame (s : State) (k : CardCommand) (r : CardResponse) :
    (s.writeResponse k r).pending = s.pending ∧ (s.writeResponse k r).lif = s.lif ∧
    (s.writeResponse k r).ldu = s.ldu ∧ (s.writeResponse k r).otb = s.otb ∧ (s.writeResponse k r).pcs = s.pcs ∧
    (s.writeResponse k r).csq = s.csq ∧ (s.writeResponse k r).pbf = s.pbf := by
  unfold State.writeResponse; (repeat' split) <;> simp

@[simp] theorem State.cardAnswers_frame (s : State) (r : CardResponse) :
    (s.cardAnswers r).pending = s.pending ∧ (s.cardAnswers r).lif = s.lif ∧ (s.cardAnswers r).ldu = s.ldu ∧
    (s.cardAnswers r).otb = s.otb ∧ (s.cardAnswers r).pcs = s.pcs ∧ (s.cardAnswers r).csq = s.csq ∧
    (s.cardAnswers r).pbf = s.pbf := by
  unfold State.cardAnswers; (repeat' split) <;> simp

@[simp] theorem State.cardSilent_frame (s : State) :
    s.cardSilent.pending = s.pending ∧ s.cardSilent.lif = s.lif ∧ s.cardSilent.ldu = s.ldu ∧
    s.cardSilent.otb = s.otb ∧ s.cardSilent.pcs = s.pcs ∧ s.cardSilent.csq = s.csq ∧ s.cardSilent.pbf = s.pbf := by
  unfold State.cardSilent; (repeat' split) <;> simp

@[simp] theorem State.storeLosesCard_frame (s : State) :
    s.storeLosesCard.pending = s.pending ∧ s.storeLosesCard.lif = s.lif ∧ s.storeLosesCard.ldu = s.ldu ∧
    s.storeLosesCard.otb = s.otb ∧ s.storeLosesCard.pcs = s.pcs ∧ s.storeLosesCard.csq = s.csq ∧
    s.storeLosesCard.pbf = s.pbf := by
  unfold State.storeLosesCard; dsimp only; (repeat' split) <;> simp

@[simp] theorem State.cardRemoved_frame (s : State) :
    s.cardRemoved.pending = s.pending ∧ s.cardRemoved.lif = s.lif ∧ s.cardRemoved.ldu = s.ldu ∧
    s.cardRemoved.otb = s.otb ∧ s.cardRemoved.pcs = s.pcs ∧ s.cardRemoved.csq = s.csq := by
  unfold State.cardRemoved; dsimp only; (repeat' split) <;> simp

@[simp] theorem State.cardInserted_frame (s : State) (b : Bool) :
    (s.cardInserted b).pending = s.pending ∧ (s.cardInserted b).lif = s.lif ∧ (s.cardInserted b).ldu = s.ldu ∧
    (s.cardInserted b).otb = s.otb ∧ (s.cardInserted b).pcs = s.pcs ∧ (s.cardInserted b).csq = s.csq ∧
    (s.cardInserted b).pbf = s.pbf := by
  simp [State.cardInserted]

@[simp] theorem State.protectChanged_frame (s : State) (b : Bool) :
    (s.protectChanged b).pending = s.pending ∧ (s.protectChanged b).lif = s.lif ∧ (s.protectChanged b).ldu = s.ldu ∧
    (s.protectChanged b).otb = s.otb ∧ (s.protectChanged b).pcs = s.pcs ∧ (s.protectChanged b).csq = s.csq ∧
    (s.protectChanged b).pbf = s.pbf := by
  unfold State.protectChanged; (repeat' split) <;> simp

@[simp] theorem State.retry_frame (s : State) (id : Nat) (k : Continuation) (f : FaultOperands) :
    (s.retry id k f).pending = s.pending ∧ (s.retry id k f).lif = s.lif ∧ (s.retry id k f).ldu = s.ldu ∧
    (s.retry id k f).otb = s.otb ∧ (s.retry id k f).pcs = s.pcs ∧ (s.retry id k f).csq = s.csq := by
  unfold State.retry; dsimp only; (repeat' split) <;> simp

@[simp] theorem State.afterDisposition_frame (s : State) (k : Continuation) :
    (s.afterDisposition k).pending = s.pending ∧ (s.afterDisposition k).lif = s.lif ∧
    (s.afterDisposition k).ldu = s.ldu ∧ (s.afterDisposition k).otb = s.otb ∧ (s.afterDisposition k).pcs = s.pcs ∧
    (s.afterDisposition k).csq = s.csq := by
  unfold State.afterDisposition; split <;> simp

@[simp] theorem State.dispose_frame (s : State) (h : FaultRecord) (d : Nat) (f : FaultOperands) :
    (s.dispose h d f).pending = s.pending ∧ (s.dispose h d f).lif = s.lif ∧ (s.dispose h d f).ldu = s.ldu ∧
    (s.dispose h d f).otb = s.otb ∧ (s.dispose h d f).pcs = s.pcs ∧ (s.dispose h d f).csq = s.csq := by
  unfold State.dispose; dsimp only; (repeat' split) <;> simp

@[simp] theorem State.setContinuation_frame (s : State) (f : Continuation → Continuation) :
    (s.setContinuation f).pending = s.pending ∧ (s.setContinuation f).lif = s.lif ∧
    (s.setContinuation f).opt = s.opt ∧ (s.setContinuation f).ldu = s.ldu ∧ (s.setContinuation f).otb = s.otb ∧
    (s.setContinuation f).pcs = s.pcs ∧ (s.setContinuation f).csq = s.csq ∧ (s.setContinuation f).pbf = s.pbf := by
  and_intros <;> rfl

@[simp] theorem State.dropCurrent_frame (s : State) :
    s.dropCurrent.pending = s.pending ∧ s.dropCurrent.lif = s.lif ∧ s.dropCurrent.ldu = s.ldu ∧
    s.dropCurrent.otb = s.otb ∧ s.dropCurrent.pcs = s.pcs ∧ s.dropCurrent.csq = s.csq := by
  unfold State.dropCurrent; split <;> simp

@[simp] theorem State.storedSent_frame (s : State) (id : Nat) :
    (s.storedSent id).pending = s.pending ∧ (s.storedSent id).lif = s.lif ∧ (s.storedSent id).ldu = s.ldu ∧
    (s.storedSent id).otb = s.otb ∧ (s.storedSent id).pcs = s.pcs ∧ (s.storedSent id).csq = s.csq := by
  unfold State.storedSent; split <;> simp

@[simp] theorem State.restartCsu_frame (s : State) :
    s.restartCsu.pending = s.pending ∧ s.restartCsu.lif = s.lif ∧ s.restartCsu.opt = s.opt ∧
    s.restartCsu.ldu = s.ldu ∧ s.restartCsu.otb = s.otb ∧ s.restartCsu.pcs = s.pcs ∧ s.restartCsu.csq = s.csq ∧
    s.restartCsu.pbf = s.pbf := by
  unfold State.restartCsu; dsimp only; (repeat' split) <;> simp

@[simp] theorem State.stopLens_frame (s : State) (tag : Nat) (w : Bool) :
    (s.stopLens tag w).pending = s.pending ∧ (s.stopLens tag w).lif = s.lif ∧ (s.stopLens tag w).otb = s.otb ∧
    (s.stopLens tag w).pcs = s.pcs ∧ (s.stopLens tag w).csu = s.csu := by
  unfold State.stopLens; dsimp only; (repeat' split) <;> simp

@[simp] theorem State.stopHold_frame (s : State) (tag : Nat) :
    (s.stopHold tag).pending = s.pending ∧ (s.stopHold tag).lif = s.lif ∧ (s.stopHold tag).ldu = s.ldu ∧
    (s.stopHold tag).otb = s.otb ∧ (s.stopHold tag).pcs = s.pcs ∧ (s.stopHold tag).csq = s.csq ∧
    (s.stopHold tag).pbf = s.pbf := by
  simp [State.stopHold]

@[simp] theorem State.ownerStop_frame (s : State) (e : OpEntry) (c : StopCause) :
    (s.ownerStop e c).pending = s.pending ∧ (s.ownerStop e c).lif = s.lif ∧ (s.ownerStop e c).otb = s.otb ∧
    (s.ownerStop e c).pcs = s.pcs := by
  unfold State.ownerStop; split <;> simp

@[simp] theorem State.stopEntry_frame (s : State) (e : OpEntry) (c : StopCause) :
    (s.stopEntry e c).pending = s.pending ∧ (s.stopEntry e c).lif = s.lif ∧ (s.stopEntry e c).otb = s.otb ∧
    (s.stopEntry e c).pcs = s.pcs := by
  unfold State.stopEntry; split <;> simp

@[simp] theorem State.preempt_frame (s : State) (tag : Nat) :
    (s.preempt tag).pending = s.pending ∧ (s.preempt tag).lif = s.lif ∧ (s.preempt tag).otb = s.otb ∧
    (s.preempt tag).pcs = s.pcs := by
  unfold State.preempt; split <;> simp

@[simp] theorem State.writeTable_frame (s : State) (n : Nat) (f : TableFields) :
    (s.writeTable n f).pending = s.pending ∧ (s.writeTable n f).lif = s.lif ∧ (s.writeTable n f).opt = s.opt ∧
    (s.writeTable n f).ldu = s.ldu ∧ (s.writeTable n f).pcs = s.pcs ∧ (s.writeTable n f).csq = s.csq ∧
    (s.writeTable n f).pbf = s.pbf ∧ (s.writeTable n f).csu = s.csu := by
  unfold State.writeTable; (repeat' split) <;> simp

@[simp] theorem State.commitTable_frame (s : State) :
    s.commitTable.pending = s.pending ∧ s.commitTable.lif = s.lif ∧ s.commitTable.opt = s.opt ∧
    s.commitTable.ldu = s.ldu ∧ s.commitTable.pcs = s.pcs ∧ s.commitTable.csq = s.csq ∧ s.commitTable.pbf = s.pbf ∧
    s.commitTable.csu = s.csu := by
  simp [State.commitTable]

@[simp] theorem State.onLif_frame (s : State) (f : Lif → Lif) :
    (s.onLif f).pending = s.pending ∧ (s.onLif f).opt = s.opt ∧ (s.onLif f).ldu = s.ldu ∧ (s.onLif f).otb = s.otb ∧
    (s.onLif f).pcs = s.pcs ∧ (s.onLif f).csq = s.csq ∧ (s.onLif f).pbf = s.pbf ∧ (s.onLif f).csu = s.csu := by
  and_intros <;> rfl

@[simp] theorem State.discardPacket_frame (s : State) :
    s.discardPacket.pending = s.pending ∧ s.discardPacket.opt = s.opt ∧ s.discardPacket.ldu = s.ldu ∧
    s.discardPacket.otb = s.otb ∧ s.discardPacket.pcs = s.pcs ∧ s.discardPacket.csq = s.csq ∧
    s.discardPacket.pbf = s.pbf ∧ s.discardPacket.csu = s.csu := by
  and_intros <;> rfl

@[simp] theorem State.offerPacket_frame (s : State) (p : Packet) :
    (s.offerPacket p).pending = s.pending ∧ (s.offerPacket p).opt = s.opt ∧ (s.offerPacket p).ldu = s.ldu ∧
    (s.offerPacket p).otb = s.otb ∧ (s.offerPacket p).pcs = s.pcs ∧ (s.offerPacket p).csq = s.csq ∧
    (s.offerPacket p).pbf = s.pbf ∧ (s.offerPacket p).csu = s.csu := by
  and_intros <;> rfl

@[simp] theorem State.collect_frame (s : State) (l : List Byte) :
    (s.collect l).pending = s.pending ∧ (s.collect l).opt = s.opt ∧ (s.collect l).ldu = s.ldu ∧
    (s.collect l).otb = s.otb ∧ (s.collect l).pcs = s.pcs ∧ (s.collect l).csq = s.csq ∧ (s.collect l).pbf = s.pbf ∧
    (s.collect l).csu = s.csu := by
  unfold State.collect; dsimp only; (repeat' split) <;> simp

@[simp] theorem State.linkByte_frame (s : State) (b : Byte) (e : Bool) :
    (s.linkByte b e).pending = s.pending ∧ (s.linkByte b e).opt = s.opt ∧ (s.linkByte b e).ldu = s.ldu ∧
    (s.linkByte b e).otb = s.otb ∧ (s.linkByte b e).pcs = s.pcs ∧ (s.linkByte b e).csq = s.csq ∧
    (s.linkByte b e).pbf = s.pbf ∧ (s.linkByte b e).csu = s.csu := by
  unfold State.linkByte; (repeat' split) <;> simp

@[simp] theorem State.linkGap_frame (s : State) :
    s.linkGap.pending = s.pending ∧ s.linkGap.opt = s.opt ∧ s.linkGap.ldu = s.ldu ∧ s.linkGap.otb = s.otb ∧
    s.linkGap.pcs = s.pcs ∧ s.linkGap.csq = s.csq ∧ s.linkGap.pbf = s.pbf ∧ s.linkGap.csu = s.csu := by
  unfold State.linkGap; split <;> simp

@[simp] theorem State.restartLdu_frame (s : State) :
    s.restartLdu.pending = s.pending ∧ s.restartLdu.lif = s.lif ∧ s.restartLdu.opt = s.opt ∧
    s.restartLdu.otb = s.otb ∧ s.restartLdu.pcs = s.pcs ∧ s.restartLdu.csq = s.csq ∧ s.restartLdu.pbf = s.pbf ∧
    s.restartLdu.csu = s.csu := by
  and_intros <;> rfl

@[simp] theorem State.restartExc_frame (s : State) :
    s.restartExc.pending = s.pending ∧ s.restartExc.lif = s.lif ∧ s.restartExc.opt = s.opt ∧
    s.restartExc.ldu = s.ldu ∧ s.restartExc.otb = s.otb ∧ s.restartExc.pcs = s.pcs ∧ s.restartExc.csq = s.csq ∧
    s.restartExc.pbf = s.pbf ∧ s.restartExc.csu = s.csu := by
  and_intros <;> rfl

@[simp] theorem State.restartLif_frame (s : State) :
    s.restartLif.pending = s.pending ∧ s.restartLif.opt = s.opt ∧ s.restartLif.ldu = s.ldu ∧
    s.restartLif.otb = s.otb ∧ s.restartLif.pcs = s.pcs ∧ s.restartLif.csq = s.csq ∧ s.restartLif.pbf = s.pbf ∧
    s.restartLif.csu = s.csu := by
  and_intros <;> rfl

@[simp] theorem State.restartOpt_frame (s : State) :
    s.restartOpt.pending = s.pending ∧ s.restartOpt.lif = s.lif ∧ s.restartOpt.ldu = s.ldu ∧
    s.restartOpt.otb = s.otb ∧ s.restartOpt.pcs = s.pcs ∧ s.restartOpt.csq = s.csq ∧ s.restartOpt.pbf = s.pbf ∧
    s.restartOpt.csu = s.csu := by
  and_intros <;> rfl

@[simp] theorem State.restartLoops_frame (s : State) :
    s.restartLoops.pending = s.pending ∧ s.restartLoops.lif = s.lif ∧ s.restartLoops.opt = s.opt ∧
    s.restartLoops.ldu = s.ldu ∧ s.restartLoops.otb = s.otb ∧ s.restartLoops.csq = s.csq ∧
    s.restartLoops.pbf = s.pbf ∧ s.restartLoops.csu = s.csu := by
  and_intros <;> rfl

end Sys2Proof.Machine
end

