-- ==== Sys2Proof/Laws/FramesMemory.lean ====
section
/-! SUPPORT. Picture memory is written by a byte taken in DATA alone (R165): every other shared operation that touches PBF
leaves it as it was. -/

namespace Sys2Proof.Machine

-- one declaration after another: each unfolds operations whose equations another would be waiting for
set_option Elab.async false

@[simp] theorem State.freeRecord_memory (s : State) (id : Nat) : (s.freeRecord id).pbf.memory = s.pbf.memory := by
  unfold State.freeRecord; split <;> rfl

@[simp] theorem State.freeRecords_memory (s : State) (p : PicRecord → Bool) :
    (s.freeRecords p).pbf.memory = s.pbf.memory := by
  rfl

@[simp] theorem State.setRecord_memory (s : State) (id : Nat) (f : PicRecord → PicRecord) :
    (s.setRecord id f).pbf.memory = s.pbf.memory := by
  rfl

@[simp] theorem State.grant_memory (s : State) (id tag pos : Nat) :
    (s.grant id tag pos).pbf.memory = s.pbf.memory := by
  rfl

@[simp] theorem State.dropAtLimit_memory (s : State) (id : Nat) : (s.dropAtLimit id).pbf.memory = s.pbf.memory := by
  unfold State.dropAtLimit; (repeat' split) <;> simp

@[simp] theorem State.strobe_memory (s : State) (b : Byte) : (s.strobe b).pbf.memory = s.pbf.memory := by
  rfl

@[simp] theorem State.seekByte_memory (s : State) (a r : Bool) (b : Byte) :
    (s.seekByte a r b).pbf.memory = s.pbf.memory := by
  unfold State.seekByte; (repeat' split) <;> simp

@[simp] theorem State.judgeHeader_memory (s : State) (h : List Byte) :
    (s.judgeHeader h).1.pbf.memory = s.pbf.memory := by
  unfold State.judgeHeader; dsimp only; (repeat' split) <;> simp

@[simp] theorem State.completePicture_memory (s : State) (id : Nat) (r : PicRecord) :
    (s.completePicture id r).pbf.memory = s.pbf.memory := by
  rfl

@[simp] theorem State.dataGap_memory (s : State) (id l : Nat) : (s.dataGap id l).pbf.memory = s.pbf.memory := by
  unfold State.dataGap; split <;> simp

@[simp] theorem State.engineGap_memory (s : State) (l : Nat) : (s.engineGap l).1.pbf.memory = s.pbf.memory := by
  unfold State.engineGap; split <;> simp

@[simp] theorem State.drainIntake_memory (s : State) : s.drainIntake.pbf.memory = s.pbf.memory := by
  rfl

@[simp] theorem State.csqIdle_memory (s : State) : s.csqIdle.pbf.memory = s.pbf.memory := by
  simp [State.csqIdle]

@[simp] theorem State.endShoot_memory (s : State) (c : Capture) (k : EndClass) (u : Cause) :
    (s.endShoot c k u).pbf.memory = s.pbf.memory := by
  simp [State.endShoot]

@[simp] theorem State.endPrepare_memory (s : State) (c : Capture) (k : EndClass) (u : Cause) (r : Option ScanResult) (f : ScanFields) (n : Option Nat) :
    (s.endPrepare c k u r f n).pbf.memory = s.pbf.memory := by
  unfold State.endPrepare; split <;> simp

@[simp] theorem State.checkFinish_memory (s : State) : s.checkFinish.pbf.memory = s.pbf.memory := by
  unfold State.checkFinish; (repeat' split) <;> simp

@[simp] theorem State.enterFinishing_memory (s : State) : s.enterFinishing.pbf.memory = s.pbf.memory := by
  simp [State.enterFinishing]

@[simp] theorem State.afterFailure_memory (s : State) : s.afterFailure.pbf.memory = s.pbf.memory := by
  unfold State.afterFailure; split <;> simp

@[simp] theorem State.failHand_memory (s : State) (id : Nat) (o : PictureOutcome) (k : EndClass) (u : Cause) :
    (s.failHand id o k u).pbf.memory = s.pbf.memory := by
  simp [State.failHand]

@[simp] theorem State.beginPicture_memory (s : State) (p : Nat) : (s.beginPicture p).pbf.memory = s.pbf.memory := by
  rfl

@[simp] theorem State.irisFailed_memory (s : State) : s.irisFailed.pbf.memory = s.pbf.memory := by
  unfold State.irisFailed; (repeat' split) <;> simp

@[simp] theorem State.splitPicture_memory (s : State) : s.splitPicture.pbf.memory = s.pbf.memory := by
  unfold State.splitPicture; dsimp only; (repeat' split) <;>
    first | (simp; done) | simp_all [pair_eq]

@[simp] theorem State.grantPicture_memory (s : State) (c : Capture) :
    (s.grantPicture c).pbf.memory = s.pbf.memory := by
  unfold State.grantPicture; dsimp only; (repeat' split) <;> simp

@[simp] theorem State.beginExposure_memory (s : State) (h : Hand) :
    (s.beginExposure h).pbf.memory = s.pbf.memory := by
  unfold State.beginExposure; split <;> rfl

@[simp] theorem State.checkInterval_memory (s : State) : s.checkInterval.pbf.memory = s.pbf.memory := by
  unfold State.checkInterval; (repeat' split) <;> simp

@[simp] theorem State.refineReported_memory (s : State) (r : RefineReport) :
    (s.refineReported r).pbf.memory = s.pbf.memory := by
  unfold State.refineReported; dsimp only; (repeat' split) <;> simp

@[simp] theorem State.enterInterval_memory (s : State) (p : Program) :
    (s.enterInterval p).pbf.memory = s.pbf.memory := by
  unfold State.enterInterval; dsimp only; (repeat' split) <;>
    first | (simp; done) | simp_all [pair_eq]

@[simp] theorem State.goOnShooting_memory (s : State) : s.goOnShooting.pbf.memory = s.pbf.memory := by
  unfold State.goOnShooting; (repeat' split) <;> simp

@[simp] theorem State.afterExposure_memory (s : State) : s.afterExposure.pbf.memory = s.pbf.memory := by
  simp [State.afterExposure, State.dropHand]

@[simp] theorem State.leaveIntake_memory (s : State) (id : Nat) (o : PictureOutcome) (f : Option Cause) :
    (s.leaveIntake id o f).pbf.memory = s.pbf.memory := by
  unfold State.leaveIntake; dsimp only; (repeat' split) <;> simp

@[simp] theorem State.intakeReported_memory (s : State) (r : IntakeReport) :
    (s.intakeReported r).pbf.memory = s.pbf.memory := by
  unfold State.intakeReported; (repeat' split) <;> simp

@[simp] theorem State.preparationEnded_memory (s : State) (e : ScanEnd) :
    (s.preparationEnded e).pbf.memory = s.pbf.memory := by
  unfold State.preparationEnded; dsimp only; (repeat' split) <;> simp

@[simp] theorem State.askScan_memory (s : State) (u : ScanUser) (p : ScanPlan) :
    (s.askScan u p).pbf.memory = s.pbf.memory := by
  unfold State.askScan; (repeat' split) <;>
    first | (simp; done) | simp_all [pair_eq]

@[simp] theorem State.goOnPreparing_memory (s : State) : s.goOnPreparing.pbf.memory = s.pbf.memory := by
  unfold State.goOnPreparing; (repeat' split) <;> simp

@[simp] theorem State.lensFreed_memory (s : State) (tag : Nat) : (s.lensFreed tag).pbf.memory = s.pbf.memory := by
  unfold State.lensFreed; dsimp only; (repeat' split) <;> simp

@[simp] theorem State.deliver_memory (p : State × FsuReport) :
    (State.deliver p).pbf.memory = p.1.pbf.memory := by
  unfold State.deliver; (repeat' split) <;> simp

@[simp] theorem State.stopPrepare_memory (s : State) (c : Capture) : (s.stopPrepare c).pbf.memory = s.pbf.memory := by
  unfold State.stopPrepare; (repeat' split) <;> simp

@[simp] theorem State.stopShoot_memory (s : State) (c : Capture) (w : Bool) :
    (s.stopShoot c w).pbf.memory = s.pbf.memory := by
  unfold State.stopShoot; (repeat' split) <;> simp

@[simp] theorem State.stopCapture_memory (s : State) (tag : Nat) (w : Bool) :
    (s.stopCapture tag w).pbf.memory = s.pbf.memory := by
  unfold State.stopCapture; (repeat' split) <;> simp

@[simp] theorem State.lensOpHeld_memory (s : State) (tag : Nat) : (s.lensOpHeld tag).pbf.memory = s.pbf.memory := by
  unfold State.lensOpHeld; dsimp only; (repeat' split) <;> simp

@[simp] theorem State.axisHeld_memory (s : State) (a : Axis) : (s.axisHeld a).pbf.memory = s.pbf.memory := by
  unfold State.axisHeld; dsimp only; (repeat' split) <;> simp

@[simp] theorem State.settled_memory (s : State) (a : Axis) : (s.settled a).pbf.memory = s.pbf.memory := by
  simp [State.settled]

@[simp] theorem State.settleAtOnce_memory (s : State) (a : Axis) : (s.settleAtOnce a).pbf.memory = s.pbf.memory := by
  unfold State.settleAtOnce; dsimp only; (repeat' split) <;> simp

@[simp] theorem State.settleZero_memory (s r : State) (a : Axis) :
    (s.settleZero r a).pbf.memory = s.pbf.memory := by
  unfold State.settleZero allAxes; dsimp only [List.foldl_cons, List.foldl_nil]; (repeat' split) <;> simp

@[simp] theorem State.reportLost_memory (s : State) (a : Axis) : (s.reportLost a).pbf.memory = s.pbf.memory := by
  unfold State.reportLost; (repeat' split) <;> simp

@[simp] theorem State.stepCompleted_memory (s : State) (a : Axis) :
    (s.stepCompleted a).pbf.memory = s.pbf.memory := by
  unfold State.stepCompleted; (repeat' split) <;>
    first | (simp; done) | simp_all [pair_eq]

@[simp] theorem State.energized_memory (s : State) (a : Axis) : (s.energized a).pbf.memory = s.pbf.memory := by
  simp [State.energized]

@[simp] theorem State.offer_memory (s : State) (r : FrameRec) : (s.offer r).pbf.memory = s.pbf.memory := by
  unfold State.offer; dsimp only; (repeat' split) <;> simp

@[simp] theorem State.heldOffer_memory (s : State) (o : Option FrameRec) :
    (s.heldOffer o).pbf.memory = s.pbf.memory := by
  unfold State.heldOffer; (repeat' split) <;> simp

@[simp] theorem State.frameBegun_memory (s : State) : s.frameBegun.pbf.memory = s.pbf.memory := by
  simp [State.frameBegun]

@[simp] theorem State.countInterval_memory (s : State) : s.countInterval.pbf.memory = s.pbf.memory := by
  unfold State.countInterval; split <;> simp

@[simp] theorem State.frameStart_memory (s : State) : s.frameStart.pbf.memory = s.pbf.memory := by
  simp [State.frameStart]

@[simp] theorem State.fileStats_memory (s : State) (f : StatsFeed) : (s.fileStats f).pbf.memory = s.pbf.memory := by
  unfold State.fileStats; dsimp only; (repeat' split) <;> simp

@[simp] theorem State.takeHead_memory (s : State) (id : Nat) : (s.takeHead id).pbf.memory = s.pbf.memory := by
  simp [State.takeHead]

@[simp] theorem State.takeOrIdle_memory (s : State) : s.takeOrIdle.pbf.memory = s.pbf.memory := by
  unfold State.takeOrIdle; split <;> simp

@[simp] theorem State.boundaryChoice_memory (s : State) : s.boundaryChoice.pbf.memory = s.pbf.memory := by
  unfold State.boundaryChoice; (repeat' split) <;> simp

@[simp] theorem State.returnDropped_memory (s : State) (id : Nat) :
    (s.returnDropped id).pbf.memory = s.pbf.memory := by
  simp [State.returnDropped]

@[simp] theorem State.completeDrop_memory (s : State) : s.completeDrop.pbf.memory = s.pbf.memory := by
  unfold State.completeDrop; (repeat' split) <;> simp

theorem State.boundaryStop_memory {s u : State} (h : s.boundaryStop = some u) : u.pbf.memory = s.pbf.memory := by
  unfold State.boundaryStop at h
  dsimp only at h
  split at h
  · cases h; simp
  · split at h
    · cases h; simp
    · split at h <;> cases h
      simp

@[simp] theorem State.clusterBoundary_memory (s : State) (e : Exchange) :
    (s.clusterBoundary e).pbf.memory = s.pbf.memory := by
  unfold State.clusterBoundary
  split
  · rfl
  · dsimp only
    split
    · rename_i h
      simpa using State.boundaryStop_memory h
    · (repeat' split) <;> simp

@[simp] theorem State.busyEnd_memory (s : State) : s.busyEnd.pbf.memory = s.pbf.memory := by
  unfold State.busyEnd; dsimp only; (repeat' split) <;> simp

@[simp] theorem State.cardRemoved_memory (s : State) : s.cardRemoved.pbf.memory = s.pbf.memory := by
  unfold State.cardRemoved; dsimp only; (repeat' split) <;> simp

@[simp] theorem State.retry_memory (s : State) (id : Nat) (k : Continuation) (f : FaultOperands) :
    (s.retry id k f).pbf.memory = s.pbf.memory := by
  unfold State.retry; dsimp only; (repeat' split) <;> simp

@[simp] theorem State.afterDisposition_memory (s : State) (k : Continuation) :
    (s.afterDisposition k).pbf.memory = s.pbf.memory := by
  unfold State.afterDisposition; split <;> simp

@[simp] theorem State.dispose_memory (s : State) (h : FaultRecord) (d : Nat) (f : FaultOperands) :
    (s.dispose h d f).pbf.memory = s.pbf.memory := by
  unfold State.dispose; dsimp only; (repeat' split) <;> simp

@[simp] theorem State.dropCurrent_memory (s : State) : s.dropCurrent.pbf.memory = s.pbf.memory := by
  unfold State.dropCurrent; split <;> simp

@[simp] theorem State.storedSent_memory (s : State) (id : Nat) : (s.storedSent id).pbf.memory = s.pbf.memory := by
  unfold State.storedSent; split <;> simp

@[simp] theorem State.stopLens_memory (s : State) (tag : Nat) (w : Bool) :
    (s.stopLens tag w).pbf.memory = s.pbf.memory := by
  unfold State.stopLens; dsimp only; (repeat' split) <;> simp

@[simp] theorem State.ownerStop_memory (s : State) (e : OpEntry) (c : StopCause) :
    (s.ownerStop e c).pbf.memory = s.pbf.memory := by
  unfold State.ownerStop; split <;> simp

@[simp] theorem State.stopEntry_memory (s : State) (e : OpEntry) (c : StopCause) :
    (s.stopEntry e c).pbf.memory = s.pbf.memory := by
  unfold State.stopEntry; split <;> simp

@[simp] theorem State.preempt_memory (s : State) (tag : Nat) : (s.preempt tag).pbf.memory = s.pbf.memory := by
  unfold State.preempt; split <;> simp

/-- The FIFO item the engine takes keeps the canonical form of picture memory. -/
theorem State.engineTake_memory {s t : State} {report : IntakeReport} (h : s.engineTake = .inr (t, report))
    (hm : s.memorySound) : t.memorySound := by
  have key : ∀ u : State, u.pbf.memory = s.pbf.memory → u.memorySound := fun u hu => by
    unfold State.memorySound at *
    rw [hu]
    exact hm
  unfold State.engineTake at h
  split at h
  · cases h
    exact hm
  · unfold State.engineByte at h
    split at h
    · cases h
      exact key _ (by simp)
    · dsimp only at h
      split at h
      · cases h
        exact key _ (by simp)
      · rename_i b rest _ _ bytes _ _
        have := congrArg (fun x : EngineStep => match x with | .inr p => p.1.pbf.memory | .inl _ => t.pbf.memory) h
        simp only [State.judgeHeader_memory] at this
        exact key _ this.symm
    · exact State.dataByte_memory h hm
    · cases h
      exact key _ (by simp)
  · have := congrArg (fun x : EngineStep => match x with | .inr p => p.1.pbf.memory | .inl _ => t.pbf.memory) h
    simp only [State.engineGap_memory] at this
    exact key _ this.symm

end Sys2Proof.Machine
end

