-- ==== Sys2Proof/Laws/Ops.lean ====
section
/-! SUPPORT. What the shared operations of Ops.lean do, said once: the handing of a request and of a feed (R198), the
tracker's acceptance and endings (R4, R6), attentions (R14) and exposures (R15). -/

namespace Sys2Proof.Machine

/-! ## Handing (R198) -/

/-- All a handing can do: the entry leaves the handed list, or the state stands as it was. -/
theorem State.takeHanded_cases {s t : State} {c : Instr} (h : s.takeHanded c = some t) :
    (s.lif.handed.contains c.atLink = true ∧
      t = { s with lif := { s.lif with handed := s.lif.handed.erase c.atLink } }) ∨
    (s.lif.handed.contains c.atLink = false ∧ s.lif.restart = .none ∧ (isFeed c = true ∨ s.owed < 4) ∧ t = s) := by
  unfold State.takeHanded at h
  split at h
  · rename_i hc
    exact .inl ⟨hc, (Option.some.inj h).symm⟩
  · rename_i hc
    split at h
    · rename_i hr
      exact .inr ⟨by simpa using hc, hr.1, hr.2, (Option.some.inj h).symm⟩
    · cases h

/-- A handing writes the handed list alone. -/
theorem State.takeHanded_frame {s t : State} {c : Instr} (h : s.takeHanded c = some t) :
    ∃ l, t = { s with lif := { s.lif with handed := l } } := by
  obtain ⟨-, rfl⟩ | ⟨-, -, -, rfl⟩ := State.takeHanded_cases h
  · exact ⟨_, rfl⟩
  · exact ⟨t.lif.handed, rfl⟩

/-- A request that reaches its owner is decided by the owner. -/
theorem State.onRequest_reaches {s t : State} {c : Instr} {tag : Nat} (h : s.reaches c tag t) (f : State → State) :
    s.onRequest c tag f = f t := by
  simp [State.onRequest, h.2, h.1]

/-- A request with TAG 0 is refused before its owner sees it. -/
theorem State.onRequest_tagZero {s t : State} {c : Instr} (h : s.takeHanded c = some t) (f : State → State) :
    s.onRequest c 0 f = t.refuse 0 .field 255 := by
  simp [State.onRequest, h]

/-- A request that is not taken has no effect. -/
theorem State.onRequest_notTaken {s : State} {c : Instr} {tag : Nat} (h : s.takeHanded c = none) (f : State → State) :
    s.onRequest c tag f = s := by
  simp [State.onRequest, h]

/-- A feed that is taken reaches its owner. -/
theorem State.onFeed_taken {s t : State} {c : Instr} (h : s.takeHanded c = some t) (f : State → State) :
    s.onFeed c f = f t := by
  simp [State.onFeed, h]

/-- A feed that is not taken has no effect. -/
theorem State.onFeed_notTaken {s : State} {c : Instr} (h : s.takeHanded c = none) (f : State → State) :
    s.onFeed c f = s := by
  simp [State.onFeed, h]

/-- What holds of a state after a request: it holds of the state itself, after the refusal of TAG 0, and after the owner's
decision. -/
theorem State.onRequest_holds {s : State} {c : Instr} {tag : Nat} {f : State → State} {P : State → Prop} (h0 : P s)
    (hr : ∀ t, s.takeHanded c = some t → P (t.refuse 0 .field 255))
    (hf : ∀ t, s.takeHanded c = some t → P (f t)) : P (s.onRequest c tag f) := by
  unfold State.onRequest
  split
  · exact h0
  · rename_i t ht
    split
    · exact hr t ht
    · exact hf t ht

/-! ## Acceptance (R4) -/

/-- With room in the tracker a long request is accepted and its owner begins. -/
theorem State.accept_room {t : State} {tag : Nat} (h : t.hasRoom tag) (kind : OpKind) (state : OpState)
    (planned : Option Nat) (begin_ : State → State) :
    t.accept tag kind state planned begin_ = begin_ (t.accepted tag kind state planned) := by
  simp only [State.accept, State.hasRoom] at *
  rw [h]
  rfl

/-- A long request the tracker refuses is refused with its code. -/
theorem State.accept_refused {t : State} {tag detail : Nat} {code : Code} (h : t.trackerRefusal tag = some (code, detail))
    (kind : OpKind) (state : OpState) (planned : Option Nat) (begin_ : State → State) :
    t.accept tag kind state planned begin_ = t.drawFree.refuse tag code detail := by
  simp only [State.accept]
  rw [h]

/-- A tag with room has no entry. -/
theorem State.hasRoom_noEntry {t : State} {tag : Nat} (h : t.hasRoom tag) : ∀ e ∈ t.opt.table, e.tag ≠ tag := by
  intro e he hh
  simp only [State.hasRoom, State.trackerRefusal] at h
  have : (t.entry tag).isSome = true := by
    simp only [State.entry, List.find?_isSome]
    exact ⟨e, he, by simpa using hh⟩
  simp [this] at h

/-- With room fewer than eight operations are tracked. -/
theorem State.hasRoom_tracked {t : State} {tag : Nat} (h : t.hasRoom tag) : t.tracked < 8 := by
  unfold State.hasRoom State.trackerRefusal at h
  split at h
  · cases h
  · split at h
    · cases h
    · split at h
      · cases h
      · omega

/-- Updating the entry of a tag with room changes nothing. -/
theorem State.hasRoom_map {t : State} {tag : Nat} (h : t.hasRoom tag) (f : OpEntry → OpEntry) :
    (t.opt.table.map fun e => if e.tag = tag then f e else e) = t.opt.table := by
  conv_rhs => rw [← List.map_id t.opt.table]
  apply List.map_congr_left
  intro e he
  simp [State.hasRoom_noEntry h e he]

/-- The table of an accepted request. -/
theorem State.accepted_table (t : State) (tag : Nat) (kind : OpKind) (state : OpState) (planned : Option Nat) :
    (t.accepted tag kind state planned).opt.table =
      t.opt.table ++ [{ tag := tag, kind := kind, state := state, done := 0, planned := planned, cause := none }] := rfl

/-! ## Endings (R6) -/

/-- An ending of a tag with an entry takes the entry out of the table and places one ENDING. -/
theorem State.ending_entry {s : State} {tag : Nat} {e : OpEntry} (h : s.entry tag = some e) (cls : EndClass)
    (cause : Cause) (resume : Resume) (result : Option Nat) (fields : EndFields) :
    s.ending tag cls cause resume result fields =
      (s.removeEntry tag).place
        (.ending { tag := tag, kind := e.kind, cls := cls, cause := cause, done := e.done, resume := resume,
                   result := result, fields := fields }) := by
  simp [State.ending, h]

/-- An ending that finds no entry is discarded. -/
theorem State.ending_noEntry {s : State} {tag : Nat} (h : s.entry tag = none) (cls : EndClass) (cause : Cause)
    (resume : Resume) (result : Option Nat) (fields : EndFields) :
    s.ending tag cls cause resume result fields = s := by
  simp [State.ending, h]

/-! ## What is tracked (R4): the length of the table and the ENDING tags -/

/-- Tags of the ENDING notices of an outbox. -/
def outboxEndings (l : List Notice) : List Nat :=
  l.filterMap fun n => match n with | .ending e => some e.tag | _ => none

/-- Tag of an ENDING being sent. -/
def sentEndings : Option TxPacket → List Nat
  | some { item := .notice (.ending e), bytes := _ } => [e.tag]
  | _ => []

/-- What is tracked, by its three places. -/
theorem State.tracked_eq (s : State) :
    s.tracked = s.opt.table.length + ((outboxEndings s.opt.outbox).length + (sentEndings s.lif.tx).length) := by
  unfold State.tracked State.endingTags
  rw [List.length_append]
  rfl

@[simp] theorem State.updateEntry_tracked (s : State) (tag : Nat) (f : OpEntry → OpEntry) :
    (s.updateEntry tag f).tracked = s.tracked := by
  simp [State.tracked_eq, State.updateEntry]

@[simp] theorem State.reply_tracked (s : State) (tag : Nat) (b : ReplyBody) : (s.reply tag b).tracked = s.tracked := rfl

/-- A map of notices that keeps each ENDING and makes none keeps the ENDING tags. -/
theorem outboxEndings_map (l : List Notice) (f : Notice → Notice)
    (h : ∀ n, outboxEndings [f n] = outboxEndings [n]) : outboxEndings (l.map f) = outboxEndings l := by
  induction l with
  | nil => rfl
  | cons n rest ih =>
    have key : ∀ (m : Notice) (k : List Notice), outboxEndings (m :: k) = outboxEndings [m] ++ outboxEndings k := by
      intro m k
      rw [← List.singleton_append, outboxEndings, List.filterMap_append]
      rfl
    rw [List.map_cons, key, h, ih, ← key]

/-- An ATTENTION tracks no operation (R14). -/
@[simp] theorem State.attention_tracked (s : State) (src : Source) (c : Condition) (d : Nat) :
    (s.attention src c d).tracked = s.tracked := by
  have m := outboxEndings_map s.opt.outbox (renewAttention src c d) (by
    intro n
    cases n <;> simp only [renewAttention, outboxEndings]
    split <;> rfl)
  unfold State.attention
  split
  · simp only [State.tracked_eq, m]
  · simp [State.tracked_eq, State.place, outboxEndings]

/-- An EXPOSURE tracks no operation (R15). -/
@[simp] theorem State.placeExposure_tracked (s : State) (n : Notice) (hn : isExposure n = true) :
    (s.placeExposure n).tracked = s.tracked := by
  have hx : outboxEndings [n] = [] := by cases n <;> simp_all [isExposure, outboxEndings]
  have m := outboxEndings_map s.opt.outbox (fun m => if isExposure m then n else m) (by
    intro p
    split
    · rename_i hp
      rw [hx]
      cases p <;> simp_all [isExposure, outboxEndings]
    · rfl)
  unfold State.placeExposure
  split
  · simp only [State.tracked_eq, m]
  · have : outboxEndings (s.opt.outbox ++ [n]) = outboxEndings s.opt.outbox := by
      rw [outboxEndings, List.filterMap_append]
      exact (congrArg _ hx).trans (List.append_nil _)
    simp only [State.tracked_eq, State.place, this]

end Sys2Proof.Machine
end

