-- ==== Sys2Proof/Laws/PerInstr.lean ====
section
/-! SUPPORT. One law per command: a well-formed request has a KIND of section 12.5 and a payload of at most 240 bytes
(R196, R203), so that a packet carries it. -/

namespace Sys2Proof.Laws.RequestLayout

-- one declaration after another: each unfolds operations whose equations another would be waiting for
set_option Elab.async false

/-- A well-formed command that is a request has a request's KIND, the TAG it names and a payload one packet holds. -/
def Statement (i : Instr) : Prop :=
  i.wellFormed = true → ∀ kind tag payload, encodeRequest i = some (kind, tag, payload) →
    kind ∈ requestKinds ∧ tag < 256 ∧ payload.length ≤ 240

/-- A METER-SET that fits has 48 weights. -/
theorem meter_weights {m : MeterOperands} (h : m.fits = true) : m.weights.length = 48 := by
  unfold MeterOperands.fits at h
  simp only [Bool.and_eq_true, beq_iff_eq] at h
  tauto

/-- A CONTEXT-SET that fits has 48 weights. -/
theorem context_weights {c : ContextOperands} (h : c.fits = true) : c.meter.weights.length = 48 := by
  unfold ContextOperands.fits at h
  simp only [Bool.and_eq_true] at h
  exact meter_weights (by tauto)

/-- A fault record that fits leaves room for the disposition byte. -/
theorem fault_length {f : FaultOperands} (h : f.fits = true) :
    17 + 11 * f.writeBacks.length + 6 * f.fragments.length ≤ 240 := by
  unfold FaultOperands.fits at h
  simp only [Bool.and_eq_true, decide_eq_true_eq] at h
  tauto

theorem hardwareReset (rateHigh : Bool) (flags : RefFlags) : Statement (.hardwareReset rateHigh flags) := by
  intro _ _ _ _ h
  cases h

theorem linkByteReceived (byte : Byte) (framingError : Bool) : Statement (.linkByteReceived byte framingError) := by
  intro _ _ _ _ h
  cases h

theorem interByteGapTimeout : Statement (.interByteGapTimeout) := by
  intro _ _ _ _ h
  cases h

theorem receiveQueueTake : Statement (.receiveQueueTake) := by
  intro _ _ _ _ h
  cases h

theorem packetTransmissionStart : Statement (.packetTransmissionStart) := by
  intro _ _ _ _ h
  cases h

theorem packetTransmissionEnd : Statement (.packetTransmissionEnd) := by
  intro _ _ _ _ h
  cases h

theorem query (tag : Nat) (part : Nat) : Statement (.query tag part) := by
  intro hw _ _ _ h
  cases h
  simp only [Instr.wellFormed, Bool.and_eq_true, decide_eq_true_eq] at hw
  refine ⟨by decide, by omega, ?_⟩
  simp

theorem restart (tag : Nat) : Statement (.restart tag) := by
  intro hw _ _ _ h
  cases h
  simp only [Instr.wellFormed, decide_eq_true_eq] at hw
  refine ⟨by decide, by omega, ?_⟩
  simp

theorem stop (tag : Nat) (operation : Nat) : Statement (.stop tag operation) := by
  intro hw _ _ _ h
  cases h
  simp only [Instr.wellFormed, Bool.and_eq_true, decide_eq_true_eq] at hw
  refine ⟨by decide, by omega, ?_⟩
  simp

theorem axisSet (tag : Nat) (axis interval energize settle hold : Nat) :
    Statement (.axisSet tag axis interval energize settle hold) := by
  intro hw _ _ _ h
  cases h
  simp only [Instr.wellFormed, Bool.and_eq_true, decide_eq_true_eq] at hw
  refine ⟨by decide, by omega, ?_⟩
  simp

theorem home (tag : Nat) (mask : Nat) (flags : RefFlags) : Statement (.home tag mask flags) := by
  intro hw _ _ _ h
  cases h
  simp only [Instr.wellFormed, Bool.and_eq_true, decide_eq_true_eq] at hw
  refine ⟨by decide, by omega, ?_⟩
  simp

theorem move (tag : Nat) (axis target : Nat) : Statement (.move tag axis target) := by
  intro hw _ _ _ h
  cases h
  simp only [Instr.wellFormed, Bool.and_eq_true, decide_eq_true_eq] at hw
  refine ⟨by decide, by omega, ?_⟩
  simp

theorem zoom (tag : Nat) (target : Nat) : Statement (.zoom tag target) := by
  intro hw _ _ _ h
  cases h
  simp only [Instr.wellFormed, Bool.and_eq_true, decide_eq_true_eq] at hw
  refine ⟨by decide, by omega, ?_⟩
  simp

theorem park (tag : Nat) : Statement (.park tag) := by
  intro hw _ _ _ h
  cases h
  simp only [Instr.wellFormed, decide_eq_true_eq] at hw
  refine ⟨by decide, by omega, ?_⟩
  simp

theorem energizeTimeout (axis : Axis) (flags : RefFlags) : Statement (.energizeTimeout axis flags) := by
  intro _ _ _ _ h
  cases h

theorem axisStepComplete (axis : Axis) (flags : RefFlags) : Statement (.axisStepComplete axis flags) := by
  intro _ _ _ _ h
  cases h

theorem homeLimitReached (axis : Axis) (flags : RefFlags) : Statement (.homeLimitReached axis flags) := by
  intro _ _ _ _ h
  cases h

theorem settleTimeout (axis : Axis) : Statement (.settleTimeout axis) := by
  intro _ _ _ _ h
  cases h

theorem holdReleaseTimeout (axis : Axis) : Statement (.holdReleaseTimeout axis) := by
  intro _ _ _ _ h
  cases h

theorem tableLoad (tag : Nat) (selector : Nat) (fields : TableFields) :
    Statement (.tableLoad tag selector fields) := by
  intro hw _ _ _ h
  cases h
  simp only [Instr.wellFormed, Bool.and_eq_true, decide_eq_true_eq] at hw
  refine ⟨by decide, by omega, ?_⟩
  cases fields <;> simp

theorem tableCommit (tag : Nat) : Statement (.tableCommit tag) := by
  intro hw _ _ _ h
  cases h
  simp only [Instr.wellFormed, decide_eq_true_eq] at hw
  refine ⟨by decide, by omega, ?_⟩
  simp

theorem frameStart : Statement (.frameStart) := by
  intro _ _ _ _ h
  cases h

theorem stats (feed : StatsFeed) : Statement (.stats feed) := by
  intro _ _ _ _ h
  cases h

theorem meterSet (tag : Nat) (ops : MeterOperands) : Statement (.meterSet tag ops) := by
  intro hw _ _ _ h
  cases h
  simp only [Instr.wellFormed, Bool.and_eq_true, decide_eq_true_eq] at hw
  refine ⟨by decide, by omega, ?_⟩
  have := meter_weights hw.2
  simp [this]

theorem afSet (tag : Nat) (ops : AfOperands) : Statement (.afSet tag ops) := by
  intro hw _ _ _ h
  cases h
  simp only [Instr.wellFormed, Bool.and_eq_true, decide_eq_true_eq] at hw
  refine ⟨by decide, by omega, ?_⟩
  simp

theorem scan (tag : Nat) (ops : ScanOperands) : Statement (.scan tag ops) := by
  intro hw _ _ _ h
  cases h
  simp only [Instr.wellFormed, Bool.and_eq_true, decide_eq_true_eq] at hw
  refine ⟨by decide, by omega, ?_⟩
  simp

theorem frameWaitExpiry : Statement (.frameWaitExpiry) := by
  intro _ _ _ _ h
  cases h

theorem steadySet (tag : Nat) (mode leak : Nat) : Statement (.steadySet tag mode leak) := by
  intro hw _ _ _ h
  cases h
  simp only [Instr.wellFormed, Bool.and_eq_true, decide_eq_true_eq] at hw
  refine ⟨by decide, by omega, ?_⟩
  simp

theorem gyroCal (tag : Nat) : Statement (.gyroCal tag) := by
  intro hw _ _ _ h
  cases h
  simp only [Instr.wellFormed, decide_eq_true_eq] at hw
  refine ⟨by decide, by omega, ?_⟩
  simp

theorem rateSample (sample : Sample) : Statement (.rateSample sample) := by
  intro _ _ _ _ h
  cases h

theorem gyroCalWindowEnd (sample : Sample) : Statement (.gyroCalWindowEnd sample) := by
  intro _ _ _ _ h
  cases h

theorem panningEntry (sample : Sample) : Statement (.panningEntry sample) := by
  intro _ _ _ _ h
  cases h

theorem actuatorFault (sample : Sample) : Statement (.actuatorFault sample) := by
  intro _ _ _ _ h
  cases h

theorem recentreTimeout : Statement (.recentreTimeout) := by
  intro _ _ _ _ h
  cases h

theorem programSet (tag : Nat) (ops : ProgramOperands) : Statement (.programSet tag ops) := by
  intro hw _ _ _ h
  cases h
  simp only [Instr.wellFormed, Bool.and_eq_true, decide_eq_true_eq] at hw
  refine ⟨by decide, by omega, ?_⟩
  simp

theorem programLimit (tag : Nat) (limit : Nat) : Statement (.programLimit tag limit) := by
  intro hw _ _ _ h
  cases h
  simp only [Instr.wellFormed, Bool.and_eq_true, decide_eq_true_eq] at hw
  refine ⟨by decide, by omega, ?_⟩
  simp

theorem contextSet (tag : Nat) (ops : ContextOperands) : Statement (.contextSet tag ops) := by
  intro hw _ _ _ h
  cases h
  simp only [Instr.wellFormed, Bool.and_eq_true, decide_eq_true_eq] at hw
  refine ⟨by decide, by omega, ?_⟩
  have := context_weights hw.2
  simp [this]

theorem contextRead (tag : Nat) (slot : Nat) : Statement (.contextRead tag slot) := by
  intro hw _ _ _ h
  cases h
  simp only [Instr.wellFormed, Bool.and_eq_true, decide_eq_true_eq] at hw
  refine ⟨by decide, by omega, ?_⟩
  simp

theorem switch (tag : Nat) (slot : Nat) : Statement (.switch tag slot) := by
  intro hw _ _ _ h
  cases h
  simp only [Instr.wellFormed, Bool.and_eq_true, decide_eq_true_eq] at hw
  refine ⟨by decide, by omega, ?_⟩
  simp

theorem enter (tag : Nat) (slot : Nat) : Statement (.enter tag slot) := by
  intro hw _ _ _ h
  cases h
  simp only [Instr.wellFormed, Bool.and_eq_true, decide_eq_true_eq] at hw
  refine ⟨by decide, by omega, ?_⟩
  simp

theorem leave (tag : Nat) : Statement (.leave tag) := by
  intro hw _ _ _ h
  cases h
  simp only [Instr.wellFormed, decide_eq_true_eq] at hw
  refine ⟨by decide, by omega, ?_⟩
  simp

theorem contextTravelBegin : Statement (.contextTravelBegin) := by
  intro _ _ _ _ h
  cases h

theorem prepare (tag : Nat) : Statement (.prepare tag) := by
  intro hw _ _ _ h
  cases h
  simp only [Instr.wellFormed, decide_eq_true_eq] at hw
  refine ⟨by decide, by omega, ?_⟩
  simp

theorem release (tag : Nat) : Statement (.release tag) := by
  intro hw _ _ _ h
  cases h
  simp only [Instr.wellFormed, decide_eq_true_eq] at hw
  refine ⟨by decide, by omega, ?_⟩
  simp

theorem shoot (tag : Nat) (program : Nat) (count : Option Nat) : Statement (.shoot tag program count) := by
  intro hw _ _ _ h
  cases h
  simp only [Instr.wellFormed, Bool.and_eq_true, decide_eq_true_eq] at hw
  refine ⟨by decide, by omega, ?_⟩
  simp

theorem reservationGrant : Statement (.reservationGrant) := by
  intro _ _ _ _ h
  cases h

theorem armed (picture : Nat) : Statement (.armed picture) := by
  intro _ _ _ _ h
  cases h

theorem armTimeout : Statement (.armTimeout) := by
  intro _ _ _ _ h
  cases h

theorem exposureTimeEnd : Statement (.exposureTimeEnd) := by
  intro _ _ _ _ h
  cases h

theorem bladeClosed : Statement (.bladeClosed) := by
  intro _ _ _ _ h
  cases h

theorem bladeTimeout : Statement (.bladeTimeout) := by
  intro _ _ _ _ h
  cases h

theorem rechargeTimeout : Statement (.rechargeTimeout) := by
  intro _ _ _ _ h
  cases h

theorem intakeLimitExpiry : Statement (.intakeLimitExpiry) := by
  intro _ _ _ _ h
  cases h

theorem intervalEnd : Statement (.intervalEnd) := by
  intro _ _ _ _ h
  cases h

theorem intakeStrobe (byte : Byte) : Statement (.intakeStrobe byte) := by
  intro _ _ _ _ h
  cases h

theorem intakeEngineByte : Statement (.intakeEngineByte) := by
  intro _ _ _ _ h
  cases h

theorem pictureRead (tag : Nat) (picture : Nat) : Statement (.pictureRead tag picture) := by
  intro hw _ _ _ h
  cases h
  simp only [Instr.wellFormed, Bool.and_eq_true, decide_eq_true_eq] at hw
  refine ⟨by decide, by omega, ?_⟩
  simp

theorem pictureDrop (tag : Nat) (picture : Nat) : Statement (.pictureDrop tag picture) := by
  intro hw _ _ _ h
  cases h
  simp only [Instr.wellFormed, Bool.and_eq_true, decide_eq_true_eq] at hw
  refine ⟨by decide, by omega, ?_⟩
  simp

theorem cardDetectChange (present : Bool) (protectLevel : Bool) :
    Statement (.cardDetectChange present protectLevel) := by
  intro _ _ _ _ h
  cases h

theorem writeProtectChange (protectLevel : Bool) : Statement (.writeProtectChange protectLevel) := by
  intro _ _ _ _ h
  cases h

theorem cardOpen (tag : Nat) : Statement (.cardOpen tag) := by
  intro hw _ _ _ h
  cases h
  simp only [Instr.wellFormed, decide_eq_true_eq] at hw
  refine ⟨by decide, by omega, ?_⟩
  simp

theorem cardResponse (response : CardResponse) : Statement (.cardResponse response) := by
  intro _ _ _ _ h
  cases h

theorem conditionQueryPoll : Statement (.conditionQueryPoll) := by
  intro _ _ _ _ h
  cases h

theorem cardResetTimeout : Statement (.cardResetTimeout) := by
  intro _ _ _ _ h
  cases h

theorem cardCommandTimeout : Statement (.cardCommandTimeout) := by
  intro _ _ _ _ h
  cases h

theorem storeSet (tag : Nat) (cluster pages : Nat) : Statement (.storeSet tag cluster pages) := by
  intro hw _ _ _ h
  cases h
  simp only [Instr.wellFormed, Bool.and_eq_true, decide_eq_true_eq] at hw
  refine ⟨by decide, by omega, ?_⟩
  simp

theorem extentsGive (tag : Nat) (extents : List Extent) : Statement (.extentsGive tag extents) := by
  intro hw _ _ _ h
  cases h
  simp only [Instr.wellFormed, Bool.and_eq_true, decide_eq_true_eq] at hw
  refine ⟨by decide, by omega, ?_⟩
  simp
  omega

theorem storeOn (tag : Nat) : Statement (.storeOn tag) := by
  intro hw _ _ _ h
  cases h
  simp only [Instr.wellFormed, decide_eq_true_eq] at hw
  refine ⟨by decide, by omega, ?_⟩
  simp

theorem storeHold (tag : Nat) : Statement (.storeHold tag) := by
  intro hw _ _ _ h
  cases h
  simp only [Instr.wellFormed, decide_eq_true_eq] at hw
  refine ⟨by decide, by omega, ?_⟩
  simp

theorem storeTakeRecord : Statement (.storeTakeRecord) := by
  intro _ _ _ _ h
  cases h

theorem blockStatusToken (token : Token) : Statement (.blockStatusToken token) := by
  intro _ _ _ _ h
  cases h

theorem cardBusyEnd : Statement (.cardBusyEnd) := by
  intro _ _ _ _ h
  cases h

theorem cardBusyTimeout : Statement (.cardBusyTimeout) := by
  intro _ _ _ _ h
  cases h

theorem faultRead (tag : Nat) : Statement (.faultRead tag) := by
  intro hw _ _ _ h
  cases h
  simp only [Instr.wellFormed, decide_eq_true_eq] at hw
  refine ⟨by decide, by omega, ?_⟩
  simp

theorem faultReturn (tag : Nat) (disposition : Nat) (edited : FaultOperands) :
    Statement (.faultReturn tag disposition edited) := by
  intro hw _ _ _ h
  cases h
  simp only [Instr.wellFormed, Bool.and_eq_true, decide_eq_true_eq] at hw
  refine ⟨by decide, by omega, ?_⟩
  have := fault_length hw.2
  simp
  omega

end Sys2Proof.Laws.RequestLayout
end

