-- ==== Sys2Proof/Tests/Slice0.lean ====
section
/-! SUPPORT. The model's own tests. First the smoke test of WellFormed; then worked values of the manual, of the CRC's
published check value and of hand calculation from the rules; then, for every statement with hypotheses, a theorem that
meets them all together on a concrete state, clause by clause and at the boundary values of their ranges
(`test_witness_<statement>`). -/

namespace Sys2Proof.Tests

open Sys2Proof Sys2Proof.Machine

/-! ## WellFormed refuses ill-formed terms -/

def meter : MeterOperands :=
  { mode := 0, weights := List.replicate 48 1, target := 470, highlight := 4, compensation := 0, convergence := 4,
    rounding := 0, gvMax := 160, knee := 287, tvFloor := 0 }

def af : AfOperands :=
  { mask := 1, step := 8, condition := 0, fall := 2, threshold := 20000, minimum := 2000, skip := 1, span := 0,
    hold := 0 }

def node : NodeFields :=
  { zoomStep := 100, focal := 470, equiv := 300, avOpen := 100, fInf := 40, fNear := 800, gain := 65536 }

def scanOps : ScanOperands :=
  { start := none, stop := none, mask := none, step := none, condition := none, fall := none, threshold := none,
    minimum := none, skip := none }

def program : ProgramOperands :=
  { index := 0, present := 1, kind := 0, mask := 3, count := 1, step := 0, interval := 0, between := 0, focusFirst := 0 }

def context : ContextOperands :=
  { slot := 1, kind := 0, zoomStep := 100, d := 0, x := none, meter := meter, af := af, mode := 0, leak := 11,
    interval := none }

def writeBack : WriteBackOperand := { cluster := 0, block := 0, valid := 1, relocation := none }

def fault : FaultOperands :=
  { format := 1, picture := 1, written := 0, cluster := some 0, block := some 0, response := some 1, continuation := 0,
    repeats := 0, writeBacks := [writeBack], fragments := [{ start := 0, clusters := 1 }] }

def stats : StatsFeed :=
  { frame := 1, serial := 0, hostMark := 0, zones := List.replicate 48 100, contrasts := List.replicate 5 1000 }

def sample : Sample := { yaw := 0, pitch := 0, shiftYaw := 0, shiftPitch := 0 }

/-- Every group of operands used below is well formed as it stands. -/
theorem test_wellFormed_accepts :
    [Instr.meterSet 1 meter, .afSet 1 af, .tableLoad 1 0 (.node node), .tableLoad 1 16 (.global resetGlobal),
      .scan 1 scanOps, .programSet 1 program, .contextSet 1 context, .faultReturn 1 0 fault, .stats stats,
      .rateSample sample, .query 255 255].all Instr.wellFormed = true := by decide

theorem test_illFormed_requests :
    [Instr.query 256 0, .query 1 256, .restart 256, .stop 256 0, .stop 1 256, .axisSet 256 0 0 0 0 0,
      .axisSet 1 256 0 0 0 0, .axisSet 1 0 65536 0 0 0, .axisSet 1 0 0 65536 0 0, .axisSet 1 0 0 0 65536 0,
      .axisSet 1 0 0 0 0 65536, .home 256 1 ⟨false, false, false⟩, .home 1 256 ⟨false, false, false⟩, .move 256 0 0,
      .move 1 256 0, .move 1 0 65536, .zoom 256 0, .zoom 1 65536, .park 256, .tableCommit 256, .steadySet 256 0 8,
      .steadySet 1 256 8, .steadySet 1 0 256, .gyroCal 256, .programLimit 256 0, .programLimit 1 256,
      .contextRead 256 0, .contextRead 1 256, .switch 256 0, .switch 1 256, .enter 256 0, .enter 1 256, .leave 256,
      .prepare 256, .release 256, .shoot 256 0 none, .shoot 1 256 none, .shoot 1 0 (some 255), .pictureRead 256 1,
      .pictureRead 1 65536, .pictureDrop 256 1, .pictureDrop 1 65536, .cardOpen 256, .storeSet 256 64 192,
      .storeSet 1 65536 192, .storeSet 1 64 65536, .storeOn 256, .storeHold 256, .faultRead 256].all
      (fun c => !c.wellFormed) = true := by decide

theorem test_illFormed_tables :
    [{ node with zoomStep := 65536 }, { node with focal := 65536 }, { node with equiv := 65536 },
      { node with avOpen := 65536 }, { node with fInf := 65536 }, { node with fNear := 65536 },
      { node with gain := 4294967296 }].all (fun f => !(Instr.tableLoad 1 0 (.node f)).wellFormed) = true ∧
    [{ resetGlobal with avCap := 65536 }, { resetGlobal with tvMaxElectronic := 65536 },
      { resetGlobal with tvMaxMechanical := 65536 }, { resetGlobal with stroke := 65536 },
      { resetGlobal with follow := 65536 }].all (fun f => !(Instr.tableLoad 1 16 (.global f)).wellFormed) = true ∧
    (Instr.tableLoad 256 0 (.node node)).wellFormed = false ∧
    (Instr.tableLoad 1 256 (.node node)).wellFormed = false := by decide

theorem test_illFormed_settings :
    [{ meter with mode := 256 }, { meter with weights := List.replicate 47 1 },
      { meter with weights := List.replicate 48 256 }, { meter with target := 65536 }, { meter with highlight := 256 },
      { meter with compensation := -32769 }, { meter with compensation := 32768 }, { meter with convergence := 256 },
      { meter with rounding := 256 }, { meter with gvMax := 256 }, { meter with knee := 65536 },
      { meter with tvFloor := 65536 }].all (fun m => !(Instr.meterSet 1 m).wellFormed) = true ∧
    [{ af with mask := 256 }, { af with step := 256 }, { af with condition := 256 }, { af with fall := 256 },
      { af with threshold := 4294967296 }, { af with minimum := 4294967296 }, { af with skip := 256 },
      { af with span := 256 }, { af with hold := 256 }].all (fun a => !(Instr.afSet 1 a).wellFormed) = true ∧
    [{ scanOps with start := some 65535 }, { scanOps with stop := some 65535 }, { scanOps with mask := some 255 },
      { scanOps with step := some 255 }, { scanOps with condition := some 255 }, { scanOps with fall := some 255 },
      { scanOps with threshold := some 4294967295 }, { scanOps with minimum := some 4294967295 },
      { scanOps with skip := some 255 }].all (fun o => !(Instr.scan 1 o).wellFormed) = true ∧
    (Instr.meterSet 256 meter).wellFormed = false ∧ (Instr.afSet 256 af).wellFormed = false ∧
    (Instr.scan 256 scanOps).wellFormed = false := by decide

theorem test_illFormed_programs :
    [{ program with index := 256 }, { program with present := 256 }, { program with kind := 256 },
      { program with mask := 256 }, { program with count := 256 }, { program with step := 256 },
      { program with interval := 256 }, { program with between := 256 }, { program with focusFirst := 256 }].all
      (fun o => !(Instr.programSet 1 o).wellFormed) = true ∧
    [{ context with slot := 256 }, { context with kind := 256 }, { context with zoomStep := 65536 },
      { context with d := 65536 }, { context with x := some (-32768) }, { context with x := some 32768 },
      { context with meter := { meter with mode := 256 } }, { context with af := { af with mask := 256 } },
      { context with mode := 256 }, { context with leak := 256 }, { context with interval := some 65535 }].all
      (fun o => !(Instr.contextSet 1 o).wellFormed) = true ∧
    (Instr.programSet 256 program).wellFormed = false ∧ (Instr.contextSet 256 context).wellFormed = false := by decide

theorem test_illFormed_store :
    [{ fault with format := 256 }, { fault with picture := 65536 }, { fault with written := 65536 },
      { fault with cluster := some 65535 }, { fault with block := some 4294967295 },
      { fault with response := some 255 }, { fault with continuation := 256 }, { fault with repeats := 256 },
      { fault with writeBacks := List.replicate 21 writeBack },
      { fault with writeBacks := [{ writeBack with cluster := 65536 }] },
      { fault with writeBacks := [{ writeBack with block := 4294967296 }] },
      { fault with writeBacks := [{ writeBack with valid := 256 }] },
      { fault with writeBacks := [{ writeBack with relocation := some 4294967295 }] },
      { fault with fragments := [{ start := 4294967296, clusters := 1 }] },
      { fault with fragments := [{ start := 0, clusters := 65536 }] }].all
      (fun f => !(Instr.faultReturn 1 0 f).wellFormed) = true ∧
    [[{ start := 4294967296, len := 64 }], [{ start := 0, len := 4294967296 }],
      List.replicate 30 { start := 0, len := 64 }].all (fun es => !(Instr.extentsGive 1 es).wellFormed) = true ∧
    (Instr.faultReturn 256 0 fault).wellFormed = false ∧ (Instr.faultReturn 1 256 fault).wellFormed = false ∧
    (Instr.extentsGive 256 []).wellFormed = false := by decide

theorem test_illFormed_feeds :
    [Instr.armed 65536, .stats { stats with frame := 65536 }, .stats { stats with serial := 65536 },
      .stats { stats with hostMark := 256 }, .stats { stats with zones := List.replicate 47 0 },
      .stats { stats with zones := List.replicate 48 65536 }, .stats { stats with contrasts := List.replicate 4 0 },
      .stats { stats with contrasts := List.replicate 5 16777216 }].all (fun c => !c.wellFormed) = true := by decide

theorem test_illFormed_samples :
    [Instr.rateSample { sample with yaw := 32768 }, .rateSample { sample with yaw := -32769 },
      .gyroCalWindowEnd { sample with pitch := 32768 }, .panningEntry { sample with pitch := -32769 },
      .actuatorFault { sample with yaw := 32768 }].all (fun c => !c.wellFormed) = true := by decide

theorem test_illFormed_responses :
    [Instr.cardResponse (.identity 4294967296 1), .cardResponse (.identity 512 4294967296)].all
      (fun c => !c.wellFormed) = true := by decide

/-! ## Values -/

/-- The nine bytes 31 to 39 hex give the check 29B1 hex (R197's example). -/
theorem test_crc_check_value :
    packetCheck [0x31#8, 0x32#8, 0x33#8, 0x34#8, 0x35#8, 0x36#8, 0x37#8, 0x38#8, 0x39#8] = 0x29B1#16 := by decide +kernel

/-- The lens table of the manual's worked example (section 3.9). -/
def barrel : List Node :=
  [(200, 450, 25, 110, 380, 560, 25736), (300, 565, 31, 114, 400, 640, 32312), (400, 708, 39, 118, 480, 800, 40491),
    (530, 888, 49, 122, 540, 900, 50785), (660, 1114, 62, 126, 590, 980, 63710), (800, 1398, 78, 130, 630, 1050, 79952),
    (950, 1754, 97, 134, 660, 1110, 100311), (1100, 2200, 122, 138, 690, 1170, 125818),
    (1260, 2760, 153, 142, 720, 1230, 157844), (1420, 3463, 192, 146, 750, 1290, 198049),
    (1590, 4344, 241, 152, 780, 1340, 248433), (1760, 5450, 303, 158, 810, 1390, 311686),
    (1930, 6837, 380, 164, 840, 1440, 391008), (2110, 8577, 476, 170, 870, 1490, 490519),
    (2300, 10760, 598, 174, 900, 1530, 615364), (2500, 13500, 750, 178, 930, 1570, 772065)].map
    fun (z, f, e, av, i, n, k) =>
      { written := true,
        fields := { zoomStep := z, focal := f, equiv := e, avOpen := av, fInf := i, fNear := n, gain := k } }

/-- The state after reset with the table VALID, zoom, focus and iris at the positions given, every axis RELEASED. -/
def lensAt (zoom focus iris : Nat) : State :=
  { State.reset with
      ldu := { State.reset.ldu with
        zoom := { resetAxis .zoom with pp := some zoom }, focus := { resetAxis .focus with pp := some focus },
        iris := { resetAxis .iris with pp := some iris } },
      otb := { state := .valid, nodes := barrel, glob := resetGlobal } }

/-- Section 3.9, events 1 to 4: node 9 at step 1260 fails check 2 (41), node 15 at Av_open 230 check 4 (79). -/
theorem test_commit_faults :
    ({ State.reset with otb := { State.reset.otb with nodes := (barrel.set 9
        { written := true, fields := { (barrel.getD 9 resetNode).fields with zoomStep := 1260 } }) } }).commitFault
      = some 41 ∧
    ({ State.reset with otb := { State.reset.otb with nodes := (barrel.set 15
        { written := true, fields := { (barrel.getD 15 resetNode).fields with avOpen := 230 } }) } }).commitFault
      = some 79 ∧
    ({ State.reset with otb := { State.reset.otb with nodes := barrel } }).commitFault = none := by decide

/-- Section 3.9: the six fields read at zoom step 1000. -/
theorem test_reading :
    ([(·.focal), (·.equiv), (·.avOpen), (·.fInf), (·.fNear), (·.gain)].map
      fun f => (lensAt 1000 0 0).reading f 1000) = [1902, 105, 135, 670, 1130, 108813] := by decide

/-- Section 3.9: forward at 340 with d 512 and 520, and the three back computations. -/
theorem test_forward_back :
    (lensAt 340 0 0).focusFor 340 512 = 568 ∧ (lensAt 340 0 0).focusFor 340 520 = 570 ∧
    (lensAt 340 568 0).backD = 512 ∧ (lensAt 340 570 0).backD = 520 ∧ (lensAt 340 420 0).backD = 0 := by decide

/-- Section 5.3's examples of R78 at a step of 21.75, of −1.5 and of 0.5 (differences 58·3/8, −4·3/8 and 4·1/8). -/
theorem test_convergence :
    ([Rounding.nearest, .towardDarker, .towardZero, .towardBrighter].map fun r =>
      convergenceStep { resetMeter with convergence := 3, rounding := r } 58) = [22, 22, 21, 21] ∧
    ([Rounding.nearest, .towardBrighter, .towardZero, .towardDarker].map fun r =>
      convergenceStep { resetMeter with convergence := 3, rounding := r } (-4)) = [-2, -2, -1, -1] ∧
    convergenceStep { resetMeter with convergence := 1 } 4 = 0 := by decide

/-- The metering settings of the worked cases of section 5.10. -/
def caseSettings (r : Rounding) : MeterSettings :=
  { resetMeter with target := 470, highlight := 2, compensation := -16, convergence := 3, rounding := r, gvMax := 160,
                    knee := 287, tvFloor := 0 }

/-- A worked case's state: steadying ACTIVE, no recent UNSTEADY. -/
def caseAt (zoom : Nat) (r : Rounding) : State :=
  let s := lensAt zoom 0 0
  { s with exc := { s.exc with live := caseSettings r }, stu := { s.stu with state := .active } }

/-- Section 5.10, cases 1 to 3: the split of 332 at the wide end, of 301 at the tele end under the four rounding modes, and
of 560 at step 1000. -/
theorem test_splits :
    (let p := (caseAt 200 .nearest).split 383 332; (p.av, p.tv, p.gv)) = (110, 222, 0) ∧
    ([Rounding.nearest, .towardBrighter, .towardZero, .towardDarker].map fun r =>
      let p := (caseAt 2500 r).split 383 301; (p.av, p.tv, p.gv)) =
      [(178, 207, 84), (178, 207, 84), (178, 203, 80), (178, 203, 80)] ∧
    (let p := (caseAt 1000 .nearest).split 383 560; (p.av, p.tv, p.gv)) = (221, 339, 0) := by decide

/-- Section 5.10: exposure times of Tv 222, 207 and 203. -/
theorem test_exposure_times : exposureTime 222 = 8158 ∧ exposureTime 207 = 11291 ∧ exposureTime 203 = 12312 := by
  decide

/-- R24's and R71's examples of values brought into range. -/
theorem test_nearest_values :
    bringInterval .focus 75 = 100 ∧ bringInterval .zoom 1275 = 1300 ∧ bringHold 8 = 16 ∧
    (bringMeter { meter with gvMax := 203, knee := 400 } .matrix .nearest 383).gvMax = 192 ∧
    (bringMeter { meter with gvMax := 99, knee := 400 } .matrix .nearest 383).knee = 383 ∧
    (bringMeter { meter with gvMax := 99 } .matrix .nearest 383).gvMax = 96 := by decide

/-- Section 5.10, case 1, event 1: the zones weigh to the mean 1180, three of them at 4095; X_current goes from 310 to
332. -/
def caseRecord (n : Nat) (serial : Option Nat) (filed : Bool) : FrameRec :=
  { number := n, movingZoom := false, movingFocus := false, movingIris := false, unsteady := false, hostMark := false,
    expChanged := false, stats := filed, serial := serial, zones := [], contrasts := [], offerHeld := false }

def caseState : State :=
  let s := caseAt 200 .nearest
  { s with
      exc := { s.exc with
        x := some 310, nextSerial := 43,
        ring := [{ serial := 41, x := 302, av := 110, tv := 224, gv := 32 },
                 { serial := 42, x := 310, av := 110, tv := 200, gv := 0 }] },
      fmn := { counter := 200, stale := 0,
               ring := [caseRecord 198 (some 41) true, caseRecord 199 none false, caseRecord 200 none false] } }

def caseFeed : StatsFeed :=
  { frame := 199, serial := 41, hostMark := 0, zones := [4095, 4095, 4095] ++ List.replicate 45 1015,
    contrasts := [0, 0, 0, 0, 0] }

/-- What a field of the next state is, or none where the command stops. -/
def after {α : Type} (c : Instr) (s : State) (f : State → α) : Option α :=
  match exec c s with
  | .next t => some (f t)
  | .fault _ => none
  | .refused _ => none

theorem test_metering : after (.stats caseFeed) caseState (fun t => (t.exc.x, t.exc.latest)) = some (some 332, some 368) := by
  decide +kernel

/-- Section 5.10, case 1, event 2: the issue of serial 43. -/
theorem test_issue :
    after .frameStart { caseState with exc := { caseState.exc with x := some 332 } } (fun t => t.exc.ring.getLast?) =
      some (some { serial := 43, x := 332, av := 110, tv := 222, gv := 0 }) := by decide +kernel

/-- Section 7.9, samples 1 and 3: θ, target and count. -/
def turning (theta : Int) : State :=
  let s := lensAt 2500 500 0
  { s with stu := { s.stu with state := .active, mode := .continuous, offset := some (37, -12),
                               yaw := { resetSteadyAxis with theta := theta } } }

theorem test_integration :
    after (.rateSample { yaw := 2597, pitch := -12, shiftYaw := 0, shiftPitch := 0 }) (turning 60000)
      (fun t => (t.stu.yaw.theta, t.stu.yaw.target, t.stu.yaw.saturated)) = some (62531, 2877, 0) ∧
    after (.rateSample { yaw := 2597, pitch := -12, shiftYaw := 0, shiftPitch := 0 }) (turning 65061)
      (fun t => (t.stu.yaw.theta, t.stu.yaw.target, t.stu.yaw.saturated)) = some (67590, 3000, 1) := by decide +kernel

/-- Section 11.13, event 1: 275 clusters from the three extents, and what stays in the pool. -/
theorem test_placement :
    walkPool 64 (clustersFor 64 9000000)
      [{ start := 32768, len := 6400 }, { start := 65536, len := 12800 }, { start := 131072, len := 64000 }] =
      some ([{ start := 32768, clusters := 100 }, { start := 65536, clusters := 175 }],
        [{ start := 76736, len := 1600 }, { start := 131072, len := 64000 }]) := by decide +kernel

/-- Section 11.13, events 3 and 4: the re-cut list of the relocated cluster 150, and the pool less that cluster. -/
theorem test_recut :
    recut 64 [{ start := 32768, clusters := 100 }, { start := 65536, clusters := 175 }] [(150, 131072)] =
      [{ start := 32768, clusters := 100 }, { start := 65536, clusters := 50 }, { start := 131072, clusters := 1 },
       { start := 68800, clusters := 124 }] ∧
    takeCluster 64 131072 [{ start := 76736, len := 1600 }, { start := 131072, len := 64000 }] =
      [{ start := 76736, len := 1600 }, { start := 131136, len := 63936 }] := by decide +kernel

/-! ## Witnesses: states -/

/-- With no request handed, none queued and no reply owed, every request and feed comes straight to its owner. -/
theorem reach {s : State} {c : Instr} {tag : Nat} (h : s.lif = State.reset.lif) (h0 : tag ≠ 0) : s.reaches c tag s := by
  refine ⟨h0, ?_⟩
  have : s.owed = 0 := by unfold State.owed; rw [h]; rfl
  unfold State.takeHanded
  rw [h, this]
  simp [State.reset]

def low : RefFlags := { zoom := false, focus := false, iris := false }

def high : RefFlags := { zoom := true, focus := true, iris := true }

/-- An entry of the operation table. -/
def entry (tag : Nat) (kind : OpKind) (state : OpState) : OpEntry :=
  { tag := tag, kind := kind, state := state, done := 0, planned := some 9, cause := none }

/-- A state with entries in the operation table. -/
def withTable (s : State) (l : List OpEntry) : State := { s with opt := { s.opt with table := l } }

/-- A state with one axis written. -/
def withAxis (s : State) (a : Axis) (f : AxisRec → AxisRec) : State := s.setAxis a (f (s.axis a))

/-- Eight operations tracked. -/
def fullTable : State := withTable (lensAt 300 500 10) ((List.range 8).map fun i => entry (i + 10) .move .waiting)

def byAnother (r : AxisRec) : AxisRec := { r with owner := some (.op .home 9) }

/-! ## Witnesses: queue, resets and link -/

theorem test_witness_StepRunsFrontCommand : State.reset.pending = [] := rfl

/-- The bytes after SYNC of the packet of QUERY 0 with tag 1. -/
def queryBytes : List Byte := (packetBytes 1 1 [0#8]).drop 1

/-- The clauses of LinkByteTaken: hunting; a LEN of 241 and of 240; a check that fails and one that matches, with room in
the queue and without. -/
theorem test_witness_LinkByteTaken :
    State.reset.lif.assembler = .hunt ∧
    (240 < ([] ++ [241#8] : List Byte)[0]!.toNat) ∧
    (([] ++ [240#8] : List Byte)[0]!.toNat ≤ 240 ∧ ([] ++ [240#8] : List Byte).length < 240 + 5) ∧
    ((queryBytes.take 5 ++ [0#8]).getD 0 0).toNat ≤ 240 ∧ 1 + 5 ≤ (queryBytes.take 5 ++ [0#8]).length ∧
    (packetCheck ((queryBytes.take 5 ++ [0#8]).take 4)).toNat ≠
      256 * ((queryBytes.take 5 ++ [0#8]).getD 4 0).toNat + ((queryBytes.take 5 ++ [0#8]).getD 5 0).toNat ∧
    queryBytes.length = 6 ∧ (queryBytes.getD 0 0).toNat = 1 ∧
    (packetCheck (queryBytes.take 4)).toNat = 256 * (queryBytes.getD 4 0).toNat + (queryBytes.getD 5 0).toNat := by
  decide +kernel

/-- PacketReceivedWhole: the longest payload, three packets waiting already. -/
theorem test_witness_PacketReceivedWhole :
    let p : Packet := { kind := 1#8, tag := 1#8, payload := [0#8] }
    let s : State := { State.reset with lif := { State.reset.lif with queue := [p, p, p] } }
    (List.replicate 240 0#8 : List Byte).length ≤ 240 ∧ s.lif.assembler = .hunt ∧ s.lif.queue.length < 4 := by decide +kernel

/-- PayloadsReadBack: a request and a feed with operands at their largest values. -/
theorem test_witness_PayloadsReadBack :
    (Instr.shoot 255 255 (some 254)).wellFormed = true ∧
    encodeRequest (.shoot 255 255 (some 254)) = some (0x42, 255, [0xFF#8, 0xFE#8]) ∧
    (Instr.armed 65535).wellFormed = true ∧ encodeFeed (.armed 65535) = some (0x61, [0xFF#8, 0xFF#8]) := by decide

def withPacket (kind tag : Byte) (payload : List Byte) (replies : Nat) : State :=
  { State.reset with lif := { State.reset.lif with
      queue := [{ kind := kind, tag := tag, payload := payload }],
      replies := List.replicate replies { tag := 9, body := .done [] } } }

/-- HeadPacketTaken: a good feed and a feed too long; a request with four replies owed and with three: of no kind, of TAG
0, of a wrong length, and good. -/
theorem test_witness_HeadPacketTaken :
    (withPacket 0x61#8 0#8 [0#8, 1#8] 4).lif.restart = .none ∧ feedKinds.contains 0x61 = true ∧
    decodeFeed 0x61 [0#8, 1#8] = some (.armed 1) ∧ decodeFeed 0x61 [0#8] = none ∧
    feedKinds.contains 0x01 = false ∧ (0x01#8 : Byte) ≠ 2#8 ∧ 4 ≤ (withPacket 1#8 1#8 [0#8] 4).owed ∧
    (withPacket 1#8 1#8 [0#8] 3).owed < 4 ∧ requestKinds.contains 0x7F = false ∧ requestKinds.contains 0x01 = true ∧
    decodeRequest 0x01 1 [] = none ∧ decodeRequest 0x01 255 [10#8] = some (.query 255 10) := by decide

def sending (item : TxItem) : State := { State.reset with lif := { State.reset.lif with tx := some (txPacket item) } }

/-- A picture in hand, its EXPOSE sent. -/
def hand (arming armed : Bool) : Hand :=
  { id := 57, split := some { av := 110, tv := 222, gv := 0, x := 332, clamp := .none }, late := false,
    arming := arming, armed := armed }

def programOf (interval : Nat) : Program :=
  { kind := .burst, mask := 3, count := 3, step := none, interval := interval, refine := false, focusFirst := false }

def shooting (shutter : Shutter) (pos : Nat) (h : Option Hand) (p : Program) : Capture :=
  { kind := .shoot, tag := 50, program := some p, programIndex := 0, first := 0, last := 2, pos := pos,
    shutter := shutter, ownPreparation := false, plan := none, scanAsked := false, scanEnd := none, preempting := none,
    hand := h, pictures := [{ id := 57, pos := 0, x := 332, clamp := .none, outcome := none }], failure := none,
    frames := 0, refine := .none }

/-- A SHOOT in some CSQ state, with picture 57 RESERVED. -/
def shootIn (state : CsqState) (c : Capture) : State :=
  let s := lensAt 200 500 0
  { withTable s [entry 50 .shoot .running] with
      csq := { s.csq with state := state, capture := some c, nextId := 58 },
      pbf := { s.pbf with
        freePages := (List.range 2048).drop 192,
        records := [{ id := 57, tag := 50, pos := 0, state := .reserved, reserved := List.range 192, pages := [],
                      length := none, received := 0, shot := none }] } }

/-- PacketsLeaveInOrder: a line busy, a reply waiting, a notice waiting, and the ends of a reply, of a READY and of the
EXPOSE of the picture in hand. -/
theorem test_witness_PacketsLeaveInOrder :
    (sending (.notice (.ready .hardware))).lif.tx = some (txPacket (.notice (.ready .hardware))) ∧
    (withPacket 1#8 1#8 [] 1).lif.tx = none ∧
    (withPacket 1#8 1#8 [] 1).lif.replies = { tag := 9, body := .done [] } :: [] ∧
    State.reset.lif.tx = none ∧ State.reset.lif.replies = [] ∧ State.reset.opt.outbox = .ready .hardware :: [] ∧
    (sending (.reply { tag := 1, body := .done [] })).lif.restart ≠ .answered ∧
    noticeKind (.ready .hardware) ≠ 0x92 ∧ noticeKind (.ready .hardware) ≠ 0x93 ∧
    (shootIn .arming (shooting .mechanical 0 (some (hand false false)) (programOf 0))).csq.state = .arming ∧
    (hand false false).id = 57 := by decide +kernel

/-- RestartCarriedOut: taken straight from the link with no reply owed; the end of its DONE; a step carried past it, lost
and not, and a homing step; and the 10 ms of XCLOSE. -/
theorem test_witness_RestartCarriedOut :
    State.reset.reaches (.restart 255) 255 State.reset ∧ State.reset.owed = 0 ∧
    (let s := { sending (.reply { tag := 255, body := .done [] }) with
        lif := { (sending (.reply { tag := 255, body := .done [] })).lif with restart := .answered } }
     s.lif.restart = .answered ∧ s.lif.replies = [] ∧
       s.lif.tx = some (txPacket (.reply { tag := 255, body := .done [] }))) ∧
    (let s := withAxis (lensAt 300 500 10) .zoom fun r => { r with state := .moving, after := .hold, stepUp := true }
     (s.axis .zoom).owner = none ∧ (s.axis .zoom).after = .hold ∧ s.ldu.waitList = [] ∧ s.fsu.scan = none ∧
       s.ldu.irisWriter = none ∧ (s.axis .zoom).state = .moving ∧ (s.axis .zoom).homing = .none ∧
       (s.axis .zoom).pp = some 300 ∧ flagLevel high .zoom = decide (referencePosition .zoom < 301) ∧
       flagLevel low .zoom ≠ decide (referencePosition .zoom < 301) ∧ referencePosition .zoom + 4 ≤ 301) ∧
    (let s := withAxis State.reset .zoom fun r => { r with state := .homing, homing := .up, after := .hold }
     (s.axis .zoom).state = .homing ∧ (s.axis .zoom).owner = none ∧ (s.axis .zoom).after = .hold) ∧
    (let s : State := { State.reset with csq := { State.reset.csq with closeTimer := true } }
     s.csq.closeTimer = true ∧ s.csq.state = .idle) := by
  refine ⟨reach rfl (by decide), by decide, ?_, ?_, ?_, ?_⟩ <;> decide +kernel

/-- QueryAnswered: every section, and the numbers above the last. -/
theorem test_witness_QueryAnswered :
    ∀ part, State.reset.reaches (.query 1 part) 1 State.reset := fun _ => reach rfl (by decide)

/-- StopTaken: no entry; an entry STOPPING; a GYRO-CAL running. -/
theorem test_witness_StopTaken :
    State.reset.reaches (.stop 1 7) 1 State.reset ∧ State.reset.entry 7 = none ∧
    (withTable State.reset [entry 7 .move .stopping]).reaches (.stop 1 7) 1
      (withTable State.reset [entry 7 .move .stopping]) ∧
    (withTable State.reset [entry 7 .move .stopping]).entry 7 = some (entry 7 .move .stopping) ∧
    (withTable State.reset [entry 7 .gyroCal .running]).reaches (.stop 1 7) 1
      (withTable State.reset [entry 7 .gyroCal .running]) ∧
    (withTable State.reset [entry 7 .gyroCal .running]).entry 7 = some (entry 7 .gyroCal .running) :=
  ⟨reach rfl (by decide), rfl, reach rfl (by decide), rfl, reach rfl (by decide), rfl⟩

/-- RequestsReachOwners: a request with four replies owed, and one with TAG 0. -/
theorem test_witness_RequestsReachOwners :
    encodeRequest (.park 1) = some (0x14, 1, []) ∧ (withPacket 1#8 1#8 [] 4).takeHanded (.park 1) = none ∧
    encodeRequest (.park 0) = some (0x14, 0, []) ∧ State.reset.takeHanded (.park 0) = some State.reset :=
  ⟨rfl, rfl, rfl, rfl⟩

/-! ## Witnesses: lens drive -/

/-- AxisSetTaken: the first code outside the list, and the last inside. -/
theorem test_witness_AxisSetTaken :
    State.reset.reaches (.axisSet 1 3 0 0 0 0) 1 State.reset ∧ 2 < 3 ∧
    State.reset.reaches (.axisSet 1 2 0 0 0 0) 1 State.reset ∧ axisCode .iris = 2 :=
  ⟨reach rfl (by decide), by decide, reach rfl (by decide), rfl⟩

/-- HomeBegins: a mask that names no axis; zoom owned; CSQ at work; the tracker full; and an acceptance of all three
axes. -/
theorem test_witness_HomeBegins :
    (State.reset.reaches (.home 1 8 low) 1 State.reset ∧ ∀ a, (8).testBit (axisCode a) = false) ∧
    (let s := withAxis State.reset .focus byAnother
     s.reaches (.home 1 6 low) 1 s ∧ (6).testBit (axisCode .focus) = true ∧ (s.axis .focus).owner ≠ none ∧
       ∀ b, axisCode b < 1 → (6).testBit (axisCode b) = true → (s.axis b).owner = none) ∧
    (let s := shootIn .arming (shooting .mechanical 0 none (programOf 0))
     s.reaches (.home 1 7 low) 1 s ∧ (∀ a, (7).testBit (axisCode a) = true ∧ (s.axis a).owner = none) ∧
       s.csq.state ≠ .idle) ∧
    (fullTable.reaches (.home 1 7 low) 1 fullTable ∧ (∀ a, (fullTable.axis a).owner = none) ∧
      fullTable.csq.state = .idle ∧ (fullTable.trackerRefusal 1).map Prod.fst = some .tableFull) ∧
    (State.reset.reaches (.home 1 7 low) 1 State.reset ∧ State.reset.hasRoom 1 ∧ State.reset.ldu.waitList = [] ∧
      ∀ a, (State.reset.axis a).owner = none ∧ (State.reset.axis a).state = .released ∧
        (State.reset.axis a).setup.energize ≠ 0) := by
  refine ⟨⟨reach rfl (by decide), ?_⟩, ⟨reach rfl (by decide), rfl, ?_, ?_⟩, ⟨reach rfl (by decide), ?_, ?_⟩,
    ⟨reach rfl (by decide), ?_, rfl, rfl⟩, reach rfl (by decide), rfl, rfl, ?_⟩
  all_goals first | decide +kernel | (intro a; cases a <;> decide +kernel)

def homing (state : AxisState) (phase : Homing) (count : Nat) (timer : Option Nat) (r : AxisRec) : AxisRec :=
  { r with pp := none, state := state, homing := phase, owner := some (.op .home 1), timer := timer,
           homingCount := count }

/-- HomingSteps, zoom: the energize end; a step short of the home limit and the step that reaches it; the reference found
with a VALID table and without one. -/
theorem test_witness_HomingSteps :
    (let s := withAxis State.reset .zoom (homing .energizing .pending 0 (some 6))
     (s.axis .zoom).owner = some (.op .home 1) ∧ s.ldu.waitList = [] ∧ s.fsu.scan = none ∧
       (s.axis .zoom).state = .energizing ∧ (s.axis .zoom).timer.isSome = true ∧ (s.axis .zoom).homing = .pending ∧
       s.slotHolders.length < 2) ∧
    (let s := withAxis State.reset .zoom (homing .homing .up 2798 none)
     s.ldu.waitList = [] ∧ s.fsu.scan = none ∧ (s.axis .zoom).state = .homing ∧ (s.axis .zoom).homing = .up ∧
       (s.axis .zoom).after = .goOn ∧ (s.axis .zoom).homingCount + 1 < homeLimit .zoom) ∧
    (let s := withAxis State.reset .zoom (homing .homing .down 2799 none)
     (s.axis .zoom).homing = .down ∧ (!flagLevel high .zoom) = false ∧
       homeLimit .zoom ≤ (s.axis .zoom).homingCount + 1 ∧ (s.axis .zoom).setup.settle ≠ 0) ∧
    (let s := withAxis (lensAt 200 500 0) .zoom (homing .homing .down 9 none)
     (s.axis .zoom).homing = .down ∧ (!flagLevel low .zoom) = true ∧ (s.axis .zoom).setup.settle ≠ 0 ∧
       s.otb.state = .valid ∧ s.wideEnd ≠ 100) ∧
    (let s := withAxis State.reset .zoom (homing .homing .down 9 none)
     (s.axis .zoom).homing = .down ∧ ¬ (Axis.zoom = .zoom ∧ s.otb.state = .valid ∧ s.wideEnd ≠ 100)) := by
  decide +kernel

/-- An axis stepping upward under a MOVE with tag 1. -/
def moving (p v : Nat) (r : AxisRec) : AxisRec :=
  { r with pp := some p, state := .moving, target := some v, owner := some (.op .move 1), stepUp := true }

/-- MoveSteps: a step short of the target; one that arrives; a flag that contradicts the position four steps off. -/
theorem test_witness_MoveSteps :
    (let s := withAxis State.reset .zoom (moving 200 202)
     (s.axis .zoom).owner = some (.op .move 1) ∧ (s.axis .zoom).state = .moving ∧ (s.axis .zoom).homing = .none ∧
       (s.axis .zoom).after = .goOn ∧ (s.axis .zoom).pp = some 200 ∧ (s.axis .zoom).target = some 202 ∧
       (s.axis .zoom).setup.settle ≠ 0 ∧ s.ldu.waitList = [] ∧ s.fsu.scan = none) ∧
    (flagLevel high .zoom = decide (referencePosition .zoom < 201) ∧ 200 + 1 ≠ 202) ∧
    ((withAxis State.reset .zoom (moving 201 202)).ldu.zoom.pp = some 201 ∧ 201 + 1 = 202) ∧
    (flagLevel low .zoom ≠ decide (referencePosition .zoom < 103 + 1) ∧ referencePosition .zoom + 4 ≤ 103 + 1) := by
  decide +kernel

def resting (state : AxisState) (timer : Option Nat) (r : AxisRec) : AxisRec := { r with state := state, timer := timer }

/-- AxisTimersEnd: settling, held, and in neither. -/
theorem test_witness_AxisTimersEnd :
    (let r := (withAxis State.reset .zoom (resting .settling (some 6))).axis .zoom
     r.state = .settling ∧ r.timer.isSome = true ∧ r.owner = none ∧ Axis.zoom ≠ .iris) ∧
    (let r := (withAxis State.reset .zoom (resting .held (some 64))).axis .zoom
     r.state = .held ∧ r.timer.isSome = true) ∧
    (State.reset.axis .zoom).state ≠ .settling ∧ (State.reset.axis .zoom).state ≠ .held := by decide +kernel

/-- A focus that has settled at the target of a MOVE. -/
def arrived : State :=
  let s := withTable (withAxis (lensAt 300 520 0) .focus fun r =>
    { r with state := .settling, timer := some 6, owner := some (.op .move 1), target := some 520 }) [entry 1 .move .running]
  { s with ldu := { s.ldu with ops := [{ tag := 1, body := .move .focus 520 false, waitStopped := false }] } }

theorem test_witness_MoveEnds :
    (arrived.axis .focus).owner = some (.op .move 1) ∧ (arrived.axis .focus).state = .settling ∧
    (arrived.axis .focus).timer.isSome = true ∧ (arrived.axis .focus).pp = some 520 ∧
    arrived.lensOp 1 = some { tag := 1, body := .move .focus 520 false, waitStopped := false } ∧
    arrived.entry 1 = some (entry 1 .move .running) ∧ arrived.csq.capture = none := by decide +kernel

/-- The ENDING of tag 1 waits in the outbox, and is being sent. -/
def endingUnsent : List State :=
  let n := Notice.ending
    { tag := 1, kind := .park, cls := .complete, cause := .none, done := 0, resume := .absent, result := none,
      fields := .park none none none none }
  let s := lensAt 300 500 10
  [{ s with opt := { table := [], outbox := [n] } },
   { s with opt := { table := [], outbox := [] }, lif := { s.lif with tx := some (txPacket (.notice n)) } }]

/-- MoveBegins: the iris's code; an owned axis; one UNREFERENCED; the tracker full; from RELEASED and, brought to 2600,
from HELD. -/
theorem test_witness_MoveBegins :
    (State.reset.reaches (.move 1 2 0) 1 State.reset ∧ 1 < 2) ∧
    (let s := withAxis State.reset .focus byAnother
     s.reaches (.move 1 1 0) 1 s ∧ (s.axis .focus).owner ≠ none) ∧
    (State.reset.reaches (.move 1 1 0) 1 State.reset ∧ (State.reset.axis .focus).owner = none ∧
      (State.reset.axis .focus).pp = none) ∧
    (fullTable.reaches (.move 1 0 0) 1 fullTable ∧ (fullTable.axis .zoom).pp = some 300 ∧
      (∀ e ∈ fullTable.opt.table, e.tag ≠ 1) ∧ fullTable.endingTags = [] ∧ 8 ≤ fullTable.opt.table.length + 0 ∧
      fullTable.reaches (.move 10 0 0) 10 fullTable ∧ ∃ e ∈ fullTable.opt.table, e.tag = 10) ∧
    ((∀ s ∈ endingUnsent, s.reaches (.move 1 0 0) 1 s) ∧
      ∀ s ∈ endingUnsent, (s.axis .zoom).owner = none ∧ (s.axis .zoom).pp = some 300 ∧ s.opt.table = [] ∧
        s.endingTags = [1]) ∧
    (let s := lensAt 300 500 10
     s.reaches (.move 1 0 2601) 1 s ∧ (s.axis .zoom).owner = none ∧ (s.axis .zoom).pp = some 300 ∧ s.hasRoom 1 ∧
       min (axisRange .zoom) 2601 ≠ 300 ∧ s.ldu.waitList = [] ∧ (s.axis .zoom).state = .released ∧
       (s.axis .zoom).setup.energize ≠ 0) ∧
    (let s := withAxis (lensAt 300 500 10) .zoom (resting .held none)
     s.reaches (.move 1 0 2600) 1 s ∧ s.hasRoom 1 ∧ (s.axis .zoom).state = .held ∧ (s.axis .zoom).homing = .none ∧
       s.slotHolders.length < 2) := by
  refine ⟨⟨reach rfl (by decide), by decide⟩, ⟨reach rfl (by decide), ?_⟩, ⟨reach rfl (by decide), rfl, rfl⟩,
    ⟨reach rfl (by decide), rfl, by decide +kernel, rfl, by decide, reach rfl (by decide), by decide +kernel⟩,
    ⟨?_, by decide +kernel⟩, ⟨reach rfl (by decide), rfl, rfl, rfl, ?_⟩, reach rfl (by decide), rfl, ?_⟩
  all_goals first
    | decide +kernel
    | (simp only [endingUnsent, List.mem_cons, List.not_mem_nil, or_false]
       rintro s (rfl | rfl) <;> exact ⟨by decide, by decide +kernel⟩)

/-- ZoomBegins: the three table states; zoom or focus owned; either UNREFERENCED; and from RELEASED to above the tele
end. -/
theorem test_witness_ZoomBegins :
    (State.reset.reaches (.zoom 1 0) 1 State.reset ∧ State.reset.otb.state = .empty) ∧
    (let s := { State.reset with otb := { State.reset.otb with state := .staged } }
     s.reaches (.zoom 1 0) 1 s ∧ s.otb.state = .staged) ∧
    (let s := withAxis (lensAt 300 500 10) .zoom byAnother
     s.reaches (.zoom 1 0) 1 s ∧ s.otb.state = .valid ∧ s.ldu.zoom.owner ≠ none) ∧
    (let s := withAxis (lensAt 300 500 10) .focus byAnother
     s.reaches (.zoom 1 0) 1 s ∧ s.ldu.zoom.owner = none ∧ s.ldu.focus.owner ≠ none) ∧
    (let s := withAxis (lensAt 300 500 10) .zoom fun r => { r with pp := none }
     s.reaches (.zoom 1 0) 1 s ∧ s.ldu.zoom.owner = none ∧ s.ldu.focus.owner = none ∧ s.ldu.zoom.pp = none) ∧
    (let s := withAxis (lensAt 300 500 10) .focus fun r => { r with pp := none }
     s.reaches (.zoom 1 0) 1 s ∧ s.ldu.zoom.pp ≠ none ∧ s.ldu.focus.pp = none) ∧
    (let s := lensAt 300 500 10
     s.reaches (.zoom 1 2501) 1 s ∧ s.ldu.zoom.pp = some 300 ∧ s.ldu.focus.pp ≠ none ∧ s.hasRoom 1 ∧
       max s.wideEnd (min s.teleEnd 2501) ≠ 300 ∧ s.ldu.waitList = [] ∧ s.ldu.zoom.state = .released ∧
       s.ldu.zoom.setup.energize ≠ 0) := by
  refine ⟨⟨reach rfl (by decide), rfl⟩, ⟨reach rfl (by decide), rfl⟩, ⟨reach rfl (by decide), ?_⟩,
    ⟨reach rfl (by decide), ?_⟩, ⟨reach rfl (by decide), ?_⟩, ⟨reach rfl (by decide), ?_⟩, reach rfl (by decide), rfl,
    by decide, rfl, ?_⟩ <;> decide +kernel

/-- ParkBegins: an owned axis; CSQ at work; an axis UNREFERENCED; and an acceptance with zoom at 0 already. -/
theorem test_witness_ParkBegins :
    (let s := withAxis State.reset .iris byAnother
     s.reaches (.park 1) 1 s ∧ (s.axis .iris).owner ≠ none ∧
       ∀ b, axisCode b < axisCode .iris → (s.axis b).owner = none) ∧
    (let s := shootIn .arming (shooting .mechanical 0 none (programOf 0))
     s.reaches (.park 1) 1 s ∧ (∀ a, (s.axis a).owner = none) ∧ s.csq.state ≠ .idle) ∧
    (State.reset.reaches (.park 1) 1 State.reset ∧ State.reset.csq.state = .idle ∧ (State.reset.axis .zoom).pp = none ∧
      ∀ b, axisCode b < axisCode .zoom → (State.reset.axis b).pp ≠ none) ∧
    (let s := lensAt 0 1 0
     s.reaches (.park 1) 1 s ∧ (∀ a, (s.axis a).owner = none) ∧ s.csq.state = .idle ∧ s.ldu.zoom.pp = some 0 ∧
       s.ldu.focus.pp = some 1 ∧ s.ldu.iris.pp = some 0 ∧ s.hasRoom 1 ∧ 0 + 1 + 0 ≠ 0 ∧ s.ldu.waitList = [] ∧
       ∀ a, (s.axis a).state = .released ∧ (s.axis a).setup.energize ≠ 0) := by
  refine ⟨⟨reach rfl (by decide), ?_, ?_⟩, ⟨reach rfl (by decide), ?_, ?_⟩, ⟨reach rfl (by decide), rfl, rfl, ?_⟩,
    reach rfl (by decide), ?_, rfl, rfl, rfl, rfl, rfl, by decide, rfl, ?_⟩
  all_goals first | decide +kernel | (intro a; cases a <;> decide +kernel)

/-! ## Witnesses: optics table -/

def staged : State := { State.reset with otb := { State.reset.otb with state := .staged, nodes := barrel } }

/-- TableLoadTaken: selectors 17, 16 and 15; a field outside its range; a busy axis; and both parts with every field at the
end of its range. -/
theorem test_witness_TableLoadTaken :
    (State.reset.reaches (.tableLoad 1 17 (.node node)) 1 State.reset ∧ 16 < 17) ∧
    (State.reset.reaches (.tableLoad 1 16 (.node node)) 1 State.reset ∧
      State.reset.reaches (.tableLoad 1 15 (.global resetGlobal)) 1 State.reset ∧ 15 < 16) ∧
    (nodeFault { node with zoomStep := 2601 } = some 1 ∧ nodeFault { node with gain := 16777216 } = some 7) ∧
    (withAxis State.reset .zoom (resting .settling none)).tableBusy = some 0 ∧ State.reset.tableBusy = none ∧
    (globalFault { resetGlobal with tvMaxElectronic := 300 } = some 3 ∧
      32 ≤ resetGlobal.avCap ∧ resetGlobal.avCap ≤ 255 ∧ 160 ≤ resetGlobal.tvMaxElectronic ∧
      resetGlobal.tvMaxElectronic ≤ 383 ∧ 160 ≤ resetGlobal.tvMaxMechanical ∧
      resetGlobal.tvMaxMechanical ≤ resetGlobal.tvMaxElectronic ∧ 500 ≤ resetGlobal.stroke ∧
      resetGlobal.stroke ≤ 4000 ∧ 4 ≤ resetGlobal.follow ∧ resetGlobal.follow ≤ 64) ∧
    (node.zoomStep ≤ 2600 ∧ 1 ≤ node.focal ∧ node.focal ≤ 65535 ∧ 1 ≤ node.equiv ∧ node.equiv ≤ 9999 ∧
      32 ≤ node.avOpen ∧ node.avOpen ≤ 255 ∧ node.fInf ≤ 1600 ∧ node.fNear ≤ 1600 ∧ node.gain ≤ 16777215) := by
  refine ⟨⟨reach rfl (by decide), by decide⟩, ⟨reach rfl (by decide), reach rfl (by decide), by decide⟩, ?_⟩
  decide +kernel

/-- TableCommitTaken: nothing loaded; a good table not VALID; a VALID one. -/
theorem test_witness_TableCommitTaken :
    (State.reset.reaches (.tableCommit 1) 1 State.reset ∧ State.reset.commitFault = some 16) ∧
    (staged.reaches (.tableCommit 1) 1 staged ∧ staged.commitFault = none ∧ staged.otb.state ≠ .valid) ∧
    (let s := lensAt 200 500 0
     s.reaches (.tableCommit 1) 1 s ∧ s.commitFault = none ∧ s.otb.state = .valid) := by
  refine ⟨⟨reach rfl (by decide), ?_⟩, ⟨reach rfl (by decide), ?_⟩, reach rfl (by decide), ?_⟩ <;> decide +kernel

/-! ## Witnesses: exposure and frames -/

theorem test_witness_LogarithmValue :
    (1 ≤ 1 ∧ 2 ^ 0 ≤ 1 ∧ 1 < 2 ^ (0 + 1)) ∧ (1 ≤ 1023 ∧ 2 ^ 9 ≤ 1023 ∧ 1023 < 2 ^ (9 + 1)) := by decide

/-- SplitAccounts: at the tele end the lens leaves apertures, and splits with no clamp, OVER and UNDER. -/
theorem test_witness_SplitAccounts :
    (caseAt 2500 .nearest).avLow ≤ (caseAt 2500 .nearest).avHigh ∧
    ((caseAt 2500 .nearest).split 383 301).clamp = .none ∧
    ((caseAt 2500 .nearest).split 383 700).clamp = .over 96 ∧
    ((caseAt 2500 .nearest).split 383 0).clamp = .under 18 := by decide +kernel

/-- ConvergenceStep: differences of 2 and of 3, and the largest exact step. -/
theorem test_witness_ConvergenceStep :
    (2 : Int).natAbs ≤ 2 ∧ 2 < (3 : Int).natAbs ∧ ((3 : Int) * 8).natAbs ≤ 512 ∧ ((64 : Int) * 8).natAbs ≤ 512 := by
  decide

def withRing (l : List FrameRec) : State := { State.reset with fmn := { State.reset.fmn with ring := l } }

def feed (n : Nat) : StatsFeed := { stats with frame := n }

/-- StatsFiled: no record of the number; a record filed already; the open record; a closed one, with nothing metered. -/
theorem test_witness_StatsFiled :
    State.reset.takeHanded (.stats (feed 5)) = some State.reset ∧
    (State.reset.fmn.ring.find? fun r => r.number == 5) = none ∧
    (withRing [caseRecord 5 none true]).takeHanded (.stats (feed 5)) = some (withRing [caseRecord 5 none true]) ∧
    ((withRing [caseRecord 5 none true]).fmn.ring.find? fun r => r.number == 5) = some (caseRecord 5 none true) ∧
    (caseRecord 5 none true).stats = true ∧ (caseRecord 5 none false).stats = false ∧
    ((withRing [caseRecord 5 none false]).fmn.ring.getLast?.map (·.number) == some 5) = true ∧
    ((withRing [caseRecord 5 none false, caseRecord 6 none false]).excState.meters = false ∧
      (withRing [caseRecord 5 none false, caseRecord 6 none false]).fsu.scan = none) :=
  ⟨rfl, rfl, rfl, rfl, rfl, rfl, rfl, rfl, rfl⟩

/-- MeterAndAfSet: each code at the first value outside its list and the last inside. -/
theorem test_witness_MeterAndAfSet :
    (State.reset.reaches (.meterSet 1 { meter with mode := 4 }) 1 State.reset ∧ 3 < 4) ∧
    (State.reset.reaches (.meterSet 1 { meter with rounding := 4 }) 1 State.reset ∧ meter.mode ≤ 3) ∧
    (State.reset.reaches (.meterSet 1 { meter with mode := 3, rounding := 3 }) 1 State.reset ∧
      meterModeCode .focusLinked = 3 ∧ roundingCode .towardDarker = 3) ∧
    (State.reset.reaches (.afSet 1 { af with condition := 2 }) 1 State.reset ∧ 1 < 2) ∧
    (State.reset.reaches (.afSet 1 { af with span := 2 }) 1 State.reset ∧ af.condition ≤ 1) ∧
    (State.reset.reaches (.afSet 1 { af with hold := 2 }) 1 State.reset ∧ af.span ≤ 1) ∧
    (State.reset.reaches (.afSet 1 { af with condition := 1, span := 1, hold := 1 }) 1 State.reset ∧
      focusConditionCode .above = 1 ∧ spanCode .near = 1 ∧ holdModeCode .best = 1) :=
  ⟨⟨reach rfl (by decide), by decide⟩, ⟨reach rfl (by decide), by decide⟩, ⟨reach rfl (by decide), rfl, rfl⟩,
    ⟨reach rfl (by decide), by decide⟩, ⟨reach rfl (by decide), by decide⟩, ⟨reach rfl (by decide), by decide⟩,
    reach rfl (by decide), rfl, rfl, rfl⟩

/-! ## Witnesses: focus search -/

theorem test_witness_FigureOfRecord : ∀ v ∈ [16777215, 16777215, 16777215, 16777215, 16777215], v < 16777216 := by decide

theorem test_witness_ScanPlanBounded : 1 ≤ resetAf.step ∧ 1 ≤ { resetAf with step := 1 }.step := by decide

/-- ScanBegins: the table states; one of start and end given; a condition code of 2; a REVIEW context; zoom or focus
UNREFERENCED; focus owned; the focus elsewhere than the start, and at it. -/
theorem test_witness_ScanBegins :
    (State.reset.reaches (.scan 1 scanOps) 1 State.reset ∧ State.reset.otb.state = .empty) ∧
    (staged.reaches (.scan 1 scanOps) 1 staged ∧ staged.otb.state = .staged) ∧
    (let s := lensAt 340 568 0
     let o := { scanOps with start := some 520 }
     s.reaches (.scan 1 o) 1 s ∧ s.otb.state = .valid ∧ o.start.isSome ≠ o.stop.isSome) ∧
    (let s := lensAt 340 568 0
     let o := { scanOps with condition := some 2 }
     s.reaches (.scan 1 o) 1 s ∧ o.start.isSome = o.stop.isSome ∧ ∃ code, o.condition = some code ∧ 1 < code) ∧
    (let s : State := { lensAt 340 568 0 with
       pcs := { State.reset.pcs with slots := [{ resetSlot .active with kind := .review }] } }
     s.reaches (.scan 1 scanOps) 1 s ∧ s.activeKind = .review) ∧
    (let s := withAxis (lensAt 340 568 0) .zoom fun r => { r with pp := none }
     s.reaches (.scan 1 scanOps) 1 s ∧ s.activeKind ≠ .review ∧ s.ldu.zoom.pp = none) ∧
    (let s := withAxis (lensAt 340 568 0) .focus fun r => { r with pp := none }
     s.reaches (.scan 1 scanOps) 1 s ∧ s.ldu.zoom.pp ≠ none ∧ s.ldu.focus.pp = none) ∧
    (let s := withAxis (lensAt 340 568 0) .focus byAnother
     s.reaches (.scan 1 scanOps) 1 s ∧ s.ldu.focus.pp ≠ none ∧ s.ldu.focus.owner ≠ none) ∧
    (let s := lensAt 340 568 0
     let o := { scanOps with start := some 520, stop := some 600, condition := some 1 }
     s.reaches (.scan 1 o) 1 s ∧ s.hasRoom 1 ∧ s.ldu.focus.pp = some 568 ∧ s.ldu.focus.owner = none ∧
       s.ldu.waitList = [] ∧ s.ldu.focus.state = .released ∧ s.ldu.focus.setup.energize ≠ 0 ∧
       568 ≠ (s.planScan (overrideAf s.fsu.live o) o.start o.stop).start) ∧
    (let s := lensAt 340 520 0
     let o := { scanOps with start := some 520, stop := some 600 }
     s.reaches (.scan 1 o) 1 s ∧ s.hasRoom 1 ∧
       520 = (s.planScan (overrideAf s.fsu.live o) o.start o.stop).start) := by
  refine ⟨⟨reach rfl (by decide), rfl⟩, ⟨reach rfl (by decide), rfl⟩, ⟨reach rfl (by decide), ?_⟩,
    ⟨reach rfl (by decide), rfl, 2, rfl, by decide⟩, ⟨reach rfl (by decide), rfl⟩, ⟨reach rfl (by decide), ?_⟩,
    ⟨reach rfl (by decide), ?_⟩, ⟨reach rfl (by decide), ?_⟩, ⟨reach rfl (by decide), rfl, ?_⟩,
    reach rfl (by decide), rfl, ?_⟩ <;> decide +kernel

/-- A scan that waits for a frame, the exposure unit without lens. -/
def waitingScan (count : Nat) : Scan :=
  { user := .scan 7 scanOps,
    plan := { settings := resetAf, start := 520, stop := 600, up := true, planned := 11, clampFlag := false,
              countFlag := false },
    index := 0, p := 520, begun := true, phase := .frameWait, mark := none, waitCount := count, best := none, rise := 0,
    stop := none, goal := none }

def scanWaiting (count : Nat) : State :=
  let s := withTable State.reset [entry 7 .scan .running]
  { s with fmn := { s.fmn with ring := [caseRecord 5 none false] },
           fsu := { s.fsu with scan := some (waitingScan count) } }

/-- FrameWaitExpires: no settle mark, the exposure unit without lens; the seventh record that counts and the eighth. -/
theorem test_witness_FrameWaitExpires :
    (scanWaiting 6).fmn.ring.getLast? = some (caseRecord 5 none false) ∧ (caseRecord 5 none false).offerHeld = false ∧
    (scanWaiting 6).excState = .waitLens ∧ (scanWaiting 6).csq.state ≠ .interval ∧
    after .frameStart { scanWaiting 6 with fsu := State.reset.fsu } (fun u => u.entry 7) =
      some (some (entry 7 .scan .running)) ∧
    (scanWaiting 6).csq.capture = none ∧ 6 < 7 ∧ 7 ≤ 7 ∧ (waitingScan 7).mark = none ∧ resetAf.hold = .stay := by
  decide +kernel

/-! ## Witnesses: steadying -/

def withStu (s : State) (f : Stu → Stu) : State := { s with stu := f s.stu }

/-- R53, section 3.9: the TABLE-LOAD that takes the table out of VALID centres the stage in that event. -/
theorem test_load_centres :
    after (.tableLoad 1 0 (.node (barrel.getD 0 resetNode).fields))
      (withStu (turning 60000) fun u => { u with yaw := { u.yaw with target := 2877, saturated := 3 } })
      (fun t => (t.otb.state, t.stu.state, t.stu.yaw)) = some (.staged, .active, resetSteadyAxis) := by decide +kernel

/-- SteadyRequests: a mode code of 3 and of 2; a GYRO-CAL running, CSQ at work, the FAULT state, and an acceptance. -/
theorem test_witness_SteadyRequests :
    (State.reset.reaches (.steadySet 1 3 0) 1 State.reset ∧ 2 < 3) ∧
    (State.reset.reaches (.steadySet 1 2 15) 1 State.reset ∧ steadyModeCode .shotOnly = 2 ∧
      State.reset.csq.state ≠ .recentring) ∧
    (let s := withTable State.reset [entry 7 .gyroCal .running]
     s.reaches (.gyroCal 1) 1 s ∧ s.hasKind .gyroCal = true) ∧
    (let s := shootIn .arming (shooting .mechanical 0 none (programOf 0))
     s.reaches (.gyroCal 1) 1 s ∧ s.hasKind .gyroCal = false ∧ s.csq.state ≠ .idle) ∧
    (let s := withStu State.reset fun u => { u with state := .fault, fault := true }
     s.reaches (.gyroCal 1) 1 s ∧ s.csq.state = .idle ∧ s.stu.state = .fault) ∧
    (State.reset.reaches (.gyroCal 1) 1 State.reset ∧ State.reset.stu.state ≠ .fault ∧ State.reset.hasRoom 1) := by
  refine ⟨⟨reach rfl (by decide), by decide⟩, ⟨reach rfl (by decide), rfl, ?_⟩, ⟨reach rfl (by decide), ?_⟩,
    ⟨reach rfl (by decide), ?_⟩, ⟨reach rfl (by decide), ?_⟩, reach rfl (by decide), ?_, rfl⟩ <;> decide +kernel

/-- SampleIntegrates: OFF; ACTIVE with both counts at the last value short of the events; PANNING that stays and PANNING
that ends. -/
theorem test_witness_SampleIntegrates :
    (State.reset.stu.cal = none ∧ State.reset.stu.state = .off) ∧
    (let s := withStu (turning 60000) fun u => { u with yaw := { u.yaw with saturated := 198, supervised := 18 } }
     s.stu.cal = none ∧ s.stu.offset = some (37, -12) ∧ s.lensGeometry = true ∧ s.stu.yaw.supervised < 19 ∧
       s.stu.pitch.supervised < 19 ∧ s.stu.state = .active ∧ s.stu.yaw.saturated < 199 ∧ s.stu.pitch.saturated < 199) ∧
    (let s := withStu (turning 60000) fun u => { u with state := .panning }
     s.stu.state = .panning ∧
       ¬ (((60000 : Int) + 0 - (60000 : Int).tdiv 16) * s.reading (·.gain) 2500).tdiv (2 ^ 24) < 750) ∧
    (let s := withStu (turning 16000) fun u => { u with state := .panning }
     s.stu.state = .panning ∧
       (((16000 : Int) + 0 - (16000 : Int).tdiv 16) * s.reading (·.gain) 2500).tdiv (2 ^ 24) < 750) := by decide +kernel

def windowAxis (spread : Int) : WindowAxis := { sum := 0, largest := spread, smallest := 0 }

def calibrating (samples failed : Nat) (spread : Int) : State :=
  withStu (withTable State.reset [entry 7 .gyroCal .running]) fun u =>
    { u with cal := some { failed := failed, judged := failed, samples := samples, yaw := windowAxis spread,
                           pitch := windowAxis 0, last := none } }

/-- SampleEvents: a window short of its last sample; a last sample with a spread of 64, with 65 after three failed windows
and after two; a sample outside ACTIVE, one that reaches no count of 200 and one that does; a fault latched already, and the
twentieth supervised sample. -/
theorem test_witness_SampleEvents :
    ((calibrating 510 0 64).stu.cal.map (·.samples) = some 510 ∧ 510 < 511) ∧
    ((calibrating 511 0 64).stu.cal.map (fun c => (c.samples, c.yaw.largest - c.yaw.smallest)) = some (511, 64) ∧
      (calibrating 511 0 64).entryOfKind .gyroCal = some (entry 7 .gyroCal .running) ∧
      (calibrating 511 0 64).entry 7 = some (entry 7 .gyroCal .running) ∧ (calibrating 511 0 64).stu.state = .off ∧
      (calibrating 511 0 64).stu.mode = .off ∧ (calibrating 511 0 64).stu.fault = false) ∧
    ((calibrating 511 3 65).stu.cal.map (fun c => (c.failed, c.yaw.largest - c.yaw.smallest)) = some (3, 65) ∧
      (calibrating 511 2 65).stu.cal.map (·.failed) = some 2 ∧ (entry 7 .gyroCal .running).state ≠ .stopping) ∧
    State.reset.stu.state ≠ .active ∧
    (let s := withStu (turning 544718) fun u => { u with yaw := { u.yaw with saturated := 198 } }
     let after := (SteadyAxis.supervise { s.stu.yaw with measured := 0 }).update 2560 11 (s.reading (·.gain) 2500) 3000
     s.stu.cal = none ∧ s.lensGeometry = true ∧ after.saturated = 199) ∧
    (let s := withStu (turning 544718) fun u => { u with yaw := { u.yaw with saturated := 199 } }
     let after := (SteadyAxis.supervise { s.stu.yaw with measured := 0 }).update 2560 11 (s.reading (·.gain) 2500) 3000
     s.stu.state = .active ∧ s.stu.offset = some (37, -12) ∧ s.stu.yaw.supervised < 19 ∧
       s.stu.pitch.supervised < 19 ∧ after.saturated = 200) ∧
    (let s := withStu State.reset fun u => { u with state := .fault, fault := true }
     s.stu.fault = true) ∧
    (let s := withStu (turning 0) fun u => { u with yaw := { u.yaw with supervised := 19 } }
     s.stu.fault = false ∧ s.stu.cal = none ∧ s.stu.state = .active ∧ s.stu.yaw.supervised = 19 ∧
       200 < ((201 : Int) - s.stu.yaw.target).natAbs) := by decide +kernel

/-! ## Witnesses: programs and contexts -/

/-- ProgramSetTaken: an index of 16; a presence of 2; an absent one; each field's first bad value; and a BRACKET at the ends
of its ranges. -/
theorem test_witness_ProgramSetTaken :
    (State.reset.reaches (.programSet 1 { program with index := 16 }) 1 State.reset ∧ 15 < 16) ∧
    (State.reset.reaches (.programSet 1 { program with index := 15, present := 2 }) 1 State.reset ∧ 1 < 2) ∧
    (State.reset.reaches (.programSet 1 { program with index := 15, present := 0 }) 1 State.reset ∧ 15 ≤ 15) ∧
    (State.reset.reaches (.programSet 1 { program with kind := 3 }) 1 State.reset ∧ 2 < 3) ∧
    (let o := { program with kind := 2, mask := 3, count := 7, step := 96, interval := 30, between := 1, focusFirst := 1 }
     State.reset.reaches (.programSet 1 o) 1 State.reset ∧ programKindCode .bracket = o.kind ∧ o.present = 1 ∧
       ¬ (2 < o.kind) ∧ ¬ (o.mask < 1 ∨ 3 < o.mask) ∧ (o.count = 3 ∨ o.count = 5 ∨ o.count = 7) ∧
       ¬ (o.step < 8 ∨ 96 < o.step) ∧ ¬ 30 < o.interval ∧ ¬ 1 < o.between ∧ ¬ 1 < o.focusFirst) :=
  ⟨⟨reach rfl (by decide), by decide⟩, ⟨reach rfl (by decide), by decide⟩, ⟨reach rfl (by decide), by decide⟩,
    ⟨reach rfl (by decide), by decide⟩, reach rfl (by decide), rfl, by decide⟩

theorem test_witness_ProgramLimitTaken :
    State.reset.reaches (.programLimit 1 17) 1 State.reset ∧ 16 < 17 ∧
    State.reset.reaches (.programLimit 1 16) 1 State.reset ∧ 16 ≤ 16 :=
  ⟨reach rfl (by decide), by decide, reach rfl (by decide), by decide⟩

/-- ContextSlots: slot 4; the ACTIVE slot; a NESTED one; an EMPTY one with every code at its last value and with one beyond
it; CONTEXT-READ of slot 4 and of slot 3, EMPTY. -/
theorem test_witness_ContextSlots :
    (State.reset.reaches (.contextSet 1 { context with slot := 4 }) 1 State.reset ∧ 3 < 4) ∧
    (State.reset.reaches (.contextSet 1 { context with slot := 0 }) 1 State.reset ∧
      (State.reset.slot 0).status = .active) ∧
    (let s : State := { State.reset with pcs := { State.reset.pcs with
       slots := [resetSlot .active, resetSlot .nested, resetSlot .available] } }
     s.reaches (.contextSet 1 context) 1 s ∧ (s.slot 1).status = .nested ∧ (s.slot 2).status = .available) ∧
    (State.reset.reaches (.contextSet 1 { context with slot := 3, kind := 3 }) 1 State.reset ∧
      (State.reset.slot 3).status = .empty ∧ 2 < 3) ∧
    (let o := { context with kind := 2, meter := { meter with mode := 3, rounding := 3 },
                             af := { af with condition := 1, span := 1, hold := 1 }, mode := 2 }
     State.reset.reaches (.contextSet 1 o) 1 State.reset ∧ contextKindCode .review = o.kind ∧
       meterModeCode .focusLinked = o.meter.mode ∧ roundingCode .towardDarker = o.meter.rounding ∧
       focusConditionCode .above = o.af.condition ∧ spanCode .near = o.af.span ∧ holdModeCode .best = o.af.hold ∧
       steadyModeCode .shotOnly = o.mode) ∧
    (State.reset.reaches (.contextRead 1 4) 1 State.reset ∧ State.reset.reaches (.contextRead 1 3) 1 State.reset) :=
  ⟨⟨reach rfl (by decide), by decide⟩, ⟨reach rfl (by decide), rfl⟩, ⟨reach rfl (by decide), rfl, rfl⟩,
    ⟨reach rfl (by decide), rfl, by decide⟩, ⟨reach rfl (by decide), rfl, rfl, rfl, rfl, rfl, rfl, rfl⟩,
    reach rfl (by decide), reach rfl (by decide)⟩

/-- The lens referenced, slot 1 AVAILABLE with zoom step 1000, slot 2 NESTED. -/
def contexts : State :=
  { lensAt 340 544 10 with
      pcs := { State.reset.pcs with
        slots := [{ resetSlot .active with link := some 2 }, { resetSlot .available with zoomStep := 1000 },
                  resetSlot .nested, resetSlot .empty] } }

/-- ContextExchange: the table states; slots 4, EMPTY, ACTIVE and NESTED; zoom or focus owned or UNREFERENCED; and an
acceptance of each kind. -/
theorem test_witness_ContextExchange :
    (State.reset.reaches (.switch 1 1) 1 State.reset ∧ State.reset.otb.state = .empty) ∧
    (staged.reaches (.enter 1 1) 1 staged ∧ staged.otb.state = .staged) ∧
    (contexts.reaches (.switch 1 4) 1 contexts ∧ contexts.otb.state = .valid ∧ 3 < 4) ∧
    (contexts.reaches (.switch 1 3) 1 contexts ∧ (contexts.slot 3).status = .empty) ∧
    (contexts.reaches (.switch 1 0) 1 contexts ∧ (contexts.slot 0).status = .active) ∧
    (contexts.reaches (.enter 1 2) 1 contexts ∧ (contexts.slot 2).status = .nested) ∧
    (let s := withAxis contexts .zoom byAnother
     s.reaches (.switch 1 1) 1 s ∧ s.ldu.zoom.owner ≠ none) ∧
    (let s := withAxis contexts .focus byAnother
     s.reaches (.leave 1) 1 s ∧ s.activeSlot.link = some 2 ∧ s.ldu.zoom.owner = none ∧ s.ldu.focus.owner ≠ none) ∧
    (let s := withAxis contexts .zoom fun r => { r with pp := none }
     s.reaches (.switch 1 1) 1 s ∧ s.ldu.focus.owner = none ∧ s.ldu.zoom.pp = none) ∧
    (let s := withAxis contexts .focus fun r => { r with pp := none }
     s.reaches (.switch 1 1) 1 s ∧ s.ldu.zoom.pp ≠ none ∧ s.ldu.focus.pp = none) ∧
    (contexts.reaches (.switch 1 1) 1 contexts ∧ contexts.reaches (.enter 1 1) 1 contexts ∧
      contexts.reaches (.leave 1) 1 contexts ∧ (contexts.slot 1).status = .available ∧ contexts.ldu.zoom.owner = none ∧
      contexts.ldu.focus.owner = none ∧ contexts.ldu.zoom.pp ≠ none ∧ contexts.ldu.focus.pp ≠ none ∧
      contexts.hasRoom 1) := by
  refine ⟨⟨reach rfl (by decide), rfl⟩, ⟨reach rfl (by decide), rfl⟩, ⟨reach rfl (by decide), rfl, by decide⟩,
    ⟨reach rfl (by decide), rfl⟩, ⟨reach rfl (by decide), rfl⟩, ⟨reach rfl (by decide), rfl⟩,
    ⟨reach rfl (by decide), ?_⟩, ⟨reach rfl (by decide), ?_⟩, ⟨reach rfl (by decide), ?_⟩, ⟨reach rfl (by decide), ?_⟩,
    reach rfl (by decide), reach rfl (by decide), reach rfl (by decide), rfl, rfl, rfl, by decide, by decide, rfl⟩ <;>
    decide +kernel

def switching (phase : TravelPhase) : ContextOp :=
  { tag := 40, kind := .switch, phase := phase, left := 0, clampFlag := false, target := 0, exc := .running,
    stu := .active }

def exchanged (kind : ContextKind) (phase : TravelPhase) : State :=
  withTable
    { lensAt 340 544 10 with
        pcs := { State.reset.pcs with
          slots := [resetSlot .available, { resetSlot .active with kind := kind, zoomStep := 2501 }],
          op := some (switching phase) } }
    [entry 40 .switch .running]

/-- ContextTravel: no operation; one already travelling; to a REVIEW context; and to another, its step beyond the tele
end. -/
theorem test_witness_ContextTravel :
    State.reset.pcs.op = none ∧ (exchanged .still .zoom).pcs.op = some (switching .zoom) ∧
    (switching .zoom).phase ≠ .pending ∧
    ((exchanged .review .pending).pcs.op = some (switching .pending) ∧ (exchanged .review .pending).activeKind = .review ∧
      (exchanged .review .pending).entry 40 = some (entry 40 .switch .running)) ∧
    (let s := exchanged .movie .pending
     s.activeKind ≠ .review ∧ s.ldu.zoom.pp = some 340 ∧ s.ldu.zoom.state = .released ∧
       s.ldu.zoom.setup.energize ≠ 0 ∧ s.ldu.waitList = [] ∧
       max s.wideEnd (min s.teleEnd s.activeSlot.zoomStep) ≠ 340) := by decide +kernel

/-! ## Witnesses: capture -/

def ready : State :=
  let s := shootIn .ready { shooting .mechanical 0 none (programOf 0) with kind := .prepare, tag := 3 }
  let capture (r : AxisRec) : AxisRec := { r with owner := some (.capture .prepare) }
  withAxis (withAxis { withTable s [] with
      pcs := { s.pcs with limit := 4, programs := s.pcs.programs.set 2 (some (programOf 2)) },
      exc := { s.exc with lock := .held 332 } } .zoom capture) .focus capture

/-- PrepareAndRelease: the table states; a REVIEW context; CSQ at work; zoom, focus or iris owned; an axis UNREFERENCED; an
acceptance without and with an exposure result; RELEASE in IDLE, at work and in READY. -/
theorem test_witness_PrepareAndRelease :
    (State.reset.reaches (.prepare 1) 1 State.reset ∧ State.reset.otb.state = .empty) ∧
    (staged.reaches (.prepare 1) 1 staged ∧ staged.otb.state = .staged) ∧
    (let s : State := { lensAt 340 568 0 with
       pcs := { State.reset.pcs with slots := [{ resetSlot .active with kind := .review }] } }
     s.reaches (.prepare 1) 1 s ∧ s.activeKind = .review) ∧
    (ready.reaches (.prepare 1) 1 ready ∧ ready.activeKind ≠ .review ∧ ready.csq.state ≠ .idle) ∧
    (let s := withAxis (lensAt 340 568 0) .zoom byAnother
     s.reaches (.prepare 1) 1 s ∧ s.csq.state = .idle ∧ s.ldu.zoom.owner ≠ none) ∧
    (let s := withAxis (lensAt 340 568 0) .focus byAnother
     s.reaches (.prepare 1) 1 s ∧ s.ldu.zoom.owner = none ∧ s.ldu.focus.owner ≠ none) ∧
    (let s := withAxis (lensAt 340 568 0) .iris byAnother
     s.reaches (.prepare 1) 1 s ∧ s.ldu.focus.owner = none ∧ s.ldu.iris.owner ≠ none) ∧
    (let s := withAxis (lensAt 340 568 0) .zoom fun r => { r with pp := none }
     s.reaches (.prepare 1) 1 s ∧ s.ldu.iris.owner = none ∧ (s.axis .zoom).pp = none) ∧
    (let s := lensAt 340 568 0
     s.reaches (.prepare 1) 1 s ∧ (∀ a, (s.axis a).pp ≠ none) ∧ s.hasRoom 1 ∧ s.ldu.waitList = [] ∧
       s.ldu.focus.homing = .none ∧ s.exc.lock = .none ∧ s.exc.x = none) ∧
    (let s : State := { lensAt 340 568 0 with exc := { State.reset.exc with x := some 332 } }
     s.reaches (.prepare 1) 1 s ∧ s.exc.x = some 332) ∧
    (State.reset.reaches (.release 1) 1 State.reset ∧ State.reset.csq.state = .idle) ∧
    (let s := shootIn .arming (shooting .mechanical 0 none (programOf 0))
     s.reaches (.release 1) 1 s ∧ s.csq.state ≠ .idle ∧ s.csq.state ≠ .ready) ∧
    (ready.reaches (.release 1) 1 ready ∧ ready.csq.state = .ready) := by
  refine ⟨⟨reach rfl (by decide), rfl⟩, ⟨reach rfl (by decide), rfl⟩, ⟨reach rfl (by decide), rfl⟩,
    ⟨reach rfl (by decide), ?_⟩, ⟨reach rfl (by decide), ?_⟩, ⟨reach rfl (by decide), ?_⟩, ⟨reach rfl (by decide), ?_⟩,
    ⟨reach rfl (by decide), ?_⟩, ⟨reach rfl (by decide), ?_, rfl, rfl, rfl, rfl, rfl⟩, ⟨reach rfl (by decide), rfl⟩,
    ⟨reach rfl (by decide), rfl⟩, ⟨reach rfl (by decide), ?_⟩, reach rfl (by decide), rfl⟩
  all_goals first | decide +kernel | (intro a; cases a <;> decide +kernel)

/-- The lens referenced, program 2 a burst of three, programs below 4 in force. -/
def programmed (p : Program) : State :=
  let s := lensAt 340 568 0
  { s with pcs := { s.pcs with limit := 4, programs := s.pcs.programs.set 2 (some p) } }

/-- ShootBegins: the table states; an index at the limit and an absent one; a context outside the mask; counts of 0 and of 4
from 3; CSQ at work; zoom owned by a HOME; the iris owned; an axis UNREFERENCED; from READY and from IDLE with the whole
count. -/
theorem test_witness_ShootBegins :
    (State.reset.reaches (.shoot 1 0 none) 1 State.reset ∧ State.reset.otb.state = .empty) ∧
    (staged.reaches (.shoot 1 0 none) 1 staged ∧ staged.otb.state = .staged) ∧
    (ready.reaches (.shoot 1 4 none) 1 ready ∧ ready.otb.state = .valid ∧ ready.pcs.limit ≤ 4) ∧
    (ready.reaches (.shoot 1 3 none) 1 ready ∧ 3 < ready.pcs.limit ∧ ready.pcs.programs[3]? = some none) ∧
    (let s := programmed { programOf 0 with mask := 2 }
     s.reaches (.shoot 1 2 none) 1 s ∧ s.pcs.programs[2]? = some (some { programOf 0 with mask := 2 }) ∧
       (2 : Nat).testBit (contextKindCode s.activeKind) = false) ∧
    (ready.reaches (.shoot 1 2 (some 0)) 1 ready ∧ ready.reaches (.shoot 1 2 (some 4)) 1 ready ∧
      (programOf 2).mask.testBit (contextKindCode ready.activeKind) = true ∧ (programOf 2).count < 4) ∧
    (let s : State := { programmed (programOf 0) with csq := { State.reset.csq with state := .finishing } }
     s.reaches (.shoot 1 2 (some 3)) 1 s ∧ s.csq.state ≠ .idle ∧ s.csq.state ≠ .ready ∧ 3 ≤ (programOf 0).count) ∧
    (let s := withAxis (programmed (programOf 0)) .zoom byAnother
     s.reaches (.shoot 1 2 none) 1 s ∧ s.csq.state = .idle ∧ s.ldu.zoom.owner = some (.op .home 9)) ∧
    (let s := withAxis (programmed (programOf 0)) .iris byAnother
     s.reaches (.shoot 1 2 none) 1 s ∧ s.ldu.zoom.owner = none ∧ s.ldu.focus.owner = none ∧ s.ldu.iris.owner ≠ none) ∧
    (let s := withAxis (programmed (programOf 0)) .zoom fun r => { r with pp := none }
     s.reaches (.shoot 1 2 none) 1 s ∧ s.ldu.iris.owner = none ∧ (s.axis .zoom).pp = none) ∧
    (ready.reaches (.shoot 1 2 (some 3)) 1 ready ∧ (∀ a, (ready.axis a).pp ≠ none) ∧ ready.ldu.iris.owner = none ∧
      ready.hasRoom 1 ∧ ready.csq.state = .ready ∧ ready.ldu.zoom.owner = some (.capture .prepare) ∧
      ready.ldu.focus.owner = some (.capture .prepare)) ∧
    (let s := programmed (programOf 0)
     s.reaches (.shoot 1 2 (some 1)) 1 s ∧ (∀ a, (s.axis a).pp ≠ none) ∧ s.hasRoom 1 ∧ s.csq.state = .idle ∧
       s.ldu.zoom.owner = none ∧ s.ldu.focus.owner = none ∧ s.exc.lock = .none ∧ s.exc.x = none) := by
  refine ⟨⟨reach rfl (by decide), rfl⟩, ⟨reach rfl (by decide), rfl⟩, ⟨reach rfl (by decide), rfl, by decide⟩,
    ⟨reach rfl (by decide), by decide, rfl⟩, ⟨reach rfl (by decide), rfl, rfl⟩,
    ⟨reach rfl (by decide), reach rfl (by decide), rfl, by decide⟩, ⟨reach rfl (by decide), ?_⟩,
    ⟨reach rfl (by decide), rfl, rfl⟩, ⟨reach rfl (by decide), ?_⟩, ⟨reach rfl (by decide), ?_⟩,
    ⟨reach rfl (by decide), ?_, rfl, rfl, rfl, rfl, rfl⟩, reach rfl (by decide), ?_, rfl, rfl, rfl, rfl, rfl, rfl⟩
  all_goals first | decide +kernel | (intro a; cases a <;> decide +kernel)

/-- CSQ waiting for a reservation at position 1 of a burst of three. -/
def waitingBuffer (intake : List Nat) (free : Nat) : State :=
  let s := shootIn .waitBuffer (shooting .mechanical 1 none (programOf 0))
  { s with
      exc := { s.exc with lock := .held 500 },
      csq := { s.csq with pendingIntake := intake },
      pbf := { s.pbf with request := true, freePages := (List.range 2048).drop (2048 - free) } }

/-- ReservationGranted: no request, 191 free pages, 192 with four pictures in intake, and 192 with three and the iris to
move. -/
theorem test_witness_ReservationGranted :
    (State.reset.csq.state ≠ .waitBuffer ∧ State.reset.pbf.request = false) ∧
    (waitingBuffer [] 191).csq.capture = some (shooting .mechanical 1 none (programOf 0)) ∧
    (waitingBuffer [] 191).pbf.freePages.length < (waitingBuffer [] 191).pbf.reserve ∧
    (let s := waitingBuffer [1, 2, 3, 4] 192
     s.csq.state = .waitBuffer ∧ s.pbf.request = true ∧ s.pbf.records.length < 32 ∧
       s.pbf.reserve ≤ s.pbf.freePages.length ∧ 4 ≤ s.csq.pendingIntake.length) ∧
    (let s := waitingBuffer [1, 2, 3] 192
     s.csq.pendingIntake.length < 4 ∧ s.ldu.iris.pp = some 0 ∧ s.ldu.iris.owner = none ∧
       s.ldu.iris.state = .released ∧ s.ldu.iris.setup.energize ≠ 0 ∧ s.ldu.waitList = [] ∧
       min 96 ((s.split s.otb.glob.tvMaxMechanical 500).av - s.avLow).toNat ≠ 0) := by decide +kernel

/-- ArmedPicture: not recentring; a recentring picture; ARMED of another picture, of one not yet sent, of the picture with
the shutter recharging and of an ELECTRONIC one; the arm timeout with nothing armed and with the timer running. -/
theorem test_witness_ArmedPicture :
    State.reset.stu.state ≠ .recentering ∧
    (let s := withStu (shootIn .recentring (shooting .mechanical 0 (some (hand false false)) (programOf 0))) fun u =>
       { u with state := .recentering }
     s.stu.state = .recentering ∧ s.csq.state = .recentring ∧
       s.csq.capture = some (shooting .mechanical 0 (some (hand false false)) (programOf 0))) ∧
    (State.reset.takeHanded (.armed 57) = some State.reset ∧ State.reset.csq.state ≠ .arming) ∧
    (let s := shootIn .arming (shooting .mechanical 0 (some (hand true false)) (programOf 0))
     s.takeHanded (.armed 58) = some s ∧ s.csq.state = .arming ∧ (hand true false).id ≠ 58 ∧
       (hand false false).arming = false ∧ (hand true false).id = 57 ∧ (hand true false).arming = true) ∧
    (let s := shootIn .arming (shooting .mechanical 0 (some (hand true false)) (programOf 0))
     { s with csq := { s.csq with recharge := true } }.csq.recharge = true) ∧
    (shooting .electronic 0 (some (hand true false)) (programOf 0)).shutter = .electronic ∧
    (let s := shootIn .arming (shooting .mechanical 0 (some (hand true false)) (programOf 0))
     let t : State := { s with csq := { s.csq with pendingIntake := [56] } }
     t.csq.state = .arming ∧ t.csq.pendingIntake ≠ [] ∧ (t.record 57).map (·.state) = some .reserved) := by
  refine ⟨?_, ?_, ⟨rfl, ?_⟩, ⟨rfl, ?_⟩, ?_⟩ <;> decide +kernel

/-- ExposureEnds: none of the four standing; a MECHANICAL and, at its last position, an ELECTRONIC exposure; the closing;
and the recharge with a further picture, at once and after an interval, and with none. -/
theorem test_witness_ExposureEnds :
    (State.reset.csq.state ≠ .exposing ∧ State.reset.csq.state ≠ .closing ∧ State.reset.csq.closeTimer = false ∧
      State.reset.csq.recharge = false) ∧
    (let c := shooting .mechanical 0 (some (hand false false)) (programOf 0)
     let s := shootIn .exposing c
     s.csq.capture = some c ∧ c.program = some (programOf 0) ∧ c.hand = some (hand false false) ∧
       s.csq.state = .exposing ∧ c.shutter = .mechanical) ∧
    (let c := shooting .electronic 2 (some (hand false false)) (programOf 0)
     c.shutter = .electronic ∧ c.last ≤ c.pos) ∧
    (let s := shootIn .closing (shooting .mechanical 0 (some (hand false false)) (programOf 0))
     let t : State := { s with csq := { s.csq with closeTimer := true } }
     t.csq.state = .closing ∧ t.csq.closeTimer = true ∧ (t.record 57).map (·.id) = some 57) ∧
    (let c := shooting .mechanical 1 none (programOf 0)
     let s := shootIn .recharge c
     let t : State := { s with csq := { s.csq with recharge := true } }
     t.csq.state = .recharge ∧ t.csq.recharge = true ∧ c.pos < c.last ∧ c.failure = none ∧ t.stopping 50 = false ∧
       (programOf 0).interval = 0 ∧ (programOf 1).interval ≠ 0 ∧ (programOf 0).refine = false) ∧
    (let c := shooting .mechanical 2 none (programOf 0)
     let s := shootIn .recharge c
     let t : State := { s with csq := { s.csq with recharge := true, pendingIntake := [57] } }
     ¬ (c.pos < c.last ∧ c.failure = none ∧ t.stopping 50 = false) ∧ t.csq.pendingIntake ≠ []) := by decide +kernel

/-- IntakeLimitAndInterval: no picture in intake; the head of one; not in INTERVAL; one frame short of the interval and the
last frame of it. -/
theorem test_witness_IntakeLimitAndInterval :
    State.reset.csq.pendingIntake = [] ∧
    (let c := shooting .mechanical 1 none (programOf 0)
     let s := shootIn .exposing c
     let t : State := { s with csq := { s.csq with pendingIntake := [57] } }
     t.csq.pendingIntake = 57 :: [] ∧ t.csq.capture = some c ∧ t.csq.state = .exposing ∧
       (t.record 57).map (·.id) = some 57) ∧
    State.reset.csq.state ≠ .interval ∧
    (let c := shooting .mechanical 1 none (programOf 2)
     let s := shootIn .interval c
     let t : State := { s with exc := { s.exc with lock := .held 300 }, fmn := { s.fmn with ring := [caseRecord 5 none false] } }
     t.csq.state = .interval ∧ t.csq.capture = some c ∧ c.program = some (programOf 2) ∧ t.excState = .locked ∧
       t.fsu.scan = none ∧ t.fmn.ring.getLast?.map (·.offerHeld) = some false ∧ (programOf 2).refine = false ∧
       ¬ (programOf 2).interval ≤ c.frames + 1 ∧ (programOf 2).interval ≤ { c with frames := 1 }.frames + 1) ∧
    (let p := { programOf 1 with refine := true }
     let c := shooting .mechanical 1 none p
     p.interval ≤ c.frames + 1 ∧ ¬ (p.refine = true → c.refine = .reported) ∧
       (p.refine = true → { c with refine := .reported }.refine = .reported)) := by decide +kernel

/-! ## Witnesses: picture buffer and intake -/

def withPbf (s : State) (f : Pbf → Pbf) : State := { s with pbf := f s.pbf }

def picture (state : RecordState) (received : Nat) : PicRecord :=
  { id := 57, tag := 50, pos := 0, state := state, reserved := [1], pages := [0], length := some 65536,
    received := received, shot := none }

def holding (r : PicRecord) : State := withPbf State.reset fun p => { p with records := [r], freePages := (List.range 2048).drop 2 }

/-- IntakeBytes: an empty FIFO; a byte at the head; a header's last byte for the largest length its reservation admits; the
byte before a picture's last. -/
theorem test_witness_IntakeBytes :
    (State.reset.fifoBytes < 4096 ∧ State.reset.pbf.fifo = [] ∧ State.reset.pbf.engine = .seek false false) ∧
    (let s := withPbf State.reset fun p => { p with fifo := .byte 0xA5#8 :: [] }
     s.pbf.fifo = .byte 0xA5#8 :: [] ∧ ∀ id ∈ [0, 57], s.pbf.engine ≠ .data id) ∧
    (let s := withPbf (holding { picture .reserved 0 with reserved := [0, 1], pages := [] }) fun p =>
       { p with fifo := [.byte 0#8], engine := .header [0#8, 57#8, 0#8, 2#8, 0#8] }
     let t : State := { s with csq := { s.csq with pendingIntake := [57] } }
     256 * 0 + (57#8 : Byte).toNat = 57 ∧ 16777216 * 0 + 65536 * (2#8 : Byte).toNat + 256 * 0 + 0 = 131072 ∧
       t.csq.pendingIntake.head? = some 57 ∧ t.record 57 = some { picture .reserved 0 with reserved := [0, 1], pages := [] } ∧
       131072 ≤ 65536 * [0, 1].length) ∧
    (let r := picture .filling 65534
     let s := withPbf (holding r) fun p => { p with fifo := [.byte 7#8], engine := .data 57 }
     s.record 57 = some r ∧ r.length = some 65536 ∧ r.received + 1 < 65536 ∧ r.received % 65536 ≠ 0 ∧
       r.pages[r.received / 65536]? = some 0 ∧ 0 < 2048) ∧
    ((Engine.drain 1) ≠ .drain 2 ∧ 1 ≤ 1) := by decide +kernel

/-- A FIFO that opens with `n` bytes holds at least `n`. -/
theorem fifoBytes_replicate (n : Nat) (rest : List FifoItem) :
    n ≤ (withPbf State.reset fun p => { p with fifo := List.replicate n (.byte 0#8) ++ rest }).fifoBytes := by
  simp [withPbf, State.fifoBytes, List.filter_append]

/-- IntakeBytes, a full FIFO: its last item a byte, and a gap mark. -/
theorem test_witness_IntakeBytes_full :
    4096 ≤ (withPbf State.reset fun p => { p with fifo := List.replicate 4096 (.byte 0#8) ++ [.byte 1#8] }).fifoBytes ∧
    4096 ≤ (withPbf State.reset fun p => { p with fifo := List.replicate 4096 (.byte 0#8) ++ [.gap 9] }).fifoBytes :=
  ⟨fifoBytes_replicate 4096 _, fifoBytes_replicate 4096 _⟩

/-- PictureRequests: no record; a record in each state; a STORED on its way; the store writing, FAULTED, PAUSED, DISABLED. -/
theorem test_witness_PictureRequests :
    (State.reset.reaches (.pictureDrop 1 57) 1 State.reset ∧ State.reset.reaches (.pictureRead 1 57) 1 State.reset ∧
      State.reset.record 57 = none) ∧
    (∀ state, (holding (picture state 0)).reaches (.pictureDrop 1 57) 1 (holding (picture state 0)) ∧
      (holding (picture state 0)).reaches (.pictureRead 1 57) 1 (holding (picture state 0)) ∧
      (holding (picture state 0)).record 57 = some (picture state 0)) ∧
    (let s := holding (picture .storing 0)
     let t : State := { s with opt := { s.opt with outbox := [.stored 57 65536 64 none []] } }
     t.reaches (.pictureDrop 1 57) 1 t ∧ t.storedInFlight 57 = true) ∧
    (let s := holding (picture .storing 0)
     let t : State := { s with csu := { s.csu with store := .writing } }
     t.reaches (.pictureDrop 1 57) 1 t ∧ t.storedInFlight 57 = false ∧ t.csu.store = .writing) ∧
    ∀ store ∈ [StoreState.faulted, .paused, .disabled],
      let s := holding (picture .storing 0)
      let t : State := { s with csu := { s.csu with store := store, current := some 57 } }
      t.reaches (.pictureDrop 1 57) 1 t ∧ t.storedInFlight 57 = false ∧ t.csu.current = some 57 ∧
        (addExtents t.csu.pool []).length ≤ 64 :=
  ⟨⟨reach rfl (by decide), reach rfl (by decide), rfl⟩,
    fun _ => ⟨reach rfl (by decide), reach rfl (by decide), rfl⟩, ⟨reach rfl (by decide), rfl⟩,
    ⟨reach rfl (by decide), rfl, rfl⟩, fun _ _ => ⟨reach rfl (by decide), rfl, rfl, Nat.zero_le _⟩⟩

/-! ## Witnesses: card store -/

def withCsu (s : State) (f : Csu → Csu) : State := { s with csu := f s.csu }

/-- A picture being written: cluster `written` of four, in an exchange of all four, `accepted` blocks past. -/
def writing (written accepted : Nat) (busy : Bool) (retries : Nat) : State :=
  withCsu (holding (picture .storing 65536)) fun c =>
    { c with
        card := .opened, cdet := true, capacity := some 100000, cluster := 8, store := .writing, current := some 57,
        placement := some { fragments := [{ start := 800, clusters := 4 }], written := written, retries := retries,
                            ahead := [], writeBacks := [], deferred := .none, repeats := 0 },
        exchange := some { first := 0, clusters := 4, accepted := accepted, busy := busy, counted := written } }

/-- CardSocket: an empty socket; an idle store with a card; a record being written; PRESENT
with the flag at the level and not; OPENED and PROTECTED. -/
theorem test_witness_CardSocket :
    State.reset.csu.card = .absent ∧
    (let s := withCsu State.reset fun c => { c with card := .opened, store := .idle }
     s.csu.card ≠ .absent ∧ s.csu.opening = none ∧ s.hasKind .storeHold = false ∧ s.csu.current = none ∧
       s.csu.store = .idle ∧ s.csu.card = .opened) ∧
    (let s := writing 1 9 false 0
     s.csu.card ≠ .absent ∧ s.csu.opening = none ∧ s.hasKind .storeHold = false ∧ s.csu.current = some 57 ∧
       s.csu.placement.map (·.written) = some 1 ∧ s.csu.store = .writing ∧ s.discarding = false) ∧
    (let s := withCsu State.reset fun c => { c with card := .present, cdet := true }
     s.csu.card = .present ∧ s.csu.protect = false ∧ s.csu.protect ≠ true) ∧
    (withCsu State.reset fun c => { c with card := .protect }).csu.card = .protect := by decide +kernel

def opening (stage : Nat) (awaiting : Option CardCommand) : State :=
  withCsu (withTable State.reset [entry 7 .cardOpen .running]) fun c =>
    { c with card := .present, cdet := true, opening := some stage, awaiting := awaiting }

/-- CardOpening: no card; an opening running; a store at work; an acceptance; and each stage with each command awaited. -/
theorem test_witness_CardOpening :
    (State.reset.reaches (.cardOpen 1) 1 State.reset ∧ State.reset.csu.cdet = false) ∧
    ((opening 1 none).reaches (.cardOpen 1) 1 (opening 1 none) ∧ (opening 1 none).hasKind .cardOpen = true) ∧
    (let s := withCsu State.reset fun c => { c with card := .opened, cdet := true, store := .idle }
     s.reaches (.cardOpen 1) 1 s ∧ s.hasKind .cardOpen = false ∧ s.csu.store ≠ .disabled ∧ s.csu.store ≠ .faulted) ∧
    (let s := withCsu State.reset fun c => { c with card := .present, cdet := true }
     s.reaches (.cardOpen 1) 1 s ∧ s.csu.cdet = true ∧ s.csu.store = .disabled ∧ s.hasRoom 1) ∧
    (State.reset.csu.awaiting = none ∧ State.reset.csu.opening ≠ some 1) ∧
    ((opening 1 none).csu.opening = some 1 ∧ (opening 1 none).csu.awaiting = none ∧
      (opening 1 none).entryOfKind .cardOpen = some (entry 7 .cardOpen .running) ∧
      (opening 1 none).entry 7 = some (entry 7 .cardOpen .running)) ∧
    (opening 1 (some .conditionQuery)).csu.awaiting = some .conditionQuery ∧
    (opening 2 (some .identity)).csu.awaiting = some .identity ∧ (1 : Nat) ≠ 0 ∧
    (opening 3 (some .select)).csu.awaiting = some .select ∧
    (opening 3 (some .busWidth)).csu.awaiting = some .busWidth := by
  refine ⟨⟨reach rfl (by decide), rfl⟩, ⟨reach rfl (by decide), rfl⟩, ⟨reach rfl (by decide), ?_⟩,
    ⟨reach rfl (by decide), rfl, rfl, rfl⟩, ?_⟩ <;> decide +kernel

/-- StoreSettings: a cluster size that is none of the six; 0 and 513 pages; a change while the store is not DISABLED; an
unchanged size; extents with no card, none given, 17 given, one of no whole clusters, and two that touch the card's end and
each other. -/
theorem test_witness_StoreSettings :
    let idle := withCsu State.reset fun c => { c with card := .opened, cdet := true, capacity := some 1000, store := .idle }
    let good : List Extent := [{ start := 872, len := 64 }, { start := 936, len := 64 }]
    (State.reset.reaches (.storeSet 1 7 1) 1 State.reset ∧ 7 ∉ [8, 16, 32, 64, 128, 256]) ∧
    (State.reset.reaches (.storeSet 1 8 0) 1 State.reset ∧ State.reset.reaches (.storeSet 1 256 513) 1 State.reset ∧
      512 < 513) ∧
    (idle.reaches (.storeSet 1 8 1) 1 idle ∧ 8 ≠ idle.csu.cluster ∧ idle.csu.store ≠ .disabled) ∧
    (idle.reaches (.storeSet 1 64 512) 1 idle ∧ 64 = idle.csu.cluster) ∧
    (State.reset.reaches (.storeSet 1 256 1) 1 State.reset ∧ State.reset.csu.store = .disabled ∧
      State.reset.csu.pool = [] ∧ State.reset.csu.placement = none ∧ State.reset.csu.fault = none) ∧
    (State.reset.reaches (.extentsGive 1 good) 1 State.reset ∧ State.reset.csu.card = .absent) ∧
    (idle.reaches (.extentsGive 1 []) 1 idle ∧ idle.csu.card = .opened ∧
      16 < (List.replicate 17 ({ start := 0, len := 64 } : Extent)).length) ∧
    (idle.reaches (.extentsGive 1 [{ start := 0, len := 64 }, { start := 64, len := 65 }]) 1 idle ∧
      64 % idle.csu.cluster = 0 ∧ 65 % idle.csu.cluster ≠ 0) ∧
    (idle.reaches (.extentsGive 1 good) 1 idle ∧ good ≠ [] ∧ good.length ≤ 16 ∧
      (∀ e ∈ good, e.len ≠ 0 ∧ e.len % idle.csu.cluster = 0 ∧ e.start + e.len ≤ idle.csu.capacity.getD 0) ∧
      good.Pairwise (fun a b => a.start + a.len ≤ b.start ∨ b.start + b.len ≤ a.start) ∧
      idle.takenBlocks = [] ∧ (addExtents idle.csu.pool good).length ≤ 64 ∧ idle.csu.store ≠ .waitSpace) := by
  refine ⟨⟨reach rfl (by decide), ?_⟩, ⟨reach rfl (by decide), reach rfl (by decide), ?_⟩,
    ⟨reach rfl (by decide), ?_⟩, ⟨reach rfl (by decide), rfl⟩, ⟨reach rfl (by decide), ?_⟩, ⟨reach rfl (by decide), rfl⟩,
    ⟨reach rfl (by decide), ?_⟩, ⟨reach rfl (by decide), ?_⟩, reach rfl (by decide), ?_⟩ <;> decide +kernel

/-- An IDLE store with picture 57 of two pages queued. -/
def queued (pool : List Extent) : State :=
  withCsu (holding (picture .complete 65536)) fun c =>
    { c with card := .opened, cdet := true, store := .idle, queue := [57], pool := pool }

/-- StoreHoldsAndTakes: each card state; the store FAULTED, DISABLED and IDLE; a hold waiting already; holds in DISABLED,
IDLE and WRITING; a record taken with and without space. -/
theorem test_witness_StoreHoldsAndTakes :
    let card (k : CardState) (store : StoreState) : State := withCsu State.reset fun c => { c with card := k, store := store }
    (∀ k store, (card k store).reaches (.storeOn 1) 1 (card k store) ∧ (card k store).csu.card = k ∧
      (card k store).csu.store = store ∧ (card k store).csu.current = none ∧ (card k store).csu.queue = []) ∧
    (let s := withTable State.reset [entry 7 .storeHold .waiting]
     s.reaches (.storeHold 1) 1 s ∧ s.hasKind .storeHold = true) ∧
    (∀ store, (card .opened store).reaches (.storeHold 1) 1 (card .opened store) ∧
      (card .opened store).hasKind .storeHold = false ∧ (card .opened store).hasRoom 1) ∧
    (State.reset.csu.store ≠ .idle) ∧
    ((queued []).csu.queue = 57 :: [] ∧ (queued []).record 57 = some (picture .complete 65536) ∧
      walkPool 64 (clustersFor 64 65536) [] = none) ∧
    (let s := queued [{ start := 0, len := 64 }, { start := 640, len := 128 }]
     s.csu.store = .idle ∧ s.csu.card = .opened ∧
       walkPool s.csu.cluster (clustersFor s.csu.cluster 65536) s.csu.pool =
         some ({ start := 0, clusters := 1 } :: [{ start := 640, clusters := 1 }], [{ start := 704, len := 64 }]) ∧
       s.csu.stopBusy = false ∧ s.csu.awaiting ≠ some .stop) := by
  refine ⟨fun _ _ => ⟨reach rfl (by decide), rfl, rfl, rfl, rfl⟩, ⟨reach rfl (by decide), rfl⟩,
    fun _ => ⟨reach rfl (by decide), rfl, rfl⟩, ?_⟩
  decide +kernel

/-- WriteExchange: no exchange; a stop command's busy; a token awaited with the repeats at 1 and at 2; a busy within a
cluster, at a boundary with a further one, and at the picture's last. -/
theorem test_witness_WriteExchange :
    (State.reset.csu.exchange = none ∧ State.reset.csu.stopBusy = false) ∧
    (let s := withCsu State.reset fun c => { c with stopBusy := true }
     s.csu.stopBusy = true ∧ s.csu.store ≠ .writing) ∧
    (let s := writing 0 31 false 1
     s.csu.exchange.map (fun e => (e.busy, e.accepted, e.clusters * s.csu.cluster)) = some (false, 31, 32) ∧
       s.csu.current = some 57 ∧ s.record 57 = some (picture .storing 65536) ∧ s.csu.store = .writing ∧
       s.csu.awaiting = none ∧ s.csu.stopBusy = false ∧ (s.csu.placement.map (·.writeBacks)) = some [] ∧
       (picture .storing 65536).state = .storing ∧ s.hasKind .storeHold = false ∧ s.csu.restarted = false ∧
       s.csu.card = .opened ∧ s.csu.placement.map (·.retries) = some 1) ∧
    (writing 0 0 false 2).csu.placement.map (·.retries) = some 2 ∧
    ((writing 0 7 true 0).csu.exchange.map (fun e => (e.busy, e.accepted % 8)) = some (true, 7)) ∧
    ((writing 0 8 true 0).csu.exchange.map (fun e => (e.busy, e.accepted % 8)) = some (true, 0) ∧
      0 + 1 < clustersOf [{ start := 800, clusters := 4 }] ∧ 0 + 1 < 4) ∧
    ((writing 3 32 true 0).csu.exchange.map (fun e => (e.busy, e.accepted % 8)) = some (true, 0) ∧
      clustersOf [{ start := 800, clusters := 4 }] ≤ 3 + 1) := by decide +kernel

def heldFault (format : Nat) (k : Continuation) : FaultRecord :=
  { format := format, picture := 57, written := 0, place := if format = 1 then some (0, 800) else none,
    response := if format = 1 then some .crcError else none, continuation := k, repeats := 0,
    writeBacks := if format = 1 then [{ cluster := 0, block := 800, valid := true }] else [] }

def faulted (format : Nat) (k : Continuation) : State :=
  withCsu (holding (picture .storing 65536)) fun c =>
    { c with card := .opened, cdet := true, store := .faulted, current := some 57, fault := some (heldFault format k) }

def edited (format : Nat) (continuation : Nat) : FaultOperands :=
  { fault with format := format, picture := 57, continuation := continuation,
               writeBacks := if format = 1 then [{ writeBack with block := 800 }] else [] }

/-- The edited write-backs agree with the recorded ones, as check 4 asks. -/
def agrees (recorded : List WriteBack) (edited : List WriteBackOperand) : Prop :=
  recorded.length = edited.length ∧
    ∀ (k : Nat) (a : WriteBack) (b : WriteBackOperand), recorded[k]? = some a → edited[k]? = some b →
      a.cluster = b.cluster ∧ (b.valid ≠ 0 → a.valid = true)

/-- FaultRequests: no record; each check of an edited record; a DROP with the card OPEN and with none, and a RESTART. -/
theorem test_witness_FaultRequests :
    (State.reset.reaches (.faultRead 1) 1 State.reset ∧ State.reset.csu.fault = none) ∧
    (∀ format k d f, (faulted format k).reaches (.faultReturn 1 d f) 1 (faulted format k) ∧
      (faulted format k).reaches (.faultRead 1) 1 (faulted format k) ∧
      (faulted format k).csu.fault = some (heldFault format k)) ∧
    (2 < 3 ∧ (edited 2 0).format ≠ (heldFault 1 .none).format ∧
      ({ edited 1 0 with picture := 58 } : FaultOperands).picture ≠ (heldFault 1 .none).picture) ∧
    ((edited 1 2).continuation ≠ 0 ∧ (edited 1 2).continuation ≠ continuationCode (heldFault 1 .hold).continuation) ∧
    (¬ agrees (heldFault 1 .none).writeBacks [] ∧ agrees (heldFault 2 .none).writeBacks (edited 2 0).writeBacks ∧
      agrees (heldFault 1 .none).writeBacks (edited 1 0).writeBacks) ∧
    ((faulted 1 .hold).record 57 = some (picture .storing 65536) ∧ (faulted 1 .hold).hasKind .storeHold = false ∧
      (faulted 1 .hold).csu.card = .opened ∧ (faulted 1 .hold).csu.queue.filter (fun p => p != 57) = [] ∧
      (edited 1 0).continuation = 0 ∧ (edited 1 1).continuation = 1 ∧
      (edited 1 1).continuation = continuationCode (heldFault 1 .hold).continuation ∧
      ∀ card ∈ [CardState.absent, .present], (withCsu (faulted 1 .none) fun c => { c with card := card }).csu.card = card) := by
  refine ⟨⟨reach rfl (by decide), rfl⟩, fun _ _ _ _ => ⟨reach rfl (by decide), reach rfl (by decide), rfl⟩,
    by decide +kernel, by decide +kernel, ⟨fun h => (nomatch h.1), ⟨rfl, fun k _ _ h => by cases k <;> cases h⟩, rfl, ?_⟩,
    by decide +kernel⟩
  intro k a b ha hb
  match k with
  | 0 => cases ha; cases hb; decide
  | k + 1 => cases k <;> cases ha

/-! ## Witnesses: what every step keeps -/

def queuedStrobe : State := { State.reset with pending := [.intakeStrobe 0xA5#8] }

/-- The four invariants hold of the state after reset with a strobe waiting, which steps to a next state. -/
theorem test_witness_StepKeeps :
    queuedStrobe.memorySound ∧ queuedStrobe.pagesSound ∧ queuedStrobe.trackedSound ∧ queuedStrobe.slotsSound ∧
    ∃ t, step queuedStrobe = .next t :=
  ⟨rfl, List.Perm.of_eq (by simp [State.pages, queuedStrobe, State.reset]), by unfold State.trackedSound; decide,
    by unfold State.slotsSound; decide, _, rfl⟩


/-! ## Witnesses: further clauses -/

/-- HeadPacketTaken, a RESTART packet: one already taken; a reply owed; TAG 0; a payload; and taken. -/
theorem test_witness_HeadPacketTaken_restart :
    ({ State.reset.lif with restart := .taken } : Lif).restart ≠ .none ∧
    ((withPacket 2#8 1#8 [] 1).lif.restart = .none ∧ feedKinds.contains 2 = false ∧ (withPacket 2#8 1#8 [] 1).owed ≠ 0) ∧
    (withPacket 2#8 0#8 [] 0).owed = 0 ∧
    ((withPacket 2#8 1#8 [0#8] 0).owed = 0 ∧ (1#8 : Byte).toNat ≠ 0 ∧ ([0#8] : List Byte) ≠ []) ∧
    (withPacket 2#8 255#8 [] 0).owed = 0 := by decide +kernel

/-- The STORED notice of picture 57 on the line, the card in a state, pictures queued, and the table as given. -/
def storedOut (card : CardState) (queue : List Nat) (table : List OpEntry) : State :=
  let s := withCsu (withTable (holding (picture .storing 65536)) table) fun c =>
    { c with card := card, store := .notifying, current := some 57, queue := queue, pool := [] }
  { s with lif := { s.lif with tx := some (txPacket (.notice (.stored 57 65536 64 none []))) } }

/-- PacketsLeaveInOrder, a STORED: of another record; with the card gone, PROTECTED, OPEN with nothing queued and with picture
58 queued and no space; and with a hold waiting. -/
theorem test_witness_PacketsLeaveInOrder_stored :
    (let s := storedOut .opened [] []
     s.lif.tx = some (txPacket (.notice (.stored 57 65536 64 none []))) ∧
       s.csu.store = .notifying ∧ s.csu.current = some 57 ∧ s.record 57 = some (picture .storing 65536) ∧
       s.hasKind .storeHold = false ∧ (s.csu.queue.filter fun p => p != 57) = []) ∧
    (withCsu (storedOut .opened [] []) fun c => { c with store := .disabled }).csu.store ≠ .notifying ∧
    (storedOut .absent [] []).csu.card = .absent ∧ (storedOut .protect [] []).csu.card = .protect ∧
    (let q := { picture .complete 65536 with id := 58 }
     let s := withPbf (storedOut .opened [58] []) fun p => { p with records := [picture .storing 65536, q] }
     (s.csu.queue.filter fun p => p != 57) = 58 :: [] ∧ s.record 58 = some q ∧ q.length = some 65536 ∧
       walkPool s.csu.cluster (clustersFor s.csu.cluster 65536) s.csu.pool = none) ∧
    (let s := storedOut .protect [] [entry 7 .storeHold .waiting]
     s.entryOfKind .storeHold = some (entry 7 .storeHold .waiting) ∧ s.entry 7 = some (entry 7 .storeHold .waiting)) := by
  decide +kernel

/-- RestartCarriedOut: a packet that waits for a RESTART; and one handed to its owner. -/
theorem test_witness_RestartCarriedOut_taking :
    ({ State.reset.lif with restart := .answered } : Lif).restart ≠ .none ∧
    ({ State.reset.lif with handed := [.restart 1] } : Lif).handed.contains (.restart 1) = true := by decide

/-- A lens operation of tag 7, its zoom as given, nothing waiting for a slot. -/
def underway (kind : OpKind) (body : LensBody) (state : OpState) (f : AxisRec → AxisRec) : State :=
  let own (r : AxisRec) : AxisRec := { r with owner := some (.op kind 7) }
  let s := withAxis (withAxis (lensAt 300 520 10) .zoom fun r => f (own r)) .focus own
  { withTable s [entry 7 kind state] with
      ldu := { s.ldu with ops := [{ tag := 7, body := body, waitStopped := false }] } }

/-- StopTaken, lens operations: each kind with zoom MOVING, and each kind WAITING with its axes energizing or at rest. -/
theorem test_witness_StopTaken_lens :
    ∀ x ∈ [(OpKind.home, LensBody.home .homing .notNamed .notNamed), (.move, .move .zoom 310 false),
        (.zoom, .zoom 300 400 8 false none), (.park, .park none)],
      (let s := underway x.1 x.2 .running fun r => { r with state := .moving }
       s.entry 7 = some (entry 7 x.1 .running) ∧ s.lensOp 7 = some { tag := 7, body := x.2, waitStopped := false } ∧
         s.ldu.waitList = [] ∧ (s.axis .zoom).state = .moving) ∧
      (let s := underway x.1 x.2 .waiting fun r => { r with state := .energizing, timer := some 6 }
       s.entry 7 = some (entry 7 x.1 .waiting) ∧ s.ldu.waitList = [] ∧ s.ldu.pendingIris = none ∧
         s.csq.capture = none ∧ (s.axis .zoom).pp ≠ none ∧
         ∀ a ∈ [Axis.zoom, .focus, .iris], (s.axis a).state ≠ .moving ∧ (s.axis a).state ≠ .homing ∧
           (s.axis a).state ≠ .settling) := by decide +kernel

/-- StopTaken reaches every state whose link stands as after reset. -/
theorem test_witness_StopTaken_reaches (kind : OpKind) (body : LensBody) (state : OpState) (f : AxisRec → AxisRec) :
    (underway kind body state f).reaches (.stop 1 7) 1 (underway kind body state f) := reach rfl (by decide)

/-- A scan of a user that has begun, or not. -/
def scanOf (user : ScanUser) (begun : Bool) : Scan := { waitingScan 0 with user := user, begun := begun }

def scanning (user : ScanUser) (begun : Bool) (s : State) : State :=
  { s with fsu := { s.fsu with scan := some (scanOf user begun) } }

/-- StopTaken: a calibration window and the pause between two; a SCAN before and after its first unit; a PREPARE before its
scan; a SHOOT WAITING, with and without a scan of its own; RUNNING in ARMING, in WAIT_BUFFER with a picture in intake and
without; and a STORE-HOLD. -/
theorem test_witness_StopTaken_kinds :
    ((calibrating 5 0 0).entry 7 = some (entry 7 .gyroCal .running) ∧
      (calibrating 5 0 0).stu.cal.map (·.samples) = some 5 ∧ (calibrating 0 1 0).stu.cal.map (·.samples) = some 0 ∧
      (calibrating 0 1 0).entryOfKind .gyroCal = some (entry 7 .gyroCal .running)) ∧
    (∀ begun ∈ [false, true],
      let s := scanning (.scan 7 scanOps) begun (withTable (lensAt 300 520 10) [entry 7 .scan .waiting])
      s.entry 7 = some (entry 7 .scan .waiting) ∧ s.fsu.scan = some (scanOf (.scan 7 scanOps) begun) ∧
        s.csq.capture = none ∧ s.ldu.waitList = []) ∧
    (let c := { shooting .mechanical 0 none (programOf 0) with kind := .prepare, tag := 7, plan := some (waitingScan 0).plan }
     let s := withTable (shootIn .preparing c) [entry 7 .prepare .waiting]
     s.csq.capture = some c ∧ c.tag = 7 ∧ s.entry 7 = some (entry 7 c.kind .waiting) ∧ s.fsu.scan = none) ∧
    (let c := shooting .mechanical 0 none (programOf 0)
     let s := withTable (shootIn .preparing c) [entry 50 .shoot .waiting]
     s.csq.capture = some c ∧ s.entry 50 = some (entry 50 c.kind .waiting) ∧ s.fsu.scan = none ∧
       (scanning .focusFirst true s).fsu.scan = some (scanOf .focusFirst true)) ∧
    (let c := shooting .mechanical 0 none (programOf 0)
     (shootIn .arming c).entry 50 = some (entry 50 c.kind .running) ∧ (shootIn .arming c).csq.state ≠ .waitBuffer ∧
       (shootIn .arming c).csq.state ≠ .interval ∧ (shootIn .waitBuffer c).csq.state = .waitBuffer ∧
       (shootIn .waitBuffer c).csq.pendingIntake = [] ∧ c.refine ≠ .running ∧ c.failure = none ∧
       0 < c.last + 1 - c.first ∧
       { (shootIn .waitBuffer c).csq with pendingIntake := [56] }.pendingIntake ≠ []) ∧
    ((withTable State.reset [entry 7 .storeHold .waiting]).entry 7 = some (entry 7 .storeHold .waiting)) := by
  decide +kernel

/-- HomingSteps and MoveSteps: no operation of tag 1 has had its stop while WAITING. -/
theorem test_witness_Steps_waitStopped :
    ∀ o, (withAxis State.reset .zoom (moving 200 202)).lensOp 1 = some o → o.waitStopped = false := by
  intro o h; cases h

/-- A lens operation of tag 7 whose zoom settles last, the other axes RELEASED. -/
def settling (kind : OpKind) (body : LensBody) (waitStopped : Bool) (state : OpState) : State :=
  let s := underway kind body state fun r => { r with state := .settling, timer := some 6 }
  { s with ldu := { s.ldu with ops := [{ tag := 7, body := body, waitStopped := waitStopped }] } }

/-- MoveEnds, in general: each kind failed; stopped while WAITING; arrived; and stopped on the way. -/
theorem test_witness_MoveEnds_general :
    (∀ x ∈ [(OpKind.home, LensBody.home .failed .notNamed .notNamed), (.zoom, .zoom 300 400 8 false (some .zoom)),
        (.park, .park (some .zoom)), (.move, .move .zoom 310 false)],
      let s := settling x.1 x.2 false .running
      (s.axis .zoom).owner = some (.op x.1 7) ∧ (s.axis .zoom).state = .settling ∧ (s.axis .zoom).timer.isSome = true ∧
        s.lensOp 7 = some { tag := 7, body := x.2, waitStopped := false } ∧ s.entry 7 = some (entry 7 x.1 .running) ∧
        s.csq.capture = none ∧ s.ldu.waitList = [] ∧ s.ldu.pendingIris = none ∧
        ∀ b ∈ [Axis.focus, .iris], (s.axis b).state = .released) ∧
    ((settling .move (.move .zoom 300 false) true .stopping).lensOp 7 =
      some { tag := 7, body := .move .zoom 300 false, waitStopped := true }) ∧
    (settling .move (.move .zoom 300 false) false .running).ldu.zoom.pp = some 300 ∧
    (some 300 ≠ some 310 ∧ (HomePart.cut ≠ .found)) := by decide +kernel

/-- TableLoadTaken: the first bad field of a node and of the global part; each busy condition; and none. -/
theorem test_witness_TableLoadTaken_fields :
    (2600 < ({ node with zoomStep := 2601 } : NodeFields).zoomStep ∧
      16777215 < ({ node with gain := 16777216 } : NodeFields).gain) ∧
    (({ resetGlobal with avCap := 31 } : GlobalFields).avCap < 32 ∧ 64 < ({ resetGlobal with follow := 65 } : GlobalFields).follow) ∧
    (withAxis State.reset .iris (resting .settling none)).ldu.iris.state = .settling ∧
    (shootIn .arming (shooting .mechanical 0 none (programOf 0))).csq.state ≠ .idle ∧
    ((entry 7 .scan .running).kind = .scan ∧ State.reset.csq.state = .idle ∧ State.reset.opt.table = []) := by
  decide +kernel

/-- ConvergenceStep: products of 512 and 513, and a tie that goes to the even integer. -/
theorem test_witness_ConvergenceStep_bounds :
    (2 < (128 : Int).natAbs ∧ ((128 : Int) * 4).natAbs ≤ 512) ∧ ((513 : Int) * 1 > 512) ∧ ((-513 : Int) * 1 < -512) ∧
    (8 * (0 : Int) - 4 * 1).natAbs = 4 := by decide

/-- StatsFiled, metering: the worked case (RUNNING), and the same with no result yet, with a lock held, and with no ring. -/
theorem test_witness_StatsFiled_metering :
    (caseState.takeHanded (.stats caseFeed) = some caseState ∧
      (caseState.fmn.ring.find? fun r => r.number == 199) = some (caseRecord 199 none false) ∧
      caseState.fmn.ring.getLast?.map (·.number) ≠ some 199 ∧ caseState.fsu.scan = none ∧
      caseState.csq.state ≠ .preparing ∧ (caseState.exc.ring.find? fun e => e.serial == 41).isSome = true ∧
      caseState.excState = .running ∧ caseState.exc.x = some 310) ∧
    { caseState with exc := { caseState.exc with x := none } }.excState = .noResult ∧
    { caseState with exc := { caseState.exc with lock := .held 310 } }.excState = .locked ∧
    (({ caseState.exc with ring := [] } : Exc).ring.find? fun e => e.serial == 41) = none := by
  refine ⟨⟨rfl, ?_⟩, ?_⟩ <;> decide +kernel

/-- ScanPlanBounded: ends given beyond the range; a span FULL and a span NEAR with focus at 20. -/
theorem test_witness_ScanPlanBounded_ends :
    (some 1601 : Option Nat) = some 1601 ∧ resetAf.span = .full ∧ { resetAf with span := .near }.span = .near ∧
    (lensAt 300 20 10).ldu.focus.pp = some 20 := by decide +kernel

/-- A scan of tag 7 that waits for a frame at PP 520, focus HELD and its own, and record 5 closed. -/
def comparing (scan : Scan) (owner : Owner) : State :=
  let s := withAxis (withTable (lensAt 340 520 0) [entry 7 .scan .running]) .focus fun r =>
    { r with state := .held, owner := some owner }
  { s with fmn := { s.fmn with ring := [caseRecord 5 (some 1) true, caseRecord 6 none false, caseRecord 7 none false] },
           fsu := { s.fsu with scan := some scan } }

/-- Statistics of record 6 with contrast 1000 in every window. -/
def compared : StatsFeed := { stats with frame := 6, serial := 0 }

def ownScan (best : Option Best) (rise index : Nat) (skip : Bool) (condition : FocusCondition) : Scan :=
  { waitingScan 0 with
      best := best, rise := rise, index := index,
      plan := { (waitingScan 0).plan with settings := { resetAf with skip := skip, condition := condition } } }

def bestAt (value pos : Nat) : Best := { value := value, pos := pos, windows := [(0, value)] }

/-- FrameWaitExpires, in RUNNING: a settle mark two records old and one on the closed record; a wait of seven with hold mode
BEST and a best elsewhere. -/
theorem test_witness_FrameWaitExpires_best :
    (let w := ownScan (some (bestAt 9000 512)) 0 0 true .peak
     let c := { w with mark := some 5, waitCount := 7,
                       plan := { w.plan with settings := { w.plan.settings with hold := .best } } }
     let s := comparing c (.op .scan 7)
     let t : State := { s with exc := { s.exc with x := some 310 } }
     t.excState = .running ∧ t.fmn.ring.getLast? = some (caseRecord 7 none false) ∧ t.csq.state ≠ .interval ∧
       c.plan.settings.hold = .best ∧ (bestAt 9000 512).pos ≠ 520 ∧
       after .frameStart { t with fsu := { t.fsu with scan := none } } (fun u =>
         [5, 7].map fun n => u.fmn.ring.findIdx? fun q => q.number == n) = some [some 0, some 2] ∧
       after .frameStart { t with fsu := { t.fsu with scan := none } } (fun u =>
         (u.ldu.focus, u.ldu.waitList, decide (u.slotHolders.length < 2))) =
         some ({ resetAxis .focus with pp := some 520, state := .held, owner := some (.op .scan 7) }, [], true)) := by
  decide +kernel

/-- FrameWaitExpires, a record offered: the state of the clauses; an ineligible record; a marked one skipped and not skipped. -/
theorem test_witness_FrameWaitExpires_offer :
    (let s := comparing (ownScan none 0 0 true .peak) (.op .scan 7)
     s.takeHanded (.stats compared) = some s ∧
       s.fmn.ring.find? (fun r => r.number == 6) = some (caseRecord 6 none false) ∧
       s.fmn.ring.getLast?.map (·.number) ≠ some 6 ∧ s.csq.state ≠ .preparing ∧ s.ldu.focus.pp = some 520 ∧
       s.entry 7 = some (entry 7 .scan .running) ∧ s.csq.capture = none ∧ s.ldu.focus.state = .held ∧
       s.ldu.focus.homing = .none ∧ s.ldu.waitList = [] ∧ s.slotHolders.length < 2 ∧
       s.ldu.focus.owner = some (.op .scan 7)) ∧
    ({ caseRecord 6 none false with movingFocus := true } : FrameRec).movingFocus ≠ false ∧
    (let s := comparing (ownScan none 0 0 false .peak) (.op .scan 7)
     (ownScan none 0 0 true .peak).plan.settings.skip = true ∧ (ownScan none 0 0 false .peak).plan.settings.skip = false ∧
       resetAf.hold = .stay ∧ s.judgeChanged 6 none = true) := by
  refine ⟨⟨rfl, ?_⟩, ?_⟩ <;> decide +kernel

/-- A record that is not marked: serial 1 stands in the ring of settings and in record 5. -/
def unmarked (scan : Scan) (owner : Owner) : State :=
  let s := comparing scan owner
  { s with exc := { s.exc with ring := [{ serial := 1, x := 302, av := 110, tv := 224, gv := 32 }], nextSerial := 2 } }

/-- FrameWaitExpires, comparisons of the figure 1000: not marked; a PEAK hit; an ABOVE hit; the positions run out above and
below the minimum; a further unit, and a stop before it. -/
theorem test_witness_FrameWaitExpires_compare :
    (unmarked (ownScan none 0 0 true .peak) (.op .scan 7)).judgeChanged 6 (some 1) = false ∧
    figure (windowValues resetAf.mask compared.contrasts) = 1000 * (windowValues resetAf.mask compared.contrasts).length ∧
    (let c := ownScan (some (bestAt 9000 512)) 2 1 true .peak
     ∀ b, c.best = some b → ¬ (b.value < 1000) ∧ 2 ≤ c.rise ∧ 1000 * 16 < b.value * (16 - c.plan.settings.fall) ∧
       c.plan.settings.minimum ≤ b.value ∧ b.pos ≠ 520) ∧
    (let c := ownScan none 0 0 true .above
     let d := { c with plan := { c.plan with settings := { c.plan.settings with threshold := 1000 } } }
     d.plan.settings.condition = .above ∧ d.plan.settings.threshold ≤ 1000 ∧ d.p = 520) ∧
    (let c := ownScan (some (bestAt 9000 512)) 0 10 true .peak
     ¬ 2 ≤ c.rise ∧ c.plan.planned ≤ c.index + 1 ∧ c.plan.settings.minimum ≤ (bestAt 9000 512).value ∧
       (bestAt 9000 512).pos ≠ 520 ∧ ¬ (c.plan.settings.minimum ≤ (bestAt 1000 520).value)) ∧
    (let s := lensAt 340 520 0
     s.lensGeometry = true ∧ (s.reading (·.fInf) s.zoomStep).toNat ≠ 520) ∧
    (let c := ownScan none 0 0 true .peak
     c.index + 1 < c.plan.planned ∧ c.stop = none ∧ c.begun = true ∧ c.plan.start + (c.index + 1) * 8 ≠ 520 ∧
       { c with stop := some .stopped }.stop = some .stopped) := by
  refine ⟨?_, ?_, ?_, ?_⟩
  · decide +kernel
  · decide +kernel
  · intro c b h; cases h; decide
  · decide +kernel

def refining (best : Option Best) (index : Nat) : Scan :=
  { ownScan best 0 index true .peak with
      user := .refine 520 [504, 512, 520, 528, 536],
      plan := refinePlan resetAf [504, 512, 520, 528, 536] }

/-- FrameWaitExpires, a refine: its last position with a best figure above and below the minimum, and a further one; and the
linked window of a mask. -/
theorem test_witness_FrameWaitExpires_refine :
    (refining (some (bestAt 9000 512)) 4).user = .refine 520 [504, 512, 520, 528, 536] ∧
    (unmarked (refining (some (bestAt 9000 512)) 4) (.capture .shoot)).ldu.focus.owner = some (.capture .shoot) ∧
    (refining none 4).plan.planned ≤ 4 + 1 ∧ resetAf.minimum ≤ (bestAt 9000 512).value ∧ (bestAt 9000 512).pos ≠ 520 ∧
    ((refining none 2).index + 1 < (refining none 2).plan.planned ∧ ([504, 512, 520, 528, 536] : List Nat)[3]? = some 528) ∧
    (linkedWindow [(0, 5), (2, 9), (3, 9)] = some 2 ∧
      ([(0, 5), (2, 9), (3, 9)] : List (Nat × Nat)).Pairwise fun a b => a.1 < b.1) := by decide +kernel

/-- FrameWaitExpires, the final arrival: of a SCAN, COMPLETE and NULLIFIED, and of a refine in INTERVAL. -/
theorem test_witness_FrameWaitExpires_arrival :
    ({ ownScan none 0 0 true .peak with goal := some (.nullified .noStats) }.goal = some (.nullified .noStats)) ∧
    (let c := { ownScan none 0 0 true .peak with phase := .finalTravel, goal := some (.complete .hit [(0, 9000)]) }
     let s := withAxis (comparing c (.op .scan 7)) .focus fun r =>
       { r with state := .settling, timer := some 6, target := some 520 }
     s.fsu.scan = some c ∧ c.phase = .finalTravel ∧ s.ldu.focus.state = .settling ∧ s.ldu.focus.timer.isSome = true ∧
       s.ldu.focus.pp = some 520 ∧ s.ldu.focus.target = some 520 ∧ s.ldu.focus.owner = some (.op .scan 7) ∧
       s.entry 7 = some (entry 7 .scan .running) ∧ s.csq.capture = none) ∧
    (let x := { shooting .mechanical 0 none { programOf 2 with refine := true } with refine := .running }
     let c := { refining none 4 with phase := .finalTravel, goal := some .refined }
     let s := scanning c.user true (shootIn .interval x)
     s.csq.capture = some x ∧ s.csq.state = .interval ∧ c.goal = some .refined ∧ x.frames < 2 ∧ x.failure = none ∧
       s.stopping x.tag = false) := by decide +kernel

/-- ContextExchange: a LEAVE from a slot with no back link, in each table state. -/
theorem test_witness_ContextExchange_leave :
    State.reset.reaches (.leave 1) 1 State.reset ∧ State.reset.activeSlot.link = none ∧
    staged.activeSlot.link = none ∧ (lensAt 300 520 10).activeSlot.link = none ∧
    (lensAt 300 520 10).reaches (.leave 1) 1 (lensAt 300 520 10) :=
  ⟨reach rfl (by decide), rfl, rfl, rfl, reach rfl (by decide)⟩

/-- A SCAN or ZOOM of tag 9 in the way of a SHOOT of program 2. -/
def inTheWay (kind : OpKind) (f : AxisRec → AxisRec) (begun : Bool) : State :=
  let own (r : AxisRec) : AxisRec := f { r with owner := some (.op kind 9) }
  let s := withTable (withAxis (programmed (programOf 0)) .focus own) [entry 9 kind .running]
  if kind = .zoom then
    let t := withAxis s .zoom own
    { t with ldu := { t.ldu with ops := [{ tag := 9, body := .zoom 340 400 8 false none, waitStopped := false }] } }
  else scanning (.scan 9 scanOps) begun s

/-- ShootBegins, preemption: a SCAN begun and not begun, and a ZOOM. -/
theorem test_witness_ShootBegins_preempts :
    (∀ kind f begun, (inTheWay kind f begun).lif = State.reset.lif →
      (inTheWay kind f begun).reaches (.shoot 1 2 none) 1 (inTheWay kind f begun)) ∧
    (∀ begun ∈ [false, true],
      let s := inTheWay .scan (fun r => { r with state := .moving }) begun
      s.csq.state = .idle ∧ s.exc.lock = .none ∧ s.exc.x = none ∧ s.entry 9 = some (entry 9 .scan .running) ∧
        s.ldu.zoom.owner = none ∧ s.ldu.focus.owner = some (.op .scan 9) ∧
        s.fsu.scan = some (scanOf (.scan 9 scanOps) begun) ∧ s.ldu.waitList = [] ∧ s.ldu.focus.state = .moving ∧
        s.ldu.iris.owner = none ∧ s.hasRoom 1) ∧
    (let s := inTheWay .zoom (fun r => { r with state := .moving }) false
     s.entry 9 = some (entry 9 .zoom .running) ∧ s.ldu.zoom.owner = some (.op .zoom 9) ∧
       s.ldu.focus.owner = some (.op .zoom 9) ∧
       s.lensOp 9 = some { tag := 9, body := .zoom 340 400 8 false none, waitStopped := false } ∧
       s.ldu.zoom.state = .moving ∧ s.ldu.waitList = [] ∧ s.hasRoom 1) := by
  refine ⟨fun _ _ _ h => reach h (by decide), ?_, ?_⟩
  · intro begun hb
    fin_cases hb <;> exact ⟨rfl, rfl, rfl, rfl, rfl, rfl, rfl, rfl, rfl, rfl, rfl⟩
  · exact ⟨rfl, rfl, rfl, rfl, rfl, rfl, rfl⟩

/-- A state with an item at the head of the FIFO, the engine as given. -/
def atHead (item : FifoItem) (engine : Engine) (r : PicRecord) (intake : List Nat) : State :=
  let c := shooting .mechanical 1 none (programOf 0)
  let s := shootIn .exposing c
  { s with pbf := { s.pbf with fifo := [item], engine := engine, records := [r] },
           csq := { s.csq with pendingIntake := intake } }

/-- IntakeBytes: a stray byte, the first of a run and a further one; a header of length 0, one out of order, one too long; a
byte that begins a page; the last byte; and a gap mark in each state. -/
theorem test_witness_IntakeBytes_further :
    (atHead (.byte 1#8) (.seek false false) (picture .reserved 0) []).pbf.engine = .seek false false ∧
    (atHead (.byte 1#8) (.seek true true) (picture .reserved 0) []).pbf.engine = .seek true true ∧ (1#8 : Byte) ≠ 0xA5#8 ∧
    (let s := atHead (.byte 0#8) (.header [0#8, 57#8, 0#8, 0#8, 0#8]) (picture .reserved 0) [57]
     s.pbf.fifo = .byte 0#8 :: [] ∧ 256 * (0#8 : Byte).toNat + (57#8 : Byte).toNat = 57) ∧
    (let s := atHead (.byte 1#8) (.header [0#8, 57#8, 0#8, 0#8, 0#8]) (picture .reserved 0) [58]
     s.csq.pendingIntake.head? ≠ some 57) ∧
    (let s := atHead (.byte 1#8) (.header [0#8, 57#8, 0#8, 1#8, 0#8]) (picture .reserved 0) [57]
     s.csq.pendingIntake = 57 :: [] ∧ s.record 57 = some (picture .reserved 0) ∧
       65536 * (picture .reserved 0).reserved.length < 65537 ∧ s.csq.state = .exposing ∧ s.memorySound) ∧
    (let r := { picture .filling 0 with pages := [], reserved := [0, 1] }
     let s := atHead (.byte 1#8) (.data 57) r [57]
     s.record 57 = some r ∧ s.memorySound ∧ r.length = some 65536 ∧ r.received + 1 < 65536 ∧
       r.received % 65536 = 0 ∧ r.pages.length = r.received / 65536 ∧ r.reserved = 0 :: [1]) ∧
    (let r := picture .filling 65535
     let s := atHead (.byte 1#8) (.data 57) r [57]
     s.record 57 = some r ∧ s.memorySound ∧ r.received + 1 = 65536 ∧ r.received % 65536 ≠ 0 ∧
       r.pages[r.received / 65536]? = some 0 ∧ s.csq.pendingIntake = 57 :: []) ∧
    (let s := atHead (.gap 3) (.data 57) (picture .filling 9) [57]
     s.pbf.fifo = .gap 3 :: [] ∧ s.record 57 = some (picture .filling 9) ∧ s.csq.state = .exposing) := by
  unfold State.memorySound
  decide +kernel

/-- StoreSettings: a store in WAIT_SPACE, given too little and enough, with the card OPEN and PROTECTED. -/
theorem test_witness_StoreSettings_waitSpace :
    let s (card : CardState) := withCsu (holding (picture .storing 65536)) fun c =>
      { c with card := card, cdet := true, capacity := some 1000, store := .waitSpace, current := some 57 }
    let one : List Extent := [{ start := 0, len := 64 }]
    let two : List Extent := [{ start := 0, len := 128 }]
    (∀ card es, (s card).reaches (.extentsGive 1 es) 1 (s card)) ∧
    ((s .opened).csu.store = .waitSpace ∧ (s .opened).csu.current = some 57 ∧
      (s .opened).record 57 = some (picture .storing 65536) ∧ (s .opened).takenBlocks = [] ∧
      walkPool 64 (clustersFor 64 65536) (addExtents [] one) = none) ∧
    (walkPool 64 (clustersFor 64 65536) (addExtents [] two) = some ({ start := 0, clusters := 2 } :: [], []) ∧
      (s .opened).csu.stopBusy = false ∧ (s .opened).csu.awaiting ≠ some .stop ∧
      (s .protect).hasKind .storeHold = false) :=
  ⟨fun _ _ => reach rfl (by decide), by decide +kernel, by decide +kernel⟩

/-- Picture 57 at a boundary: `written` clusters of two fragments of two written, the eighth block of the cluster accepted. -/
def boundary (f : Placement → Placement) (g : Csu → Csu) (written counted : Nat) (state : RecordState)
    (table : List OpEntry) : State :=
  let s := withTable (writing written 8 true 0) table
  let t := withPbf s fun p => { p with records := [picture state 65536] }
  withCsu t fun c =>
    g { c with
        placement := some (f { fragments := [{ start := 800, clusters := 2 }, { start := 1600, clusters := 2 }],
                               written := written, ahead := [], retries := 0, writeBacks := [], deferred := .none,
                               repeats := 0 }),
        exchange := some { first := written - counted, clusters := 2, accepted := 8 * (counted + 1), busy := true,
                           counted := counted } }

/-- WriteExchange, the boundaries: a drop; after a RESTART; with the card PROTECTED; with a hold waiting; the end of a
fragment; between two write-backs of a RETRY, and with the cluster after counted as written. -/
theorem test_witness_WriteExchange_boundaries :
    (let s := boundary id id 1 1 .storing []
     s.csu.exchange.map (fun e => (e.busy, e.accepted % s.csu.cluster, e.counted + 1, e.clusters)) = some (true, 0, 2, 2) ∧
       s.csu.placement.map (·.written) = some 1 ∧ s.record 57 = some (picture .storing 65536) ∧ s.csu.card = .opened ∧
       s.csu.restarted = false ∧ s.hasKind .storeHold = false ∧
       1 + 1 < clustersOf [{ start := 800, clusters := 2 }, { start := 1600, clusters := 2 }]) ∧
    (let s := boundary id id 1 1 .discarding []
     s.record 57 = some (picture .discarding 65536) ∧
       (addExtents s.csu.pool [{ start := 800, len := 16 }, { start := 1600, len := 16 }]).length ≤ 64 ∧
       (s.csu.queue.filter fun x => x != 57) = []) ∧
    (boundary id (fun c => { c with restarted := true }) 1 1 .storing []).csu.restarted = true ∧
    (boundary id (fun c => { c with card := .protect }) 1 1 .storing []).csu.card = .protect ∧
    (let s := boundary id id 1 1 .storing [entry 7 .storeHold .waiting]
     s.entryOfKind .storeHold = some (entry 7 .storeHold .waiting) ∧ s.entry 7 = some (entry 7 .storeHold .waiting)) ∧
    (let s := boundary (fun p => { p with writeBacks := [1] }) id 1 0 .storing []
     s.csu.placement.map (fun p => (p.writeBacks, p.ahead)) = some ([1], [])) ∧
    (let s := boundary (fun p => { p with writeBacks := [1], ahead := [2] }) id 1 0 .storing []
     s.csu.placement.map (fun p => (p.writeBacks, p.ahead)) = some ([1], [1 + 1]) ∧
       1 + 2 < clustersOf [{ start := 800, clusters := 2 }, { start := 1600, clusters := 2 }]) ∧
    (let s := boundary (fun p => { p with writeBacks := [1, 2], deferred := .drop })
       (fun c => { c with exchange := c.exchange.map fun e => { e with clusters := 1 } }) 1 0 .discarding
       [entry 7 .storeHold .waiting]
     s.csu.placement.map (fun p => (p.writeBacks, p.deferred)) = some ([1, 1 + 1], .drop) ∧
       s.csu.exchange.map (fun e => e.clusters == e.counted + 1) = some true) := by decide +kernel

/-- WriteExchange: the busy of a stop command that ends, or lasts too long, with a cluster unwritten. -/
theorem test_witness_WriteExchange_stop :
    let s := boundary id (fun c => { c with stopBusy := true, exchange := none }) 2 0 .storing []
    s.csu.stopBusy = true ∧ s.csu.store = .writing ∧ s.csu.awaiting = none ∧ s.csu.exchange = none ∧
    clusterPlace s.csu.cluster [{ start := 800, clusters := 2 }, { start := 1600, clusters := 2 }] 2 = some (1600, 2) ∧
    s.csu.current = some 57 ∧ s.record 57 = some (picture .storing 65536) ∧ s.hasKind .storeHold = false ∧
    State.reset.csu.placement = none := by decide +kernel

/-- A store FAULTED on cluster 0 of two fragments, with a pool and the operation table as given. -/
def retrying (k : Continuation) (pool : List Extent) (table : List OpEntry) : State :=
  withCsu (withTable (faulted 1 k) table) fun c =>
    { c with cluster := 64, pool := pool,
             placement := some { fragments := [{ start := 800, clusters := 2 }], written := 0, retries := 0,
                                 ahead := [], writeBacks := [], deferred := .none, repeats := 0 } }

def relocated (continuation : Nat) (block : Option Nat) (valid : Nat) : FaultOperands :=
  { edited 1 continuation with
      writeBacks := [{ cluster := 0, block := 800, valid := valid, relocation := block }] }

/-- Every relocation names one cluster of a pool extent, as check 6 asks. -/
def fitsPool (cluster : Nat) (pool : List Extent) (edited : List WriteBackOperand) : Prop :=
  ∀ (k : Nat) (w : WriteBackOperand) (b : Nat), edited[k]? = some w → w.relocation = some b →
    w.valid ≠ 0 ∧
      (∃ x ∈ pool, x.start ≤ b ∧ b + cluster ≤ x.start + x.len ∧ (b - x.start) % cluster = 0) ∧
      ∀ (j : Nat) (v : WriteBackOperand) (a : Nat), j < k → edited[j]? = some v → v.relocation = some a →
        a + cluster ≤ b ∨ b + cluster ≤ a

/-- One write-back fits where it has no relocation, or a set one onto the start of an extent. -/
theorem fitsPool_one (pool : List Extent) (continuation valid : Nat) (block : Option Nat)
    (h : ∀ b, block = some b → valid ≠ 0 ∧ ∃ x ∈ pool, x.start ≤ b ∧ b + 64 ≤ x.start + x.len ∧ (b - x.start) % 64 = 0) :
    fitsPool 64 pool (relocated continuation block valid).writeBacks := by
  intro k w b hw hb
  match k with
  | 0 =>
    cases hw
    exact ⟨(h b hb).1, (h b hb).2, fun j _ _ hj => by omega⟩
  | k + 1 => cases k <;> cases hw

/-- FaultRequests: a relocation outside the pool (check 6); a re-cut of more than 16 fragments (check 7); no card and a
PROTECTED one; a RETRY with no relocation, with one at an extent's start, and with the flag cleared; and a hold waiting. -/
theorem test_witness_FaultRequests_retry :
    (∀ k pool table f, (retrying k pool table).reaches (.faultReturn 1 0 f) 1 (retrying k pool table) ∧
      (retrying k pool table).csu.fault = some (heldFault 1 k) ∧
      (retrying k pool table).record 57 = some (picture .storing 65536)) ∧
    ¬ fitsPool 64 [] (relocated 0 (some 131072) 1).writeBacks ∧
    16 < (recut 64 ((List.range 16).map fun i => { start := 128 * i, clusters := 1 + 1 }) [(0, 131072)]).length ∧
    (withCsu (retrying .none [] []) fun c => { c with card := .absent }).csu.card = .absent ∧
    (withCsu (retrying .none [] []) fun c => { c with card := .protect }).csu.card = .protect ∧
    (let s := retrying .none [{ start := 131072, len := 64000 }] []
     s.csu.card = .opened ∧ s.csu.current = some 57 ∧ s.csu.stopBusy = false ∧ s.csu.awaiting ≠ some .stop ∧
       (relocated 0 none 1).continuation ≠ 2 ∧ s.csu.pool = [] ++ { start := 131072, len := 64000 } :: [] ∧
       0 < clustersOf (recut 64 [{ start := 800, clusters := 2 }] []) ∧
       0 < clustersOf (recut 64 [{ start := 800, clusters := 2 }] [(0, 131072)])) ∧
    (fitsPool 64 [{ start := 131072, len := 64000 }] (relocated 0 (some 131072) 1).writeBacks ∧
      ∀ continuation valid, fitsPool 64 [] (relocated continuation none valid).writeBacks) ∧
    ((relocated 0 none 0).writeBacks.map (·.valid) = [0] ∧
      clusterPlace 64 [{ start := 800, clusters := 2 }] (0 + 1) = some (864, 1)) ∧
    (let s := retrying .hold [] [entry 7 .storeHold .waiting]
     (relocated 1 none 0).continuation = 1 ∧ s.entryOfKind .storeHold = some (entry 7 .storeHold .waiting) ∧
       s.entry 7 = some (entry 7 .storeHold .waiting)) := by
  refine ⟨fun _ _ _ _ => ⟨reach rfl (by decide), rfl, rfl⟩, fun h => ?_, by decide +kernel, by decide +kernel,
    by decide +kernel, by decide +kernel, ⟨fitsPool_one _ 0 1 (some 131072) fun b hb => ?_,
      fun k v => fitsPool_one [] k v none fun b hb => by cases hb⟩, by decide +kernel, by decide +kernel⟩
  · obtain ⟨_, hx, _⟩ := (h 0 _ 131072 rfl rfl).2.1
    cases hx
  · cases hb
    exact ⟨by decide, _, List.mem_singleton.2 rfl, by decide, by decide, by decide⟩

/-! ## Witnesses: clauses of tables, travel and samples -/

/-- A table with the focus readings exchanged: far above near. -/
def turned : State :=
  let s := lensAt 340 568 0
  { s with otb := { s.otb with nodes := s.otb.nodes.map fun n =>
      { n with fields := { n.fields with fInf := n.fields.fNear, fNear := n.fields.fInf } } } }

/-- ZOOM 7 from step 340 to `target`, follow interval 8, the zoom at 340 and the focus at 568. -/
def zooming (zoom focus : AxisState) (target : Nat) : State :=
  let own (r : AxisRec) : AxisRec := { r with owner := some (.op .zoom 7) }
  let s := withAxis (lensAt 340 568 0) .zoom fun r =>
    { own r with state := zoom, target := some target, timer := some 6, stepUp := true }
  let s := withAxis s .focus fun r => { own r with state := focus }
  { withTable s [entry 7 .zoom .running] with
      ldu := { s.ldu with
        ops := [{ tag := 7, body := .zoom 333 target 8 false none, waitStopped := false }] } }

/-- ZoomBegins, the follow points: focus readings that rise, that fall, and the end of d; the grant; a step that is the
last, one a multiple of the follow interval from the start, and one that is neither, focus MOVING and HELD. -/
theorem test_witness_ZoomBegins_follows :
    (let s := lensAt 340 568 0
     s.reading (·.fInf) 340 < s.reading (·.fNear) 340 ∧ 0 ≤ s.reading (·.fInf) 340) ∧
    (turned.reading (·.fNear) 340 < turned.reading (·.fInf) 340 ∧ 0 ≤ turned.reading (·.fNear) 340 ∧ 1024 ≤ 1024) ∧
    (∀ zoom focus target, (zooming zoom focus target).lensOp 7 =
        some { tag := 7, body := .zoom 333 target 8 false none, waitStopped := false } ∧
      (zooming zoom focus target).ldu.waitList = [] ∧ (zooming zoom focus target).fsu.scan = none) ∧
    (let s := zooming .energizing .held 400
     s.ldu.zoom.homing = .none ∧ s.ldu.zoom.after = .goOn ∧ s.ldu.focus.homing = .none ∧ s.ldu.zoom.state = .energizing ∧
       s.ldu.zoom.timer.isSome = true ∧ s.ldu.zoom.target = some 400 ∧ 340 ≠ 400 ∧ s.ldu.iris.stepping = false) ∧
    (∀ focus ∈ [AxisState.moving, .held], ∀ target ∈ [341, 400],
      let s := zooming .moving focus target
      s.ldu.zoom.state = .moving ∧ s.ldu.zoom.setup.settle ≠ 0 ∧ s.ldu.zoom.stepUp = true ∧
        (s.ldu.focus.state = .moving ∨ (s.ldu.focus.state = .held ∧ s.ldu.iris.stepping = false))) ∧
    ¬ (high.zoom ≠ decide (100 < 341) ∧ (104 ≤ 341 ∨ 341 + 4 ≤ 100)) ∧ (341 - 333) % 8 = 0 ∧
    ((let s := withAxis (zooming .moving .held 400) .zoom fun r => { r with pp := some 341 }
      s.ldu.zoom.pp = some 341) ∧ 342 ≠ 400 ∧ (342 - 333) % 8 ≠ 0) := by
  refine ⟨by decide +kernel, by decide +kernel, fun _ _ _ => ⟨rfl, rfl, rfl⟩, ?_⟩
  decide +kernel

/-- The conditions of the four checks of R43. -/
def commitFails (s : State) (check i : Nat) : Prop :=
  let later (bad : NodeFields → NodeFields → Prop) (i : Nat) : Prop :=
    ∃ j a b, i = j + 1 ∧ s.otb.nodes[j]? = some a ∧ s.otb.nodes[i]? = some b ∧ bad a.fields b.fields
  (check = 1 ∧ ∃ n, s.otb.nodes[i]? = some n ∧ n.written = false) ∨
  (check = 2 ∧ later (fun a b => b.zoomStep ≤ a.zoomStep) i) ∨
  (check = 3 ∧ later (fun a b => b.focal < a.focal ∨ b.equiv < a.equiv) i) ∨
  (check = 4 ∧ ∃ n, s.otb.nodes[i]? = some n ∧ s.otb.glob.avCap < n.fields.avOpen)

/-- Two nodes, the second's open aperture at 230 above the cap 222. -/
def overCap : State :=
  { State.reset with otb := { State.reset.otb with
      state := .staged, nodes := [barrel.getD 0 resetNode,
        { written := true, fields := { (barrel.getD 1 resetNode).fields with avOpen := 230 } }] } }

/-- TableCommitTaken: check 1 fails first at node 0 of an unwritten table; check 4 first at the last node of another. -/
theorem test_witness_TableCommitTaken_fails :
    (State.reset.reaches (.tableCommit 1) 1 State.reset ∧ commitFails State.reset 1 0 ∧
      (∀ k j, k < 1 → ¬ commitFails State.reset k j) ∧ ∀ j, j < 0 → ¬ commitFails State.reset 1 j) ∧
    (overCap.reaches (.tableCommit 1) 1 overCap ∧ commitFails overCap 4 1 ∧
      (∀ k j, k < 4 → ¬ commitFails overCap k j) ∧ ∀ j, j < 1 → ¬ commitFails overCap 4 j) := by
  refine ⟨⟨reach rfl (by decide), .inl ⟨rfl, _, rfl, rfl⟩, ?_, fun j h => absurd h (Nat.not_lt_zero j)⟩,
    reach rfl (by decide), .inr (.inr (.inr ⟨rfl, _, rfl, by decide⟩)), ?_, ?_⟩
  · rintro k j hk (⟨rfl, _⟩ | ⟨rfl, _⟩ | ⟨rfl, _⟩ | ⟨rfl, _⟩) <;> omega
  · rintro k j hk (⟨rfl, n, h, hw⟩ | ⟨rfl, i, a, b, rfl, ha, hb, h⟩ | ⟨rfl, i, a, b, rfl, ha, hb, h⟩ | ⟨rfl, _⟩)
    · match j with
      | 0 | 1 => cases h; cases hw
      | j + 2 => cases j <;> cases h
    · match i with
      | 0 => cases ha; cases hb; revert h; decide
      | i + 1 => cases i <;> cases hb
    · match i with
      | 0 => cases ha; cases hb; revert h; decide
      | i + 1 => cases i <;> cases hb
    · omega
  · rintro j hj (⟨h, _⟩ | ⟨h, _⟩ | ⟨h, _⟩ | ⟨_, n, h, hn⟩)
    · cases h
    · cases h
    · cases h
    · match j with
      | 0 => cases h; revert hn; decide

/-- SplitAccounts at the tele end, free exposure 288 above the knee 287, at the knee, at the hand-hold limit 206 and just
below it, under each rounding mode. -/
theorem test_witness_SplitAccounts_free :
    (∀ r ∈ [Rounding.nearest, .towardZero, .towardDarker, .towardBrighter],
      let s := caseAt 2500 r
      s.avLow ≤ s.avHigh ∧ s.avLow = 178 ∧ s.exc.live.knee = 287 ∧ s.exc.live.rounding = r ∧
        max 0 ((lg (s.reading (·.equiv) s.zoomStep).toNat : Int) - 96) = 206 ∧ s.stu.state = .active ∧
        s.recentlyUnsteady = false) ∧
    (287 : Int) < 466 - 178 ∧ (465 : Int) - 178 ≤ 287 ∧ (206 : Int) ≤ 384 - 178 ∧ (383 : Int) - 178 < 206 := by
  decide +kernel

/-- SCAN 7 under way, focus about to complete a step from `p`. -/
def stepping (p : Nat) (up : Bool) : State :=
  withAxis (comparing { ownScan none 0 0 true .peak with phase := .travel } (.op .scan 7)) .focus fun r =>
    { r with pp := some p, state := .moving, stepUp := up }

/-- FrameWaitExpires, a lost step: at 44 with the flag low, and at 36 with it high. -/
theorem test_witness_FrameWaitExpires_lost :
    (∀ p ∈ [43, 37], ∀ up ∈ [false, true],
      let s := stepping p up
      s.fsu.scan = some { ownScan none 0 0 true .peak with phase := .travel } ∧
        s.entry 7 = some (entry 7 .scan .running) ∧ s.csq.capture = none ∧ s.ldu.focus.owner = some (.op .scan 7) ∧
        s.ldu.focus.state = .moving ∧ s.ldu.focus.homing = .none ∧ s.ldu.focus.after = .goOn ∧
        s.ldu.focus.pp = some p ∧ s.ldu.focus.setup.settle ≠ 0 ∧ s.ldu.waitList = [] ∧ s.ldu.focus.stepUp = up) ∧
    (low.focus ≠ decide (40 < 44) ∧ 44 ≤ 43 + 1) ∧ (high.focus ≠ decide (40 < 36) ∧ 37 - 1 + 4 ≤ 40) := by
  decide +kernel

/-- SampleIntegrates: with no lens geometry in ACTIVE and PANNING; RECENTERING, a shift at the limit 50 and one above. -/
theorem test_witness_SampleIntegrates_centred :
    (∀ state ∈ [StuState.active, .panning],
      let s := withStu (withAxis (turning 60000) .zoom fun r => { r with pp := none }) fun u =>
        { u with state := state, yaw := { u.yaw with supervised := 18 } }
      s.stu.cal = none ∧ (s.stu.state = .active ∨ s.stu.state = .panning) ∧ s.lensGeometry = false ∧
        s.stu.yaw.supervised < 19 ∧ s.stu.pitch.supervised < 19) ∧
    (let s := withStu (shootIn .recentring (shooting .mechanical 0 (some (hand false false)) (programOf 0))) fun u =>
       { u with state := .recentering }
     s.stu.cal = none ∧ s.stu.state = .recentering ∧ s.csq.state = .recentring ∧
       s.csq.capture = some (shooting .mechanical 0 (some (hand false false)) (programOf 0)) ∧
       (hand false false).split.isSome = true) ∧
    (-50 : Int).natAbs ≤ 50 ∧ ¬ (51 : Int).natAbs ≤ 50 := by decide +kernel

/-! ## Witnesses: clauses of the capture -/

/-- The worked metering case with no result yet, CSQ waiting for the pending lock. -/
def awaitingLock (c : Capture) : State :=
  { caseState with
      exc := { caseState.exc with x := none, lock := .pending },
      csq := { caseState.csq with state := .preparing, capture := some c } }

def preparing : Capture :=
  { newCapture .prepare 3 .mechanical with
      plan := some { settings := resetAf, start := 380, stop := 560, up := true, planned := 23, clampFlag := false,
                     countFlag := false } }

/-- What the exposure unit makes of the worked case's record, filed with a serial. -/
def offered (c : Capture) (serial : Option Nat) : Lock :=
  let s := awaitingLock c
  let filed : FrameRec :=
    { caseRecord 199 serial true with zones := caseFeed.zones.map (min 4095), contrasts := caseFeed.contrasts,
                                      expChanged := s.judgeChanged 199 serial }
  (State.excOffer
    { s with fmn := { s.fmn with ring := updateFirst (fun x => x.number == 199) (fun _ => filed) s.fmn.ring } }
    filed).1.exc.lock

/-- PrepareAndRelease, the pending lock's first result: of a PREPARE and of a SHOOT with and without focus first; a feed
of no serial leaves the lock pending, the worked one's fixes it. -/
theorem test_witness_PrepareAndRelease_lock :
    (∀ c, (awaitingLock c).takeHanded (.stats caseFeed) = some (awaitingLock c)) ∧
    (let s := awaitingLock preparing
     s.fmn.ring.find? (fun r => r.number == 199) = some (caseRecord 199 none false) ∧
       s.fmn.ring.getLast?.map (·.number) ≠ some 199 ∧ s.fsu.scan = none ∧ s.csq.state = .preparing ∧
       s.csq.capture = some preparing ∧ preparing.scanAsked = false ∧ preparing.preempting = none ∧
       s.exc.lock = .pending ∧ s.excState = .noResult ∧ s.ldu.waitList = [] ∧ s.ldu.focus.state = .released ∧
       s.ldu.focus.pp = some 0 ∧ s.ldu.zoom.pp ≠ none ∧ s.ldu.focus.setup.energize ≠ 0 ∧
       preparing.plan.map (·.start) = some 380 ∧ (s.planScan s.fsu.live none none).start ≠ 0) ∧
    (offered preparing none = .pending ∧ offered preparing (some 41) = .held 368) ∧
    (∀ first, (shooting .mechanical 0 none { programOf 0 with focusFirst := first }).kind = .shoot ∧
      (shooting .mechanical 0 none { programOf 0 with focusFirst := first }).program =
        some { programOf 0 with focusFirst := first }) := by
  refine ⟨fun _ => rfl, ?_, ?_, fun _ => ⟨rfl, rfl⟩⟩ <;> decide +kernel

/-- ShootBegins: focus owned by a HOME, zoom free or under a SCAN; and from IDLE with an exposure result. -/
theorem test_witness_ShootBegins_result :
    (∀ owner ∈ [none, some (Owner.op .scan 8)],
      let s := withAxis (withAxis (programmed (programOf 0)) .focus byAnother) .zoom fun r => { r with owner := owner }
      s.csq.state = .idle ∧ s.ldu.zoom.owner = owner ∧ s.ldu.focus.owner = some (.op .home 9)) ∧
    (∀ first ∈ [false, true],
      let p := { programOf 0 with focusFirst := first }
      let s : State := { programmed p with exc := { State.reset.exc with x := some 332 } }
      s.otb.state = .valid ∧ 2 < s.pcs.limit ∧ s.pcs.programs[2]? = some (some p) ∧
        p.mask.testBit (contextKindCode s.activeKind) = true ∧ s.csq.state = .idle ∧ s.ldu.zoom.owner = none ∧
        s.ldu.focus.owner = none ∧ s.ldu.iris.owner = none ∧ s.exc.lock = .none ∧ s.exc.x = some 332 ∧
        s.hasRoom 1 ∧ s.ldu.waitList = [] ∧ s.ldu.focus.state = .released ∧ s.ldu.focus.setup.energize ≠ 0 ∧
        s.ldu.focus.pp ≠ some (s.planScan s.fsu.live none none).start) ∧
    (∀ first, let s : State := { programmed { programOf 0 with focusFirst := first } with
       exc := { State.reset.exc with x := some 332 } }
      s.reaches (.shoot 1 2 none) 1 s ∧ ∀ a, (s.axis a).pp ≠ none) := by
  refine ⟨by decide +kernel, by unfold State.hasRoom; decide +kernel, fun _ => ⟨reach rfl (by decide), ?_⟩⟩
  intro a
  cases a <;> exact fun h => nomatch h

/-- A picture whose iris settles at its target 7, the steadying unit in a state with a shift target. -/
def irisSettling (state : StuState) (target : Int) : State :=
  let s := withAxis (shootIn .waitIris (shooting .mechanical 0 (some (hand false false)) (programOf 0))) .iris fun r =>
    { r with state := .settling, timer := some 6, pp := some 7, target := some 7 }
  let t : State := { s with ldu := { s.ldu with pendingIris := some { value := 7, writer := .csq } } }
  withStu t fun u => { u with state := state, yaw := { u.yaw with target := target } }

/-- ArmedPicture, the iris at its target: OFF; ACTIVE and PANNING with the shift at half the stroke, 1500, and beyond;
RECENTERING. -/
theorem test_witness_ArmedPicture_iris :
    (∀ state ∈ [StuState.off, .active, .panning, .recentering], ∀ target ∈ [(1500 : Int), 1501],
      let s := irisSettling state target
      s.ldu.iris.owner = none ∧ s.ldu.iris.state = .settling ∧ s.ldu.iris.timer.isSome = true ∧
        s.ldu.iris.pp = some 7 ∧ s.ldu.iris.target = some 7 ∧
        s.ldu.pendingIris = some { value := 7, writer := .csq } ∧ s.csq.state = .waitIris ∧
        s.csq.capture = some (shooting .mechanical 0 (some (hand false false)) (programOf 0)) ∧
        s.stu.state = state ∧ s.stu.yaw.target = target ∧ s.stu.pitch.target = 0) ∧
    (1500 : Int).natAbs ≤ resetGlobal.stroke / 2 ∧ ¬ (1501 : Int).natAbs ≤ resetGlobal.stroke / 2 := by
  decide +kernel

/-! ## Witnesses: clauses of the contexts and the card -/

/-- ContextSlots: CONTEXT-READ of the ACTIVE slot, of an AVAILABLE one and of a NESTED one. -/
theorem test_witness_ContextSlots_read :
    (∀ slot, contexts.reaches (.contextRead 1 slot) 1 contexts) ∧ (contexts.slot 0).status = .active ∧
    (contexts.slot 1).status = .available ∧ (contexts.slot 2).status = .nested ∧
    (contexts.slot 3).status = .empty := ⟨fun _ => reach rfl (by decide), rfl, rfl, rfl, rfl⟩

/-- An OPEN card of 1000 blocks, clusters of 64, a pool. -/
def supplied (pool : List Extent) : State :=
  withCsu State.reset fun c => { c with card := .opened, cdet := true, capacity := some 1000, pool := pool }

/-- StoreSettings, EXTENTS-GIVE: an extent that ends at the capacity and one beyond it; neighbours that touch and that
overlap; and one that overlaps the pool. -/
theorem test_witness_StoreSettings_refusals :
    (∀ pool es, (supplied pool).reaches (.extentsGive 1 es) 1 (supplied pool) ∧ (supplied pool).csu.card = .opened ∧
      (supplied pool).csu.cluster = 64 ∧ (supplied pool).csu.capacity.getD 0 = 1000 ∧
      (supplied pool).csu.placement = none) ∧
    (936 + 64 ≤ 1000 ∧ ¬ 937 + 64 ≤ 1000) ∧
    ((0 + 64 ≤ 64 ∨ 64 + 64 ≤ 0) ∧ ¬ (0 + 64 ≤ 63 ∨ 63 + 64 ≤ 0)) ∧
    (({ start := 32, len := 64 } : Extent) ∈ (supplied [{ start := 32, len := 64 }]).csu.pool ∧
      ¬ (32 + 64 ≤ 95 ∨ 95 + 64 ≤ 32)) :=
  ⟨fun _ _ => ⟨reach rfl (by decide), rfl, rfl, rfl, rfl⟩, by decide, by decide, List.mem_singleton.2 rfl, by decide⟩

/-- StoreSettings and PacketsLeaveInOrder, the walk: a pool short by a cluster; one that ends in an extent taken whole, and
in one taken in part; seventeen extents of a cluster each. -/
theorem test_witness_StoreSettings_walk :
    (let pool : List Extent := [{ start := 0, len := 128 }, { start := 256, len := 192 }]
     (pool.map fun e => e.len / 64).sum < 6 ∧ pool = [{ start := 0, len := 128 }] ++ { start := 256, len := 192 } :: [] ∧
       2 < 3 ∧ 5 ≤ 2 + 192 / 64) ∧
    ∀ fs left, walkPool 64 17 ((List.range 17).map fun i => { start := 128 * i, len := 64 }) = some (fs, left) →
      16 < fs.length := by
  refine ⟨by decide, fun fs left h => ?_⟩
  have h17 : (walkPool 64 17 ((List.range 17).map fun i => { start := 128 * i, len := 64 })).map
      (fun x => x.1.length) = some 17 := by decide +kernel
  rw [h] at h17
  have : fs.length = 17 := Option.some.inj h17
  omega

/-- A write exchange at cluster 0 of four, a command unanswered. -/
def commanding (c : CardCommand) (store : StoreState) (state : RecordState) : State :=
  withPbf (withCsu (writing 0 0 false 0) fun x => { x with awaiting := some c, store := store }) fun p =>
    { p with records := [picture state 65536] }

/-- WriteExchange, the card's answers: to each command of a write; with no placement; and the block fault, in each state
that holds an exchange, of a record STORING and DISCARDING. -/
theorem test_witness_WriteExchange_commands :
    (∀ c ∈ [CardCommand.blockCount 32, .writeMultiple 800, .stop], ∀ store ∈ [StoreState.writing, .paused, .disabled],
      ∀ state ∈ [RecordState.storing, .discarding],
      let s := commanding c store state
      s.csu.opening = none ∧ s.csu.awaiting = some c ∧ s.csu.exchange.map (·.first) = some 0 ∧
        s.csu.placement.map (fun p => (p.fragments, p.written)) = some ([{ start := 800, clusters := 4 }], 0) ∧
        s.csu.store = store ∧ s.csu.current = some 57 ∧ s.record 57 = some (picture state 65536)) ∧
    clusterPlace 8 [{ start := 800, clusters := 4 }] 0 = some (800, 4) ∧
    0 < clustersOf [{ start := 800, clusters := 4 }] ∧
    (let s := withCsu State.reset fun c => { c with awaiting := some .stop }
     s.csu.opening = none ∧ s.csu.awaiting = some .stop ∧ s.csu.placement = none) := by decide +kernel

/-- A store FAULTED on cluster 0 of two, a block of cluster 1 sent. -/
def faultedTwice : State :=
  withCsu (retrying .none [] []) fun c =>
    { c with fault := some { heldFault 1 .none with
        writeBacks := [{ cluster := 0, block := 800, valid := true }, { cluster := 1, block := 864, valid := true }] } }

/-- FaultRequests, two write-backs: the second flag cleared in a RETRY. -/
theorem test_witness_FaultRequests_two :
    let f := { edited 1 0 with
      writeBacks := [{ writeBack with block := 800 }, { cluster := 1, block := 864, valid := 0, relocation := none }] }
    faultedTwice.reaches (.faultReturn 1 0 f) 1 faultedTwice ∧
    (faultedTwice.csu.fault.map (·.format) = some 1 ∧ faultedTwice.csu.card = .opened ∧
      faultedTwice.record 57 = some (picture .storing 65536) ∧ faultedTwice.csu.current = some 57 ∧
      faultedTwice.csu.placement.map (fun p => (p.written, p.ahead, p.fragments)) =
        some (0, [], [{ start := 800, clusters := 2 }]) ∧
      f.writeBacks.map (fun w => (w.cluster, w.valid)) = [(0, 1), (0 + 1, 0)] ∧ faultedTwice.csu.stopBusy = false ∧
      faultedTwice.csu.awaiting ≠ some .stop ∧ 0 < clustersOf [{ start := 800, clusters := 2 }]) ∧
    fitsPool 64 [] f.writeBacks := by
  refine ⟨reach rfl (by decide), by decide +kernel, fun k w b hw hb => ?_⟩
  match k with
  | 0 | 1 => cases hw; cases hb
  | k + 2 => cases k <;> cases hw

/-- A RETRY with the second flag cleared counts cluster 1 as written at once, and passes it when cluster 0 is written. -/
theorem test_retry_ahead :
    after (.faultReturn 1 0 { edited 1 0 with
        writeBacks := [{ writeBack with block := 800 }, { cluster := 1, block := 864, valid := 0, relocation := none }] })
      faultedTwice (fun s => s.csu.placement.map fun p => (p.count, p.ahead, p.writeBacks, p.clusterWritten.count,
        p.clusterWritten.written)) = some (some (1, [1], [0], 2, 2)) := by decide +kernel

/-- A fault after a RETRY carries the repeat count of the returned record, not of the held one, plus one, up to 255 (R191). -/
theorem test_retry_repeats :
    ∀ p ∈ [(7, 8), (255, 255)],
      after (.faultReturn 1 0 { edited 1 0 with repeats := p.1 }) (retrying .none [] [])
        (fun s => ((s.blockFault 0 0 .timeout).csu.fault).map (·.repeats)) = some (some p.2) := by decide +kernel

/-- A ZOOM whose focus, its step carried past a RESTART, loses it while the zoom energizes ends at once, TERMINATED,
LOST_STEP (R35). -/
theorem test_lost_past_restart :
    after (.axisStepComplete .focus low) (withAxis (zooming .energizing .moving 400) .focus fun r => { r with after := .hold })
      (fun s => (s.opt.table, s.opt.outbox.filterMap fun n => match n with | .ending e => some (e.tag, e.cls, e.cause) | _ => none))
      = some ([], [(7, .terminated, .lostStep)]) := by decide +kernel

/-- A SHOOT that preempted SCAN 7 claims the focus when that SCAN ends, a MOVE holding the zoom (R96, R146). -/
theorem test_focus_claimed :
    let s := withAxis (stepping 43 true) .zoom fun r => { r with owner := some (.op .move 8) }
    let c := { shooting .mechanical 0 none (programOf 0) with preempting := some 7 }
    after (.axisStepComplete .focus low) { s with csq := { s.csq with state := .preparing, capture := some c } }
      (fun t => (t.ldu.focus.owner, t.csq.capture.map (·.preempting))) =
      some (some (.capture .shoot), some (some 8)) := by decide +kernel

/-! ## Witnesses: frame starts, and a RESTART after the id counter has wrapped -/

/-- A closed record with no offer, no scan, no lock, and X_current at `x`; the iris at step 10. -/
def metered (x : Option Int) (f : AxisRec → AxisRec) : State :=
  let s := withAxis (lensAt 200 500 10) .iris f
  { s with fmn := { s.fmn with ring := [caseRecord 5 none false] }, exc := { s.exc with x := x } }

/-- The state with the entry of its next frame start in the ring, and `clamp` last sent. -/
def issued (clamp : Clamp) (s : State) : State :=
  { s with exc := { s.exc with ring := s.frameStart.exc.ring, sent := clamp } }

/-- The iris target of the split at the next frame start. -/
def irisGoal (s : State) (x : Int) : Nat := ((s.openFrame.split s.otb.glob.tvMaxElectronic x).av - s.avLow).toNat

/-- FrameStartAdvances: the two states that issue nothing; a held lock, X_current, the start value; each state of the iris,
its target where it stands and elsewhere; a setting that differs, one that is the newest, with the clamp sent and not. -/
theorem test_witness_FrameStartAdvances :
    (State.reset.excState = .waitLens ∧
      { State.reset with pcs := { State.reset.pcs with slots := [{ resetSlot .active with kind := .review }] } }.excState =
        .suspended) ∧
    (let s := metered (some 302) id
     let t := { s with exc := { s.exc with lock := .held 302 } }
     t.excState = .locked ∧ t.exc.lock = .held 302 ∧ t.exc.ring = []) ∧
    ((metered none id).excState = .noResult ∧ (metered (some 302) id).excState = .running) ∧
    (∀ x : Int, ∀ f, (metered (some x) f).fmn.ring.getLast? = some (caseRecord 5 none false) ∧
      (metered (some x) f).fsu.scan = none ∧ (metered (some x) f).csq.state ≠ .interval) ∧
    (irisGoal (metered (some 302) id) 302 ≠ 10 ∧
      (metered (some 302) fun r => { r with pp := some (irisGoal (metered (some 302) id) 302) }).ldu.iris.pp =
        some (irisGoal (metered (some 302) id) 302)) ∧
    (∀ state : AxisState, (metered (some 302) (resting state none)).ldu.iris.state = state ∧
      (metered (some 302) (resting state none)).excState = .running ∧
      (metered (some 302) (resting state none)).ldu.iris.homing = .none ∧
      (metered (some 302) (resting state none)).ldu.iris.setup.energize ≠ 0 ∧
      (metered (some 302) (resting state none)).ldu.waitList = []) ∧
    (metered (some 302) (resting .held none)).slotHolders = [] ∧
    (let s := withAxis (withAxis (metered (some 302) (resting .awaitingSlot none)) .zoom (resting .moving none)) .focus
      (resting .moving none)
     2 ≤ s.slotHolders.length) ∧
    (metered (some 302) byAnother).ldu.iris.owner ≠ none ∧
    (let s := issued .none (metered (some 302) id)
     s.exc.ring.length = 1 ∧ s.exc.clamp = s.exc.sent ∧ s.frameStart.exc.ring = s.exc.ring) ∧
    (let s := issued (.over 5) (metered (some 302) id)
     s.exc.clamp ≠ s.exc.sent ∧ s.frameStart.exc.ring = s.exc.ring) := by
  refine ⟨by decide +kernel, by decide +kernel, by decide +kernel, fun _ _ => ⟨rfl, rfl, nofun⟩, by decide +kernel,
    fun state => ?_, ?_⟩
  · cases state <;> decide +kernel
  · decide +kernel

/-- In RUNNING a frame start overwrites the EXPOSURE that waits and writes the split's iris target (R15, R84, R87). -/
theorem test_frame_overwrites :
    let s := metered (some 302) (resting .moving none)
    let old := Notice.exposure 9 1 2 3 4 .none
    after .frameStart { s with opt := { s.opt with outbox := [old, .ready .restart] } }
      (fun t => (t.opt.outbox.map isExposure, t.opt.outbox.contains old,
        t.ldu.pendingIris.map (·.value) == some (irisGoal s 302))) = some ([true, false], false, true) := by decide +kernel

/-- A RESTART frees the RESERVED record 57 by its state and keeps an older COMPLETE record of that id (R170). -/
theorem test_restart_by_state :
    let old := { picture .complete 65536 with reserved := [], pages := [2] }
    let s := withPbf State.reset fun p => { p with records := [old, { picture .reserved 0 with pages := [] }] }
    s.restartPbf.pbf.records = [old] ∧ s.restartPbf.pbf.freePages = s.pbf.freePages ++ [1] := by decide +kernel

end Sys2Proof.Tests
end

section
/-! The part's logarithm LG (R2): its value by the index of the argument's highest set bit. -/

namespace Sys2Proof.Proofs.Logarithm

open Sys2Proof Sys2Proof.Machine

/-- The argument 0 is taken as 1 (R2). -/
theorem lg_zero : lg 0 = lg 1 := rfl

/-- LG where `m` is the index of the highest set bit of `x` (R2): `Nat.log2` is that index, because the bounds on `x`
fix it, and they leave no room for `x = 0`. -/
theorem lg_eq_of_highest_bit {x m : Nat} (lower : 2 ^ m ≤ x) (upper : x < 2 ^ (m + 1)) :
    lg x = 32 * m + 32 * (x - 2 ^ m) / 2 ^ m := by
  have positive : 1 ≤ x := Nat.one_le_two_pow.trans lower
  have index : Nat.log2 x = m := (Nat.log2_eq_iff (by omega)).mpr ⟨lower, upper⟩
  simp only [lg, Nat.max_eq_left positive, index]

/-- Settles O24: the rule's formula is `lg_eq_of_highest_bit`, and each value of its table is that formula at the
argument's highest set bit. -/
theorem logarithmValue : Obligations.LogarithmValue :=
  ⟨lg_zero, fun _ _ _ lower upper => lg_eq_of_highest_bit lower upper,
    lg_eq_of_highest_bit (m := 0) (by decide) (by decide),
    lg_eq_of_highest_bit (m := 4) (by decide) (by decide),
    lg_eq_of_highest_bit (m := 8) (by decide) (by decide),
    lg_eq_of_highest_bit (m := 9) (by decide) (by decide),
    lg_eq_of_highest_bit (m := 10) (by decide) (by decide)⟩

end Sys2Proof.Proofs.Logarithm
end

section
/-! The figure V of a frame record (R94): a sum over the windows of a scan's mask, and its range. -/

namespace Sys2Proof.Proofs.FocusFigure

open Sys2Proof Sys2Proof.Machine

/-- A record has the five windows 0 to 4 (R94). -/
theorem windowValues_eq (mask : Nat) (contrasts : List Nat) :
    windowValues mask contrasts =
      ([0, 1, 2, 3, 4].filter fun w => mask.testBit w).map fun w => (w, contrasts.getD w 0) := rfl

/-- Leaving a window out of the mask is the same to the figure as counting it with the value 0. -/
theorem figure_windowValues (mask : Nat) (contrasts : List Nat) :
    figure (windowValues mask contrasts) =
      ([0, 1, 2, 3, 4].map fun w => if mask.testBit w then contrasts.getD w 0 else 0).sum := by
  rw [List.sum_map_ite, windowValues_eq, figure, List.map_map]
  simp [Function.comp_def]

/-- A window without a value reads as 0, so a bound on a record's values bounds every window. -/
theorem getD_zero_le {contrasts : List Nat} {bound : Nat} (bounded : ∀ v ∈ contrasts, v ≤ bound) (w : Nat) :
    contrasts.getD w 0 ≤ bound := by
  rcases Nat.lt_or_ge w contrasts.length with inside | outside
  · rw [List.getD_eq_getElem _ _ inside]
    exact bounded _ (List.getElem_mem inside)
  · rw [List.getD_eq_default _ _ outside]
    exact Nat.zero_le bound

/-- Whatever the mask, the figure is at most five times a bound on the record's values. -/
theorem figure_windowValues_le {contrasts : List Nat} {bound : Nat} (bounded : ∀ v ∈ contrasts, v ≤ bound)
    (mask : Nat) : figure (windowValues mask contrasts) ≤ 5 * bound := by
  rw [figure_windowValues]
  refine List.sum_le_card_nsmul _ bound fun v present => ?_
  obtain ⟨w, -, rfl⟩ := List.mem_map.mp present
  split
  · exact getD_zero_le bounded w
  · exact Nat.zero_le bound

/-- Settles O30: a value of three bytes is at most 16,777,215, and 5 · 16,777,215 = 83,886,075. -/
theorem figureOfRecord : Obligations.FigureOfRecord := fun mask contrasts =>
  ⟨windowValues_eq mask contrasts, figure_windowValues mask contrasts, fun threeBytes =>
    figure_windowValues_le (bound := 16777215) (fun v present => Nat.le_of_lt_succ (threeBytes v present)) mask⟩

end Sys2Proof.Proofs.FocusFigure
end

section
/-! PROGRAM-LIMIT (R130): its decision on each side of the largest limit, 16, and the descriptors its reply counts. -/

namespace Sys2Proof.Proofs.ProgramLimit

open Sys2Proof Sys2Proof.Machine

/-- A PROGRAM-LIMIT that reaches PCS is decided there. -/
theorem exec_programLimit_of_reaches {s t : State} {tag limit : Nat} (h : s.reaches (.programLimit tag limit) tag t) :
    exec (.programLimit tag limit) s = .next (t.programLimit tag limit) :=
  congrArg Host.Outcome.next (State.onRequest_reaches h _)

/-- The descriptors a reply counts are the present ones below the limit in force. -/
theorem presentPrograms_eq_countP (s : State) :
    s.presentPrograms = (s.pcs.programs.take s.pcs.limit).countP (·.isSome) :=
  List.countP_eq_length_filter.symm

/-- A limit above 16 is refused (R130). -/
theorem programLimit_of_gt {limit : Nat} (above : 16 < limit) (t : State) (tag : Nat) :
    t.programLimit tag limit = t.reply tag (.refused .field 0) :=
  if_pos above

/-- A limit of 16 or less is taken, and the reply counts below the new limit, not below the one it replaces (R130). -/
theorem programLimit_of_le {limit : Nat} (within : limit ≤ 16) (t : State) (tag : Nat) :
    t.programLimit tag limit =
      State.reply { t with pcs := { t.pcs with limit := limit } } tag
        (.done (byteOf limit :: put2 ((t.pcs.programs.take limit).countP (·.isSome)))) := by
  simp only [State.programLimit, if_neg within.not_gt, presentPrograms_eq_countP, State.done, put1,
    List.singleton_append]

/-- Settles O38, by the two sides of the largest limit: `programLimit_of_gt` and `programLimit_of_le`. -/
theorem programLimitTaken : Obligations.ProgramLimitTaken := fun tag _ _ t reaches =>
  ⟨fun above => (exec_programLimit_of_reaches reaches).trans (congrArg _ (programLimit_of_gt above t tag)),
    fun within => (exec_programLimit_of_reaches reaches).trans (congrArg _ (programLimit_of_le within t tag))⟩

end Sys2Proof.Proofs.ProgramLimit
end

section
/-! What every step keeps. The four soundness predicates of a state, taken together as one element of a product of
propositions: an operation keeps them when the state before stands below the state after. Each operation of the model
has one rule `…_sound`, in the form in which rules chain: what lies below the state lies below the state after it. -/

namespace Sys2Proof.Proofs.Soundness

open Sys2Proof Sys2Proof.Machine

-- one declaration after another: each unfolds operations whose equations another would be waiting for
set_option Elab.async false

/-- Picture memory in its form, each page in one place, at most eight operations tracked, at most two axes stepping. -/
def soundness (s : State) : Prop × Prop × Prop × Prop :=
  (s.memorySound, s.pagesSound, s.trackedSound, s.slotsSound)

/-! ## Changes of one block -/

/-- The four predicates, one after the other. -/
theorem soundness_mono {s t : State} (memory : s.memorySound → t.memorySound) (pages : s.pagesSound → t.pagesSound)
    (tracked : s.trackedSound → t.trackedSound) (slots : s.slotsSound → t.slotsSound) : soundness s ≤ soundness t :=
  ⟨memory, pages, tracked, slots⟩

/-- A change that writes no byte of picture memory, moves pages without loss, tracks at most up to eight operations and
lets at most two axes step keeps a state sound. -/
theorem soundness_le {s t : State} (memory : t.pbf.memory = s.pbf.memory) (pages : t.pages.Perm s.pages)
    (tracked : t.tracked ≤ max 8 s.tracked) (slots : t.slotHolders.length ≤ max 2 s.slotHolders.length) :
    soundness s ≤ soundness t := by
  refine soundness_mono (fun hm => ?_) (fun hp => pages.trans hp) (fun hk => ?_) (fun hl => ?_)
  · change Memory.wf t.pbf.memory = true
    rwa [memory]
  · exact tracked.trans (max_le le_rfl hk)
  · exact slots.trans (max_le le_rfl hl)

theorem pages_congr {s t : State} (pbf : t.pbf = s.pbf) : t.pages = s.pages := by simp only [State.pages, pbf]

theorem tracked_congr {s t : State} (opt : t.opt = s.opt) (tx : t.lif.tx = s.lif.tx) : t.tracked = s.tracked := by
  simp only [State.tracked_eq, opt, tx]

theorem slotHolders_congr {s t : State} (ldu : t.ldu = s.ldu) : t.slotHolders = s.slotHolders := by
  simp only [State.slotHolders_eq, ldu]

variable {r : Prop × Prop × Prop × Prop} {s t : State}

/-- A change outside OPT, LDU, PBF and the transmission. -/
theorem sound_of_frame (h : r ≤ soundness s) (pbf : t.pbf = s.pbf) (opt : t.opt = s.opt) (ldu : t.ldu = s.ldu)
    (tx : t.lif.tx = s.lif.tx) : r ≤ soundness t :=
  h.trans <| soundness_le (by rw [pbf]) (.of_eq (pages_congr pbf)) (by simp [tracked_congr opt tx])
    (by simp [slotHolders_congr ldu])

/-- A change of OPT and the link alone. -/
theorem sound_of_opt (h : r ≤ soundness s) (pbf : t.pbf = s.pbf) (ldu : t.ldu = s.ldu)
    (tracked : t.tracked ≤ max 8 s.tracked) : r ≤ soundness t :=
  h.trans <| soundness_le (by rw [pbf]) (.of_eq (pages_congr pbf)) tracked (by simp [slotHolders_congr ldu])

/-- A change of LDU alone. -/
theorem sound_of_ldu (h : r ≤ soundness s) (pbf : t.pbf = s.pbf) (opt : t.opt = s.opt) (lif : t.lif = s.lif)
    (slots : t.slotHolders.length ≤ max 2 s.slotHolders.length) : r ≤ soundness t :=
  h.trans <| soundness_le (by rw [pbf]) (.of_eq (pages_congr pbf)) (by simp [tracked_congr opt (congrArg _ lif)]) slots

/-- A change of PBF alone that moves pages without loss. -/
theorem sound_of_pbf (h : r ≤ soundness s) (memory : t.pbf.memory = s.pbf.memory) (pages : t.pages.Perm s.pages)
    (opt : t.opt = s.opt) (ldu : t.ldu = s.ldu) (lif : t.lif = s.lif) : r ≤ soundness t :=
  h.trans <| soundness_le memory pages (by simp [tracked_congr opt (congrArg _ lif)]) (by simp [slotHolders_congr ldu])

/-- A record update outside OPT, LDU, PBF and LIF. -/
@[bound] theorem update_sound (h : r ≤ soundness s) (pending : List Instr) (freeCount : Nat) (otb : Otb) (fmn : Fmn)
    (exc : Exc) (fsu : Fsu) (stu : Stu) (pcs : Pcs) (csq : Csq) (csu : Csu) :
    r ≤ soundness { s with
      pending := pending, freeCount := freeCount, otb := otb, fmn := fmn, exc := exc, fsu := fsu, stu := stu,
      pcs := pcs, csq := csq, csu := csu } := h

/-- A record update of LDU that leaves the three axes. -/
@[bound] theorem updateLdu_sound (h : r ≤ soundness s) (d : Nat) (waitList : List Axis) (pendingIris : Option IrisTarget)
    (irisWriter : Option Writer) (flags : RefFlags) (ops : List LensOp) :
    r ≤ soundness { s with ldu := { s.ldu with
      d := d, waitList := waitList, pendingIris := pendingIris, irisWriter := irisWriter, flags := flags,
      ops := ops } } := h

/-! ## Replies, notices and the operation table -/

@[bound] theorem done_sound (h : r ≤ soundness s) (tag : Nat) (p : List Byte) : r ≤ soundness (s.done tag p) := h

@[bound] theorem refuse_sound (h : r ≤ soundness s) (tag : Nat) (c : Code) (d : Nat) :
    r ≤ soundness (s.refuse tag c d) := h

@[bound] theorem drawFree_sound (h : r ≤ soundness s) : r ≤ soundness s.drawFree := h

/-- A notice that is no ENDING tracks no operation. -/
theorem place_sound (h : r ≤ soundness s) {n : Notice} (other : outboxEndings [n] = []) :
    r ≤ soundness (s.place n) := by
  have outbox : outboxEndings (s.opt.outbox ++ [n]) = outboxEndings s.opt.outbox := by
    rw [outboxEndings, List.filterMap_append]
    exact (congrArg _ other).trans (List.append_nil _)
  refine sound_of_opt h rfl rfl (le_max_of_le_right (le_of_eq ?_))
  simp only [State.tracked_eq, State.place, outbox]

@[bound] theorem attention_sound (h : r ≤ soundness s) (source : Source) (c : Condition) (d : Nat) :
    r ≤ soundness (s.attention source c d) :=
  sound_of_opt h (by simp) (by simp) (by simp)

@[bound] theorem updateEntry_sound (h : r ≤ soundness s) (tag : Nat) (f : OpEntry → OpEntry) :
    r ≤ soundness (s.updateEntry tag f) :=
  sound_of_opt h (by simp) (by simp) (by simp)

@[bound] theorem beginUnit_sound (h : r ≤ soundness s) (tag : Nat) : r ≤ soundness (s.beginUnit tag) :=
  updateEntry_sound h _ _

@[bound] theorem countUnit_sound (h : r ≤ soundness s) (tag : Nat) : r ≤ soundness (s.countUnit tag) :=
  updateEntry_sound h _ _

@[bound] theorem markStopping_sound (h : r ≤ soundness s) (tag : Nat) (c : StopCause) :
    r ≤ soundness (s.markStopping tag c) :=
  updateEntry_sound h _ _

/-- An ENDING that joins the outbox is one more tag tracked. -/
theorem outboxEndings_ending (l : List Notice) (e : Ending) :
    (outboxEndings (l ++ [.ending e])).length = (outboxEndings l).length + 1 := by
  rw [outboxEndings, List.filterMap_append, List.length_append]; rfl

/-- An ending takes its entry out of the table and tracks it in the outbox (R6). -/
theorem ending_tracked (s : State) (tag : Nat) (cls : EndClass) (cause : Cause) (resume : Resume) (result : Option Nat)
    (fields : EndFields) : (s.ending tag cls cause resume result fields).tracked ≤ s.tracked := by
  rcases found : s.entry tag with _ | e
  · rw [State.ending_noEntry found]
  · have gone : (s.opt.table.filter fun f => f.tag != tag).length < s.opt.table.length := by
      refine List.length_filter_lt_length_iff_exists.mpr ⟨e, List.mem_of_find?_eq_some found, ?_⟩
      simpa using List.find?_some found
    rw [State.ending_entry found]
    simp only [State.tracked_eq, State.place, State.removeEntry, outboxEndings_ending]
    omega

@[bound] theorem ending_sound (h : r ≤ soundness s) (tag : Nat) (cls : EndClass) (cause : Cause) (resume : Resume)
    (result : Option Nat) (fields : EndFields) : r ≤ soundness (s.ending tag cls cause resume result fields) :=
  sound_of_opt h (by simp) (by simp) (le_max_of_le_right (ending_tracked ..))

/-- A long request is entered where fewer than eight operations are tracked (R4). -/
theorem accept_sound (h : r ≤ soundness s) (tag : Nat) (kind : OpKind) (state : OpState) (planned : Option Nat)
    {begin_ : State → State} (hb : ∀ t, r ≤ soundness t → r ≤ soundness (begin_ t)) :
    r ≤ soundness (s.accept tag kind state planned begin_) := by
  rcases refused : s.trackerRefusal tag with _ | ⟨code, detail⟩
  · have room : s.tracked < 8 := State.hasRoom_tracked refused
    rw [State.accept_room refused]
    refine hb _ (sound_of_opt h rfl rfl (le_max_of_le_left ?_))
    simp only [State.tracked_eq, State.accepted_table, List.length_append, List.length_singleton] at room ⊢
    exact (by omega : ∀ {a b : Nat}, a + b < 8 → a + 1 + b ≤ 8) room
  · rw [State.accept_refused refused]
    exact refuse_sound (drawFree_sound h) _ _ _

/-! ## Handing -/

theorem onRequest_sound (h : r ≤ soundness s) (c : Instr) (tag : Nat) {f : State → State}
    (hf : ∀ t, r ≤ soundness t → r ≤ soundness (f t)) : r ≤ soundness (s.onRequest c tag f) := by
  have taken : ∀ t, s.takeHanded c = some t → r ≤ soundness t := fun t ht => by
    obtain ⟨l, rfl⟩ := State.takeHanded_frame ht
    exact h
  exact State.onRequest_holds (P := fun u => r ≤ soundness u) h (fun t ht => refuse_sound (taken t ht) _ _ _) (fun t ht => hf t (taken t ht))

theorem onFeed_sound (h : r ≤ soundness s) (c : Instr) {f : State → State}
    (hf : ∀ t, r ≤ soundness t → r ≤ soundness (f t)) : r ≤ soundness (s.onFeed c f) := by
  rcases ht : s.takeHanded c with _ | t
  · rwa [State.onFeed_notTaken ht]
  · rw [State.onFeed_taken ht]
    obtain ⟨l, rfl⟩ := State.takeHanded_frame ht
    exact hf _ h

/-! ## Operations outside the four blocks -/

@[bound] theorem referenceLost_sound (h : r ≤ soundness s) (a : Axis) : r ≤ soundness (s.referenceLost a) :=
  sound_of_frame h (by simp) (by simp) (by simp) (by simp)

@[bound] theorem geometryLost_sound (h : r ≤ soundness s) : r ≤ soundness s.geometryLost :=
  sound_of_frame h (by simp) (by simp) (by simp) (by simp)

@[bound] theorem excFound_sound (h : r ≤ soundness s) : r ≤ soundness s.excFound :=
  sound_of_frame h (by simp) (by simp) (by simp) (by simp)

@[bound] theorem reportStep_sound (h : r ≤ soundness s) (a : Axis) : r ≤ soundness (s.reportStep a) :=
  sound_of_frame h (by simp) (by simp) (by simp) (by simp)

@[bound] theorem excOffer_sound (h : r ≤ soundness s) (f : FrameRec) : r ≤ soundness (s.excOffer f).1 :=
  sound_of_frame h (by simp) (by simp) (by simp) (by simp)

@[bound] theorem requestLock_sound (h : r ≤ soundness s) : r ≤ soundness s.requestLock.1 :=
  sound_of_frame h (by simp) (by simp) (by simp) (by simp)

@[bound] theorem deriveStu_sound (h : r ≤ soundness s) : r ≤ soundness s.deriveStu :=
  sound_of_frame h (by simp) (by simp) (by simp) (by simp)

@[bound] theorem setWindow_sound (h : r ≤ soundness s) (b : Bool) : r ≤ soundness (s.setWindow b) :=
  sound_of_frame h (by simp) (by simp) (by simp) (by simp)

@[bound] theorem setOffset_sound (h : r ≤ soundness s) (y p : Int) : r ≤ soundness (s.setOffset y p) :=
  sound_of_frame h (by simp) (by simp) (by simp) (by simp)

@[bound] theorem integrateStage_sound (h : r ≤ soundness s) (x : Sample) : r ≤ soundness (s.integrateStage x) :=
  sound_of_frame h (by simp) (by simp) (by simp) (by simp)

@[bound] theorem recentre_sound (h : r ≤ soundness s) : r ≤ soundness s.recentre.1 :=
  sound_of_frame h (by simp) (by simp) (by simp) (by simp)

@[bound] theorem checkCentred_sound (h : r ≤ soundness s) : r ≤ soundness s.checkCentred.1 :=
  sound_of_frame h (by simp) (by simp) (by simp) (by simp)

@[bound] theorem loadContext_sound (h : r ≤ soundness s) (c : Slot) : r ≤ soundness (s.loadContext c) := by
  have loaded : r ≤ soundness (s.loadExc c) := sound_of_frame h (by simp) (by simp) (by simp) (by simp)
  have read : r ≤ soundness { s.loadExc c with
      fsu := { (s.loadExc c).fsu with live := c.af }, ldu := { (s.loadExc c).ldu with d := c.d } } := loaded
  exact sound_of_frame read (by simp [State.loadContext]) (by simp [State.loadContext]) (by simp [State.loadContext])
    (by simp [State.loadContext])

@[bound] theorem setScan_sound (h : r ≤ soundness s) (c : Option Scan) : r ≤ soundness (s.setScan c) := h

@[bound] theorem scanLost_sound (h : r ≤ soundness s) (c : Scan) : r ≤ soundness (s.scanLost c).1 :=
  sound_of_frame h (by simp) (by simp) (by simp) (by simp)

@[bound] theorem enterFrameWait_sound (h : r ≤ soundness s) (c : Scan) : r ≤ soundness (s.enterFrameWait c) := h

@[bound] theorem finishScan_sound (h : r ≤ soundness s) (c : Scan) (k : EndClass) (u : Cause) (x : Option ScanResult)
    (w n : Option Nat) : r ≤ soundness (s.finishScan c k u x w n).1 := h

@[bound] theorem recomputeD_sound (h : r ≤ soundness s) : r ≤ soundness s.recomputeD := h

@[bound] theorem infinityStep_sound (h : r ≤ soundness s) : r ≤ soundness s.infinityStep.1 :=
  sound_of_frame h (by simp) (by simp) (by simp) (by simp)

@[bound] theorem setCsq_sound (h : r ≤ soundness s) (x : CsqState) : r ≤ soundness (s.setCsq x) := h

@[bound] theorem onCapture_sound (h : r ≤ soundness s) (f : Capture → Capture) : r ≤ soundness (s.onCapture f) := h

@[bound] theorem recordFailure_sound (h : r ≤ soundness s) (k : EndClass) (u : Cause) :
    r ≤ soundness (s.recordFailure k u) := h

@[bound] theorem setOutcome_sound (h : r ≤ soundness s) (id : Nat) (o : PictureOutcome) :
    r ≤ soundness (s.setOutcome id o) := h

@[bound] theorem exposeSent_sound (h : r ≤ soundness s) (id : Nat) : r ≤ soundness (s.exposeSent id) := by
  unfold State.exposeSent; split <;> bound

@[bound] theorem dropHand_sound (h : r ≤ soundness s) : r ≤ soundness s.dropHand := h

@[bound] theorem setContextOp_sound (h : r ≤ soundness s) (o : Option ContextOp) :
    r ≤ soundness (s.setContextOp o) := h

@[bound] theorem onCsu_sound (h : r ≤ soundness s) (f : Csu → Csu) : r ≤ soundness (s.onCsu f) := h

@[bound] theorem placeExposure_sound (h : r ≤ soundness s) {n : Notice} (hn : isExposure n = true) :
    r ≤ soundness (s.placeExposure n) :=
  sound_of_opt h (by simp) (by simp) (by simp [hn])

end Sys2Proof.Proofs.Soundness
end

section
/-! What the lens drive keeps (R21, R25): a target, a halt or the end of a step gives no axis a slot; the arbiter gives a
free one. -/

namespace Sys2Proof.Proofs.Soundness

open Sys2Proof Sys2Proof.Machine

-- one declaration after another: each unfolds operations whose equations another would be waiting for
set_option Elab.async false

variable {r : Prop × Prop × Prop × Prop} {s t : State}

/-- A part of a pair that an equation takes apart. -/
theorem sound_of_pair {α : Type} {p : State × α} {x : α} (h : r ≤ soundness p.1) (e : p = (t, x)) :
    r ≤ soundness t := by
  subst e; exact h

/-- What every operation of a fold keeps, the fold keeps. -/
theorem foldl_sound {α : Type} {f : State → α → State} (hf : ∀ t a, r ≤ soundness t → r ≤ soundness (f t a))
    (h : r ≤ soundness s) (l : List α) : r ≤ soundness (l.foldl f s) := by
  induction l generalizing s with
  | nil => exact h
  | cons a l ih => exact ih (hf s a h)

/-! ## Axis records -/

/-- An axis that holds a stepping slot, or may take a free one (R25). -/
def mayStep (s : State) (a : Axis) : Prop := (s.axis a).stepping = true ∨ s.slotHolders.length < 2

/-- A record that steps as the old one did. -/
theorem setAxis_same_sound (h : r ≤ soundness s) {a : Axis} {q : AxisRec} (hq : q.stepping = (s.axis a).stepping) :
    r ≤ soundness (s.setAxis a q) :=
  sound_of_ldu h (by simp) (by simp) (by simp) (by simp [State.slotHolders_setAxis s a q hq])

/-- A record that does not step. -/
theorem setAxis_rest_sound (h : r ≤ soundness s) {a : Axis} {q : AxisRec} (hq : q.stepping = false) :
    r ≤ soundness (s.setAxis a q) :=
  sound_of_ldu h (by simp) (by simp) (by simp) (le_max_of_le_right (State.slotHolders_setAxis_rest s a q hq))

/-- Any record, of an axis that may step. -/
theorem setAxis_sound (h : r ≤ soundness s) {a : Axis} (may : mayStep s a) (q : AxisRec) :
    r ≤ soundness (s.setAxis a q) := by
  rcases may with steps | free
  · cases hq : q.stepping
    · exact setAxis_rest_sound h hq
    · exact setAxis_same_sound h (hq.trans steps.symm)
  · refine sound_of_ldu h (by simp) (by simp) (by simp) (le_max_of_le_left ?_)
    exact (State.slotHolders_setAxis_le s a q).trans free

@[bound] theorem setAxis_hold_sound (h : r ≤ soundness s) (a : Axis) (q : AxisRec) :
    r ≤ soundness (s.setAxis a q.hold) := setAxis_rest_sound h rfl

@[bound] theorem setAxis_settle_sound (h : r ≤ soundness s) (a : Axis) (q : AxisRec) :
    r ≤ soundness (s.setAxis a q.settle) := setAxis_rest_sound h rfl

@[bound] theorem setAxis_owner_sound (h : r ≤ soundness s) (a : Axis) (o : Option Owner) :
    r ≤ soundness (s.setAxis a { s.axis a with owner := o }) := setAxis_same_sound h rfl

@[bound] theorem joinWait_sound (h : r ≤ soundness s) (a : Axis) (q : AxisRec) : r ≤ soundness (s.joinWait a q) :=
  updateLdu_sound (setAxis_rest_sound h rfl) _ _ _ _ _ _

@[bound] theorem energizeAxis_sound (h : r ≤ soundness s) (a : Axis) (q : AxisRec) :
    r ≤ soundness (s.energizeAxis a q) := by
  unfold State.energizeAxis
  split
  · bound
  · exact setAxis_rest_sound h rfl

/-- A target gives no axis a slot (R21). -/
@[bound] theorem giveTarget_sound (h : r ≤ soundness s) (a : Axis) (v : Nat) : r ≤ soundness (s.giveTarget a v).1 := by
  have same : ∀ q : AxisRec, q.state = (s.axis a).state → r ≤ soundness (s.setAxis a q) := fun q hq =>
    setAxis_same_sound h (by simp [AxisRec.stepping, hq])
  unfold State.giveTarget
  dsimp only
  (repeat' split) <;> dsimp only <;> first | exact same _ rfl | bound

/-- A halt gives no axis a slot (R21). -/
@[bound] theorem haltAxis_sound (h : r ≤ soundness s) (a : Axis) : r ≤ soundness (s.haltAxis a) := by
  have same : ∀ q : AxisRec, q.state = (s.axis a).state → r ≤ soundness (s.setAxis a q) := fun q hq =>
    setAxis_same_sound h (by simp [AxisRec.stepping, hq])
  unfold State.haltAxis
  dsimp only
  split <;> first | exact same _ rfl | bound

/-! ## Steps and slots -/

theorem beginStep_sound (h : r ≤ soundness s) {a : Axis} (may : mayStep s a) : r ≤ soundness (s.beginStep a) :=
  setAxis_sound h may _

theorem beginHoming_sound (h : r ≤ soundness s) {a : Axis} (may : mayStep s a) : r ≤ soundness (s.beginHoming a) := by
  have begun : ∀ q : AxisRec, r ≤ soundness ((s.setAxis a q).referenceLost a) := fun q =>
    referenceLost_sound (setAxis_sound h may q) a
  unfold State.beginHoming
  dsimp only
  split
  · exact beginUnit_sound (begun _) _
  · exact begun _

@[bound] theorem followPoint_sound (h : r ≤ soundness s) : r ≤ soundness s.followPoint := giveTarget_sound h _ _

/-- A grant gives one slot (R25). -/
theorem granted_sound (h : r ≤ soundness s) {a : Axis} (may : mayStep s a) : r ≤ soundness (s.granted a) := by
  have begun := beginStep_sound h may
  unfold State.granted
  dsimp only
  split
  · exact beginHoming_sound h may
  · (repeat' split) <;> bound

@[bound] theorem grantOne_sound (h : r ≤ soundness s) : r ≤ soundness s.grantOne := by
  unfold State.grantOne
  split
  · exact h
  · split
    · rename_i free
      exact granted_sound (updateLdu_sound h _ _ _ _ _ _) (.inr free)
    · exact h

@[bound] theorem arbitrate_sound (h : r ≤ soundness s) : r ≤ soundness s.arbitrate :=
  grantOne_sound (grantOne_sound h)

/-! ## The pending iris target and the claims -/

@[bound] theorem actIris_sound (h : r ≤ soundness s) : r ≤ soundness s.actIris.1 := by
  unfold State.actIris
  split
  · exact h
  · rename_i target _
    split
    · exact h
    · have given := giveTarget_sound h .iris target.value
      split
      all_goals
        rename_i e
        have := sound_of_pair given e
        bound

@[bound] theorem writeIris_sound (h : r ≤ soundness s) (v : Nat) (w : Writer) : r ≤ soundness (s.writeIris v w).1 :=
  arbitrate_sound (s := (State.actIris { s with ldu := { s.ldu with pendingIris := some _ } }).1)
    (actIris_sound (updateLdu_sound h _ _ _ _ _ _))

@[bound] theorem discardIris_sound (h : r ≤ soundness s) : r ≤ soundness s.discardIris := h

@[bound] theorem claim_sound (h : r ≤ soundness s) (axes : List Axis) (o : Owner) : r ≤ soundness (s.claim axes o) :=
  foldl_sound (fun _ _ ht => setAxis_owner_sound ht _ _) h axes

@[bound] theorem release_sound (h : r ≤ soundness s) (axes : List Axis) : r ≤ soundness (s.release axes) := by
  have freed : r ≤ soundness (axes.foldl (fun t a => t.setAxis a { t.axis a with owner := none }) s) :=
    foldl_sound (fun _ _ ht => setAxis_owner_sound ht _ _) h axes
  unfold State.release
  dsimp only
  split <;> bound

/-! ## Lens operations -/

@[bound] theorem setBody_sound (h : r ≤ soundness s) (tag : Nat) (f : LensBody → LensBody) :
    r ≤ soundness (s.setBody tag f) := h

@[bound] theorem markPart_sound (h : r ≤ soundness s) (a : Axis) (p : HomePart) : r ≤ soundness (s.markPart a p) := by
  unfold State.markPart
  split <;> bound

@[bound] theorem endLensOp_sound (h : r ≤ soundness s) (o : LensOp) : r ≤ soundness (s.endLensOp o) := by
  have ended : ∀ (t : State) cls cause resume fields, r ≤ soundness t → r ≤ soundness
      { (t.ending o.tag cls cause resume none fields) with
          ldu := { (t.ending o.tag cls cause resume none fields).ldu with
            ops := (t.ending o.tag cls cause resume none fields).ldu.ops.filter fun p => p.tag != o.tag } } :=
    fun t cls cause resume fields ht => updateLdu_sound (ending_sound ht o.tag cls cause resume none fields) _ _ _ _ _ _
  unfold State.endLensOp
  dsimp only
  refine release_sound (ended _ _ _ _ _ ?_) _
  (repeat' split) <;> exact h

@[bound] theorem checkLensEnd_sound (h : r ≤ soundness s) (tag : Nat) : r ≤ soundness (s.checkLensEnd tag) := by
  unfold State.checkLensEnd
  (repeat' split) <;> bound

@[bound] theorem addLensOp_sound (h : r ≤ soundness s) (tag : Nat) (k : OpKind) (b : LensBody) :
    r ≤ soundness (s.addLensOp tag k b) := claim_sound (updateLdu_sound h _ _ _ _ _ _) _ _

@[bound] theorem foldl_haltAxis_sound (h : r ≤ soundness s) (axes : List Axis) :
    r ≤ soundness (axes.foldl (fun t a => t.haltAxis a) s) :=
  foldl_sound (fun _ _ ht => haltAxis_sound ht _) h axes

@[bound] theorem stopLensOp_sound (h : r ≤ soundness s) (tag : Nat) (w : Bool) :
    r ≤ soundness (s.stopLensOp tag w) := by
  unfold State.stopLensOp
  split <;> bound

/-! ## A completed step -/

@[bound] theorem lensLost_sound (h : r ≤ soundness s) (a : Axis) : r ≤ soundness (s.lensLost a) := by
  have others : ∀ (t : State) (axes : List Axis), r ≤ soundness t →
      r ≤ soundness (axes.foldl (fun u b => if b = a then u else u.haltAxis b) t) := fun t axes ht =>
    foldl_sound (fun u b hu => by split <;> bound) ht axes
  unfold State.lensLost
  dsimp only
  split
  · exact others _ _ (setBody_sound h _ _)
  · exact others _ _ (setBody_sound h _ _)
  · exact h

@[bound] theorem loseStep_sound (h : r ≤ soundness s) (a : Axis) (p : Nat) : r ≤ soundness (s.loseStep a p) := by
  unfold State.loseStep
  dsimp only
  refine lensLost_sound (markPart_sound (referenceLost_sound ?_ _) _ _) _
  (repeat' split) <;> bound

@[bound] theorem countLens_sound (h : r ≤ soundness s) (tag : Nat) : r ≤ soundness (s.countLens tag) := by
  unfold State.countLens
  split <;> bound

@[bound] theorem countStep_sound (h : r ≤ soundness s) (a : Axis) : r ≤ soundness (s.countStep a) := by
  unfold State.countStep
  (repeat' split) <;> bound

/-- Counting a unit leaves the axes as they are. -/
theorem mayStep_countStep {a : Axis} (may : (s.axis a).stepping = true) (b : Axis) :
    mayStep (s.countStep b) a := by
  refine .inl ?_
  have ldu : (s.countStep b).ldu = s.ldu := (State.countStep_frame s b).2.2.1
  cases a <;> simpa only [State.axis, ldu] using may

theorem afterStep_sound (h : r ≤ soundness s) {a : Axis} (may : mayStep s a) : r ≤ soundness (s.afterStep a) := by
  have begun := beginStep_sound h may
  unfold State.afterStep
  dsimp only
  split
  · bound
  · refine setAxis_rest_sound ?_ rfl
    split <;> bound
  · split
    · refine setAxis_rest_sound ?_ rfl
      split <;> bound
    · exact begun

/-- A step that completes leaves its axis at most the slot it held. -/
theorem moveStep_sound (h : r ≤ soundness s) {a : Axis} (steps : (s.axis a).stepping = true) :
    r ≤ soundness (s.moveStep a).1 := by
  have moved : ∀ q : AxisRec, r ≤ soundness ((s.reportStep a).setAxis a q) := fun q => by
    refine setAxis_sound (reportStep_sound h a) (.inl ?_) q
    have ldu : (s.reportStep a).ldu = s.ldu := by simp
    cases a <;> simpa only [State.axis, ldu] using steps
  have stepping : ∀ p : Option Nat, (((s.reportStep a).setAxis a { s.axis a with pp := p }).axis a).stepping = true :=
    fun p => by rw [State.axis_setAxis_same]; exact steps
  unfold State.moveStep
  dsimp only
  generalize (if (s.axis a).stepUp then (s.axis a).pp.getD 0 + 1 else (s.axis a).pp.getD 0 - 1) = p
  split
  · exact beginHoming_sound (moved _) (.inl (stepping _))
  · split
    · exact arbitrate_sound (loseStep_sound (moved _) _ _)
    · have after := afterStep_sound (countStep_sound (moved _) a) (mayStep_countStep (stepping (some p)) a)
      refine arbitrate_sound ?_
      split
      · exact followPoint_sound after
      · exact after

theorem homingFound_sound (h : r ≤ soundness s) {a : Axis} (steps : (s.axis a).stepping = true) :
    r ≤ soundness (s.homingFound a) := by
  unfold State.homingFound
  dsimp only
  split
  · refine excFound_sound (beginStep_sound (markPart_sound (setAxis_sound h (.inl steps) _) _ _) (.inl ?_))
    unfold State.markPart
    have same : ∀ q : AxisRec, q.state = (s.axis a).state → ((s.setAxis a q).axis a).stepping = true := fun q hq => by
      rw [State.axis_setAxis_same, ← steps]
      simp only [AxisRec.stepping, hq]
    split
    · rename_i tag _
      have := same { s.axis a with
        pp := some (referencePosition a), target := some s.wideEnd, homing := .none } rfl
      cases a <;> exact this
    · exact same _ rfl
  · split <;> bound

theorem homingStep_sound (h : r ≤ soundness s) {a : Axis} (steps : (s.axis a).stepping = true) :
    r ≤ soundness (s.homingStep a) := by
  have ldu : ∀ b : Bool, (if b then (s.reportStep a).countStep a else s.reportStep a).ldu = s.ldu := fun b => by
    split <;> simp
  have stepped : ∀ (b : Bool) (q : AxisRec),
      r ≤ soundness ((if b then (s.reportStep a).countStep a else s.reportStep a).setAxis a q) := fun b q => by
    refine setAxis_sound (by split <;> bound) (.inl ?_) q
    cases a <;> simpa only [State.axis, ldu b] using steps
  have stepping : ∀ (u : State) (q : AxisRec), q.state = (s.axis a).state →
      ((u.setAxis a q).axis a).stepping = true := fun u q hq => by
    rw [State.axis_setAxis_same, ← steps]
    simp only [AxisRec.stepping, hq]
  unfold State.homingStep
  dsimp only
  split
  · exact arbitrate_sound (setAxis_hold_sound (stepped _ _) _ _)
  · split
    · exact beginHoming_sound (stepped _ _) (.inl (stepping _ _ rfl))
    · split
      · exact arbitrate_sound (setAxis_settle_sound (stepped _ _) _ _)
      · split
        · exact arbitrate_sound (homingFound_sound (stepped _ _) (stepping _ _ rfl))
        · split
          · exact arbitrate_sound (markPart_sound (attention_sound (setAxis_settle_sound (stepped _ _) _ _) _ _ _) _ _)
          · split
            · exact arbitrate_sound (markPart_sound (setAxis_settle_sound (stepped _ _) _ _) _ _)
            · refine setAxis_sound ?_ (.inl ?_) _
              · exact stepped _ _
              · exact stepping _ _ rfl

theorem completeStep_sound (h : r ≤ soundness s) {a : Axis} (steps : (s.axis a).stepping = true) :
    r ≤ soundness (s.completeStep a).1 := by
  unfold State.completeStep
  split
  · exact homingStep_sound h steps
  · exact moveStep_sound h steps

end Sys2Proof.Proofs.Soundness
end

section
/-! What the blocks around the lens keep: EXC and STU, the picture buffer, FSU, CSQ and PCS. -/

namespace Sys2Proof.Proofs.Soundness

open Sys2Proof Sys2Proof.Machine

-- one declaration after another: each unfolds operations whose equations another would be waiting for
set_option Elab.async false

variable {r : Prop × Prop × Prop × Prop} {s t : State}

/-! ## EXC and STU -/

@[bound] theorem sendExposure_sound (h : r ≤ soundness s) (e : ExpEntry) : r ≤ soundness (s.sendExposure e) :=
  placeExposure_sound (n := s.exposureNotice e) h rfl

@[bound] theorem issue_sound (h : r ≤ soundness s) (e : ExpEntry) : r ≤ soundness (s.issue e) :=
  sendExposure_sound (update_sound h _ _ _ _ _ _ _ _ _ _) e

@[bound] theorem issueOrKeep_sound (h : r ≤ soundness s) (e : ExpEntry) : r ≤ soundness (s.issueOrKeep e) := by
  unfold State.issueOrKeep
  (repeat' split) <;> bound

@[bound] theorem excFrame_sound (h : r ≤ soundness s) : r ≤ soundness s.excFrame := by
  unfold State.excFrame
  split
  · exact h
  · exact issueOrKeep_sound (by split <;> bound) _

@[bound] theorem endCalibration_sound (h : r ≤ soundness s) (c : EndClass) (u : Cause) (n : Option Nat) (j : Nat)
    (l : Option WindowReport) : r ≤ soundness (s.endCalibration c u n j l) := by
  unfold State.endCalibration
  split <;> bound

@[bound] theorem judgeWindow_sound (h : r ≤ soundness s) (c : Calibration) : r ≤ soundness (s.judgeWindow c) := by
  unfold State.judgeWindow
  (repeat' split) <;> bound

@[bound] theorem stopCalibration_sound (h : r ≤ soundness s) (tag : Nat) : r ≤ soundness (s.stopCalibration tag) := by
  unfold State.stopCalibration
  (repeat' split) <;> bound

@[bound] theorem calibrate_sound (h : r ≤ soundness s) (x : Sample) : r ≤ soundness (s.calibrate x) := by
  unfold State.calibrate
  dsimp only
  (repeat' split) <;> bound

@[bound] theorem latchFault_sound (h : r ≤ soundness s) (d : Nat) : r ≤ soundness (s.latchFault d) := by
  unfold State.latchFault
  dsimp only
  split <;> bound

@[bound] theorem superviseStage_sound (h : r ≤ soundness s) : r ≤ soundness s.superviseStage := by
  unfold State.superviseStage
  dsimp only
  (repeat' split) <;> bound

@[bound] theorem sampleStu_sound (h : r ≤ soundness s) (x : Sample) : r ≤ soundness (s.sampleStu x).1 := by
  unfold State.sampleStu
  bound

/-! ## The picture buffer -/

/-- Changing a record to one that holds the same pages. -/
theorem setRecord_sound (h : r ≤ soundness s) (id : Nat) {f : PicRecord → PicRecord} (hf : ∀ q, (f q).held = q.held) :
    r ≤ soundness (s.setRecord id f) :=
  sound_of_pbf h rfl (.of_eq (State.setRecord_pages s id f hf)) rfl rfl rfl

@[bound] theorem setRecord_state_sound (h : r ≤ soundness s) (id : Nat) (x : RecordState) :
    r ≤ soundness (s.setRecord id fun q => { q with state := x }) := setRecord_sound h id fun _ => rfl

@[bound] theorem setRecord_shot_sound (h : r ≤ soundness s) (id : Nat) (x : Option ShotRecord) :
    r ≤ soundness (s.setRecord id fun q => { q with shot := x }) := setRecord_sound h id fun _ => rfl

@[bound] theorem freeRecord_sound (h : r ≤ soundness s) (id : Nat) : r ≤ soundness (s.freeRecord id) :=
  sound_of_pbf h (by simp) (State.freeRecord_pages s id) (by simp) (by simp) (by simp)

@[bound] theorem freeRecords_sound (h : r ≤ soundness s) (p : PicRecord → Bool) : r ≤ soundness (s.freeRecords p) :=
  sound_of_pbf h (by simp) (State.freeRecords_pages s p) (by simp) (by simp) (by simp)

@[bound] theorem grant_sound (h : r ≤ soundness s) (id tag pos : Nat) : r ≤ soundness (s.grant id tag pos) :=
  sound_of_pbf h (by simp) (State.grant_pages s id tag pos) (by simp) (by simp) (by simp)

@[bound] theorem setRequest_sound (h : r ≤ soundness s) (b : Bool) : r ≤ soundness (s.setRequest b) := h

@[bound] theorem setEngine_sound (h : r ≤ soundness s) (e : Engine) : r ≤ soundness (s.setEngine e) := h

@[bound] theorem dropAtLimit_sound (h : r ≤ soundness s) (id : Nat) : r ≤ soundness (s.dropAtLimit id) := by
  unfold State.dropAtLimit
  (repeat' split) <;> bound

@[bound] theorem strobe_sound (h : r ≤ soundness s) (b : Byte) : r ≤ soundness (s.strobe b) := h

@[bound] theorem stray_sound (h : r ≤ soundness s) (b : Bool) : r ≤ soundness (s.stray b) := by
  unfold State.stray
  split <;> bound

@[bound] theorem seekByte_sound (h : r ≤ soundness s) (a b : Bool) (x : Byte) : r ≤ soundness (s.seekByte a b x) := by
  unfold State.seekByte
  (repeat' split) <;> bound

@[bound] theorem judgeHeader_sound (h : r ≤ soundness s) (l : List Byte) : r ≤ soundness (s.judgeHeader l).1 := by
  have filling : ∀ (id : Nat) (len : Option Nat) (n : Nat),
      r ≤ soundness (s.setRecord id fun q => { q with state := .filling, length := len, received := n }) :=
    fun id _ _ => setRecord_sound h id fun _ => rfl
  unfold State.judgeHeader
  dsimp only
  (repeat' split) <;> dsimp only
  case h_2.isFalse => exact setEngine_sound (filling _ _ _) _
  all_goals bound

@[bound] theorem dataGap_sound (h : r ≤ soundness s) (id l : Nat) : r ≤ soundness (s.dataGap id l) := by
  unfold State.dataGap
  split <;> bound

@[bound] theorem engineGap_sound (h : r ≤ soundness s) (l : Nat) : r ≤ soundness (s.engineGap l).1 := by
  unfold State.engineGap
  split <;> dsimp only <;> bound

/-- A byte taken in DATA writes memory in its form and moves pages without loss (R165). -/
theorem dataByte_sound {id : Nat} {b : Byte} {report : IntakeReport} (h : r ≤ soundness s)
    (taken : s.dataByte id b = .inr (t, report)) : r ≤ soundness t := by
  have frame : t.opt = s.opt ∧ t.ldu = s.ldu ∧ t.lif = s.lif := by
    obtain ⟨_, _, _, -, -, -, -, ⟨-, rfl, -⟩ | ⟨-, rfl, -⟩⟩ := State.dataByte_cases taken <;> exact ⟨rfl, rfl, rfl⟩
  obtain ⟨opt, ldu, lif⟩ := frame
  refine h.trans (soundness_mono (State.dataByte_memory taken) (fun hp => (State.dataByte_pages taken).trans hp)
    (fun hk => ?_) (fun hl => ?_))
  · exact (tracked_congr opt (congrArg _ lif)).trans_le hk
  · exact (congrArg List.length (slotHolders_congr ldu)).trans_le hl

/-- What the engine takes from the FIFO, short of a fault of the model (R164 to R167). -/
theorem engineTake_sound {report : IntakeReport} (h : r ≤ soundness s) (taken : s.engineTake = .inr (t, report)) :
    r ≤ soundness t := by
  have popped : ∀ rest : List FifoItem, r ≤ soundness { s with pbf := { s.pbf with fifo := rest } } := fun _ => h
  have pair : ∀ {p : State × IntakeReport}, r ≤ soundness p.1 → (Sum.inr p : EngineStep) = .inr (t, report) →
      r ≤ soundness t := fun hp e => sound_of_pair hp (Sum.inr.inj e)
  unfold State.engineTake at taken
  split at taken
  · exact pair h taken
  · unfold State.engineByte at taken
    split at taken
    · exact pair (seekByte_sound (popped _) _ _ _) taken
    · dsimp only at taken
      split at taken
      · exact pair (setEngine_sound (popped _) _) taken
      · exact pair (judgeHeader_sound (popped _) _) taken
    · exact dataByte_sound (popped _) taken
    · exact pair (setEngine_sound (popped _) _) taken
  · exact pair (engineGap_sound (popped _) _) taken

@[bound] theorem restartPbf_sound (h : r ≤ soundness s) : r ≤ soundness s.restartPbf :=
  freeRecords_sound (setRequest_sound (s := s.drainIntake) h _) _

/-! ## FSU -/

@[bound] theorem beginScanUnit_sound (h : r ≤ soundness s) (c : Scan) : r ≤ soundness (s.beginScanUnit c) := by
  unfold State.beginScanUnit
  split <;> bound

@[bound] theorem countScanUnit_sound (h : r ≤ soundness s) (c : Scan) : r ≤ soundness (s.countScanUnit c) := by
  unfold State.countScanUnit
  split <;> bound

@[bound] theorem finalArrival_sound (h : r ≤ soundness s) (c : Scan) : r ≤ soundness (s.finalArrival c).1 := by
  unfold State.finalArrival
  dsimp only
  split
  · exact finishScan_sound (by split <;> bound) _ _ _ _ _ _
  all_goals bound

@[bound] theorem travelFinal_sound (h : r ≤ soundness s) (c : Scan) (pos : Nat) (goal : ScanGoal) :
    r ≤ soundness (s.travelFinal c pos goal).1 := by
  have given := giveTarget_sound h .focus pos
  unfold State.travelFinal
  dsimp only
  split <;> rename_i e <;> have := sound_of_pair given e
  · bound
  · exact arbitrate_sound (setScan_sound this _)
  · bound

@[bound] theorem travelUnit_sound (h : r ≤ soundness s) (c : Scan) (i : Nat) : r ≤ soundness (s.travelUnit c i).1 := by
  have given := giveTarget_sound h .focus (c.position i)
  unfold State.travelUnit
  dsimp only
  split <;> rename_i e <;> have := sound_of_pair given e
  · exact enterFrameWait_sound (arbitrate_sound (by split <;> bound)) _
  · split <;> dsimp only <;> bound
  · bound

@[bound] theorem startScan_sound (h : r ≤ soundness s) (u : ScanUser) (p : ScanPlan) :
    r ≤ soundness (s.startScan u p).1 := travelUnit_sound h _ _

@[bound] theorem scanStepped_sound (h : r ≤ soundness s) (q : AxisRec) : r ≤ soundness (s.scanStepped q) := by
  unfold State.scanStepped
  (repeat' split) <;> bound

@[bound] theorem scanArrived_sound (h : r ≤ soundness s) : r ≤ soundness s.scanArrived.1 := by
  unfold State.scanArrived
  (repeat' split) <;> bound

@[bound] theorem positionsOut_sound (h : r ≤ soundness s) (c : Scan) : r ≤ soundness (s.positionsOut c).1 := by
  unfold State.positionsOut
  dsimp only
  (repeat' split) <;> bound

@[bound] theorem compareRecord_sound (h : r ≤ soundness s) (c : Scan) (q : FrameRec) :
    r ≤ soundness (s.compareRecord c q).1 := by
  unfold State.compareRecord
  dsimp only
  (repeat' split) <;> bound

@[bound] theorem waitFails_sound (h : r ≤ soundness s) (c : Scan) (u : Cause) :
    r ≤ soundness (s.waitFails c u).1 := by
  unfold State.waitFails
  (repeat' split) <;> bound

@[bound] theorem fsuOffer_sound (h : r ≤ soundness s) (q : FrameRec) : r ≤ soundness (s.fsuOffer q).1 := by
  unfold State.fsuOffer
  (repeat' split) <;> bound

@[bound] theorem fsuFrame_sound (h : r ≤ soundness s) (n : Option Nat) : r ≤ soundness (s.fsuFrame n).1 := by
  unfold State.fsuFrame
  dsimp only
  (repeat' split) <;> bound

@[bound] theorem stopScan_sound (h : r ≤ soundness s) (c : StopCause) : r ≤ soundness (s.stopScan c).1 := by
  unfold State.stopScan
  (repeat' split) <;> bound

/-! ## CSQ -/

@[bound] theorem csqIdle_sound (h : r ≤ soundness s) : r ≤ soundness s.csqIdle := by
  unfold State.csqIdle
  bound

@[bound] theorem endShoot_sound (h : r ≤ soundness s) (c : Capture) (k : EndClass) (u : Cause) :
    r ≤ soundness (s.endShoot c k u) := by
  unfold State.endShoot
  bound

@[bound] theorem endPrepare_sound (h : r ≤ soundness s) (c : Capture) (k : EndClass) (u : Cause)
    (x : Option ScanResult) (f : ScanFields) (n : Option Nat) : r ≤ soundness (s.endPrepare c k u x f n) := by
  unfold State.endPrepare
  split <;> bound

@[bound] theorem checkFinish_sound (h : r ≤ soundness s) : r ≤ soundness s.checkFinish := by
  unfold State.checkFinish
  (repeat' split) <;> bound

@[bound] theorem enterFinishing_sound (h : r ≤ soundness s) : r ≤ soundness s.enterFinishing := by
  unfold State.enterFinishing
  bound

@[bound] theorem afterFailure_sound (h : r ≤ soundness s) : r ≤ soundness s.afterFailure := by
  unfold State.afterFailure
  split <;> bound

@[bound] theorem failHand_sound (h : r ≤ soundness s) (id : Nat) (o : PictureOutcome) (k : EndClass) (u : Cause) :
    r ≤ soundness (s.failHand id o k u) := by
  unfold State.failHand
  bound

@[bound] theorem beginPicture_sound (h : r ≤ soundness s) (p : Nat) : r ≤ soundness (s.beginPicture p) := h

@[bound] theorem centred_sound (h : r ≤ soundness s) (late : Bool) : r ≤ soundness (s.centred late) := by
  unfold State.centred
  split
  · split
    · exact place_sound (setCsq_sound (onCapture_sound h _) _) rfl
    · exact h
  · exact h

@[bound] theorem irisArrived_sound (h : r ≤ soundness s) : r ≤ soundness s.irisArrived := by
  have asked := recentre_sound (setCsq_sound h .recentring)
  unfold State.irisArrived
  split
  · split
    all_goals
      rename_i e
      have := sound_of_pair asked e
      bound
  · exact h

@[bound] theorem irisFailed_sound (h : r ≤ soundness s) : r ≤ soundness s.irisFailed := by
  unfold State.irisFailed
  (repeat' split) <;> bound

@[bound] theorem splitPicture_sound (h : r ≤ soundness s) : r ≤ soundness s.splitPicture := by
  unfold State.splitPicture
  dsimp only
  split
  · split
    all_goals
      rename_i e
      have := sound_of_pair (writeIris_sound (setCsq_sound (onCapture_sound h _) _) _ _) e
      bound
  · exact h

@[bound] theorem grantPicture_sound (h : r ≤ soundness s) (c : Capture) : r ≤ soundness (s.grantPicture c) := by
  unfold State.grantPicture
  dsimp only
  split <;> bound

@[bound] theorem beginExposure_sound (h : r ≤ soundness s) (x : Hand) : r ≤ soundness (s.beginExposure x) := by
  unfold State.beginExposure
  split <;> bound

@[bound] theorem checkInterval_sound (h : r ≤ soundness s) : r ≤ soundness s.checkInterval := by
  unfold State.checkInterval
  (repeat' split) <;> bound

@[bound] theorem refineReported_sound (h : r ≤ soundness s) (x : RefineReport) :
    r ≤ soundness (s.refineReported x) := by
  unfold State.refineReported
  dsimp only
  (repeat' split) <;> bound

@[bound] theorem enterInterval_sound (h : r ≤ soundness s) (p : Program) : r ≤ soundness (s.enterInterval p) := by
  have begun := fun f g u p => startScan_sound (onCapture_sound (setCsq_sound (onCapture_sound h f) .interval) g) u p
  unfold State.enterInterval
  dsimp only
  split
  · split
    · bound
    · split
      all_goals
        rename_i e
        have := sound_of_pair (begun _ _ _ _) e
        bound
  · bound

@[bound] theorem goOnShooting_sound (h : r ≤ soundness s) : r ≤ soundness s.goOnShooting := by
  unfold State.goOnShooting
  (repeat' split) <;> bound

@[bound] theorem afterExposure_sound (h : r ≤ soundness s) : r ≤ soundness s.afterExposure :=
  goOnShooting_sound (dropHand_sound h)

@[bound] theorem leaveIntake_sound (h : r ≤ soundness s) (id : Nat) (o : PictureOutcome) (f : Option Cause) :
    r ≤ soundness (s.leaveIntake id o f) := by
  unfold State.leaveIntake
  dsimp only
  (repeat' split) <;> bound

@[bound] theorem intakeReported_sound (h : r ≤ soundness s) (x : IntakeReport) :
    r ≤ soundness (s.intakeReported x) := by
  unfold State.intakeReported
  (repeat' split) <;> bound

@[bound] theorem preparationEnded_sound (h : r ≤ soundness s) (e : ScanEnd) :
    r ≤ soundness (s.preparationEnded e) := by
  unfold State.preparationEnded
  dsimp only
  (repeat' split) <;> bound

@[bound] theorem askScan_sound (h : r ≤ soundness s) (u : ScanUser) (p : ScanPlan) : r ≤ soundness (s.askScan u p) := by
  unfold State.askScan
  split
  all_goals
    rename_i e
    have := sound_of_pair (startScan_sound (onCapture_sound h _) _ _) e
    bound

@[bound] theorem goOnPreparing_sound (h : r ≤ soundness s) : r ≤ soundness s.goOnPreparing := by
  unfold State.goOnPreparing
  (repeat' split) <;> bound

@[bound] theorem lensFreed_sound (h : r ≤ soundness s) (tag : Nat) : r ≤ soundness (s.lensFreed tag) := by
  unfold State.lensFreed
  dsimp only
  (repeat' split) <;> bound

@[bound] theorem deliver_sound {p : State × FsuReport} (h : r ≤ soundness p.1) : r ≤ soundness (State.deliver p) := by
  unfold State.deliver
  (repeat' split) <;> bound

@[bound] theorem stopPrepare_sound (h : r ≤ soundness s) (c : Capture) : r ≤ soundness (s.stopPrepare c) := by
  unfold State.stopPrepare
  (repeat' split) <;> bound

@[bound] theorem stopShoot_sound (h : r ≤ soundness s) (c : Capture) (w : Bool) : r ≤ soundness (s.stopShoot c w) := by
  unfold State.stopShoot
  (repeat' split) <;> bound

@[bound] theorem stopCapture_sound (h : r ≤ soundness s) (tag : Nat) (w : Bool) :
    r ≤ soundness (s.stopCapture tag w) := by
  unfold State.stopCapture
  (repeat' split) <;> bound

/-! ## PCS -/

@[bound] theorem exchange_sound (h : r ≤ soundness s) (kind : OpKind) (i : Nat) : r ≤ soundness (s.exchange kind i) := by
  unfold State.exchange
  bound

@[bound] theorem beginContext_sound (h : r ≤ soundness s) (tag : Nat) (kind : OpKind) (i : Nat) :
    r ≤ soundness (s.beginContext tag kind i) := by
  unfold State.beginContext
  bound

@[bound] theorem endContext_sound (h : r ≤ soundness s) (o : ContextOp) (k : EndClass) (u : Cause) :
    r ≤ soundness (s.endContext o k u) := by
  unfold State.endContext
  bound

@[bound] theorem focusTravelled_sound (h : r ≤ soundness s) (o : ContextOp) : r ≤ soundness (s.focusTravelled o) :=
  endContext_sound (countUnit_sound h _) _ _ _

@[bound] theorem zoomTravelled_sound (h : r ≤ soundness s) (o : ContextOp) : r ≤ soundness (s.zoomTravelled o) := by
  unfold State.zoomTravelled
  dsimp only
  split
  · bound
  · split
    all_goals
      rename_i e
      have := sound_of_pair (giveTarget_sound (countUnit_sound h _) _ _) e
      bound

@[bound] theorem contextTravel_sound (h : r ≤ soundness s) (o : ContextOp) : r ≤ soundness (s.contextTravel o) := by
  unfold State.contextTravel
  dsimp only
  split
  · bound
  · split
    all_goals
      rename_i e
      have := sound_of_pair (giveTarget_sound h _ _) e
      bound

@[bound] theorem contextArrived_sound (h : r ≤ soundness s) (a : Axis) : r ≤ soundness (s.contextArrived a) := by
  unfold State.contextArrived
  (repeat' split) <;> bound

@[bound] theorem contextLost_sound (h : r ≤ soundness s) : r ≤ soundness s.contextLost := by
  unfold State.contextLost
  split <;> bound

end Sys2Proof.Proofs.Soundness
end

section
/-! What the events and the card store keep: arrivals, frame starts and feeds, the store, the stops and the link. -/

namespace Sys2Proof.Proofs.Soundness

open Sys2Proof Sys2Proof.Machine

-- one declaration after another: each unfolds operations whose equations another would be waiting for
set_option Elab.async false

variable {r : Prop × Prop × Prop × Prop} {s t : State}

/-! ## Arrivals -/

@[bound] theorem irisReached_sound (h : r ≤ soundness s) : r ≤ soundness s.irisReached := by
  unfold State.irisReached
  dsimp only
  (repeat' split) <;> bound

@[bound] theorem lensOpHeld_sound (h : r ≤ soundness s) (tag : Nat) : r ≤ soundness (s.lensOpHeld tag) := by
  unfold State.lensOpHeld
  dsimp only
  split <;> bound

@[bound] theorem axisHeld_sound (h : r ≤ soundness s) (a : Axis) : r ≤ soundness (s.axisHeld a) := by
  unfold State.axisHeld
  dsimp only
  (repeat' split) <;> bound

@[bound] theorem settled_sound (h : r ≤ soundness s) (a : Axis) : r ≤ soundness (s.settled a) :=
  axisHeld_sound (setAxis_hold_sound h _ _) _

@[bound] theorem settleAtOnce_sound (h : r ≤ soundness s) (a : Axis) : r ≤ soundness (s.settleAtOnce a) := by
  unfold State.settleAtOnce
  dsimp only
  split <;> bound

@[bound] theorem settleZero_sound (h : r ≤ soundness s) (before : State) (a : Axis) :
    r ≤ soundness (s.settleZero before a) :=
  foldl_sound (fun t b ht => by split <;> bound) h allAxes

@[bound] theorem reportLost_sound (h : r ≤ soundness s) (a : Axis) : r ≤ soundness (s.reportLost a) := by
  unfold State.reportLost
  (repeat' split) <;> bound

/-- The completion of the step of an axis that has one in progress (R22). -/
theorem stepCompleted_sound (h : r ≤ soundness s) {a : Axis} (steps : (s.axis a).stepping = true) :
    r ≤ soundness (s.stepCompleted a) := by
  have completed := completeStep_sound h steps
  unfold State.stepCompleted
  split <;> rename_i e <;> have := sound_of_pair completed e
  · bound
  · exact settleZero_sound (by split <;> bound) _ _

@[bound] theorem energized_sound (h : r ≤ soundness s) (a : Axis) : r ≤ soundness (s.energized a) :=
  settleAtOnce_sound (arbitrate_sound (joinWait_sound h _ _)) _

/-! ## Frames -/

@[bound] theorem offer_sound (h : r ≤ soundness s) (q : FrameRec) : r ≤ soundness (s.offer q) := by
  unfold State.offer
  split
  rename_i e
  have := sound_of_pair (excOffer_sound h q) e
  exact deliver_sound (fsuOffer_sound (by split <;> bound) _)

@[bound] theorem clearOffer_sound (h : r ≤ soundness s) (n : Nat) : r ≤ soundness (s.clearOffer n) := h

@[bound] theorem openFrame_sound (h : r ≤ soundness s) : r ≤ soundness s.openFrame := h

@[bound] theorem heldOffer_sound (h : r ≤ soundness s) (o : Option FrameRec) : r ≤ soundness (s.heldOffer o) := by
  unfold State.heldOffer
  (repeat' split) <;> bound

@[bound] theorem countInterval_sound (h : r ≤ soundness s) : r ≤ soundness s.countInterval := by
  unfold State.countInterval
  split <;> bound

@[bound] theorem frameStart_sound (h : r ≤ soundness s) : r ≤ soundness s.frameStart :=
  countInterval_sound (deliver_sound (fsuFrame_sound (heldOffer_sound (excFrame_sound (openFrame_sound h)) _) _))

@[bound] theorem fileStats_sound (h : r ≤ soundness s) (f : StatsFeed) : r ≤ soundness (s.fileStats f) := by
  unfold State.fileStats
  dsimp only
  (repeat' split) <;> bound

/-! ## The card store -/

@[bound] theorem trimPool_sound (h : r ≤ soundness s) : r ≤ soundness s.trimPool := by
  unfold State.trimPool
  split <;> bound

@[bound] theorem forgetHold_sound (h : r ≤ soundness s) : r ≤ soundness s.forgetHold := h

@[bound] theorem endHold_sound (h : r ≤ soundness s) (b : Bool) : r ≤ soundness (s.endHold b) := by
  unfold State.endHold
  split
  · exact h
  · exact ending_sound (by split <;> bound) _ _ _ _ _ _

@[bound] theorem enterPaused_sound (h : r ≤ soundness s) : r ≤ soundness s.enterPaused :=
  endHold_sound (onCsu_sound h _) _

@[bound] theorem enterDisabled_sound (h : r ≤ soundness s) : r ≤ soundness s.enterDisabled :=
  endHold_sound (onCsu_sound h _) _

@[bound] theorem startExchange_sound (h : r ≤ soundness s) : r ≤ soundness s.startExchange := by
  unfold State.startExchange
  (repeat' split) <;> bound

@[bound] theorem enterNotifying_sound (h : r ≤ soundness s) : r ≤ soundness s.enterNotifying := by
  unfold State.enterNotifying
  split
  · exact h
  · exact place_sound (onCsu_sound h _) rfl

@[bound] theorem resumeWriting_sound (h : r ≤ soundness s) : r ≤ soundness s.resumeWriting := by
  unfold State.resumeWriting
  (repeat' split) <;> bound

@[bound] theorem placeCurrent_sound (h : r ≤ soundness s) : r ≤ soundness s.placeCurrent := by
  unfold State.placeCurrent
  dsimp only
  (repeat' split) <;> bound

@[bound] theorem takeHead_sound (h : r ≤ soundness s) (id : Nat) : r ≤ soundness (s.takeHead id) := by
  unfold State.takeHead
  bound

@[bound] theorem takeOrIdle_sound (h : r ≤ soundness s) : r ≤ soundness s.takeOrIdle := by
  unfold State.takeOrIdle
  split <;> bound

@[bound] theorem boundaryChoice_sound (h : r ≤ soundness s) : r ≤ soundness s.boundaryChoice := by
  unfold State.boundaryChoice
  (repeat' split) <;> bound

@[bound] theorem forgetCurrent_sound (h : r ≤ soundness s) : r ≤ soundness s.forgetCurrent := h

@[bound] theorem returnDropped_sound (h : r ≤ soundness s) (id : Nat) : r ≤ soundness (s.returnDropped id) := by
  unfold State.returnDropped
  bound

@[bound] theorem completeDrop_sound (h : r ≤ soundness s) : r ≤ soundness s.completeDrop := by
  unfold State.completeDrop
  dsimp only
  (repeat' split) <;> bound

theorem boundaryStop_sound (h : r ≤ soundness s) (stops : s.boundaryStop = some t) : r ≤ soundness t := by
  unfold State.boundaryStop at stops
  dsimp only at stops
  split at stops
  · cases stops; bound
  · split at stops
    · cases stops; bound
    · split at stops <;> cases stops
      bound

@[bound] theorem clusterBoundary_sound (h : r ≤ soundness s) (e : Exchange) : r ≤ soundness (s.clusterBoundary e) := by
  unfold State.clusterBoundary
  dsimp only
  split
  · exact h
  · split
    · rename_i stops
      exact boundaryStop_sound (onCsu_sound h _) stops
    · (repeat' split) <;> bound

@[bound] theorem enterFaulted_sound (h : r ≤ soundness s) (f : FaultRecord) : r ≤ soundness (s.enterFaulted f) :=
  attention_sound (onCsu_sound h _) _ _ _

@[bound] theorem blockFault_sound (h : r ≤ soundness s) (b n : Nat) (x : FaultResponse) :
    r ≤ soundness (s.blockFault b n x) := by
  unfold State.blockFault
  split <;> bound

@[bound] theorem badToken_sound (h : r ≤ soundness s) (e : Exchange) (x : FaultResponse) :
    r ≤ soundness (s.badToken e x) := by
  unfold State.badToken
  dsimp only
  (repeat' split) <;> bound

@[bound] theorem takeToken_sound (h : r ≤ soundness s) (x : Token) : r ≤ soundness (s.takeToken x) := by
  unfold State.takeToken
  (repeat' split) <;> bound

@[bound] theorem busyEnd_sound (h : r ≤ soundness s) : r ≤ soundness s.busyEnd := by
  unfold State.busyEnd
  dsimp only
  (repeat' split) <;> bound

@[bound] theorem commandFault_sound (h : r ≤ soundness s) : r ≤ soundness s.commandFault := by
  unfold State.commandFault
  (repeat' split) <;> bound

@[bound] theorem busyTimeout_sound (h : r ≤ soundness s) : r ≤ soundness s.busyTimeout := by
  unfold State.busyTimeout
  (repeat' split) <;> bound

@[bound] theorem endOpening_sound (h : r ≤ soundness s) (k : EndClass) (u : Cause) (x : Option Nat) :
    r ≤ soundness (s.endOpening k u x) := by
  unfold State.endOpening
  dsimp only
  split <;> bound

@[bound] theorem stageDone_sound (h : r ≤ soundness s) (c : CardCommand) : r ≤ soundness (s.stageDone c) := by
  unfold State.stageDone
  dsimp only
  (repeat' split) <;> bound

@[bound] theorem openingDone_sound (h : r ≤ soundness s) : r ≤ soundness s.openingDone := by
  unfold State.openingDone
  dsimp only
  split <;> bound

@[bound] theorem openingResponse_sound (h : r ≤ soundness s) (c : CardCommand) (x : CardResponse) :
    r ≤ soundness (s.openingResponse c x) := by
  unfold State.openingResponse
  (repeat' split) <;> bound

@[bound] theorem writeResponse_sound (h : r ≤ soundness s) (c : CardCommand) (x : CardResponse) :
    r ≤ soundness (s.writeResponse c x) := by
  unfold State.writeResponse
  (repeat' split) <;> bound

@[bound] theorem cardAnswers_sound (h : r ≤ soundness s) (x : CardResponse) : r ≤ soundness (s.cardAnswers x) := by
  unfold State.cardAnswers
  (repeat' split) <;> bound

@[bound] theorem cardSilent_sound (h : r ≤ soundness s) : r ≤ soundness s.cardSilent := by
  unfold State.cardSilent
  (repeat' split) <;> bound

@[bound] theorem storeLosesCard_sound (h : r ≤ soundness s) : r ≤ soundness s.storeLosesCard := by
  have lost : ∀ id n, r ≤ soundness (s.cardLossFault id n) := fun _ _ => enterFaulted_sound h _
  unfold State.storeLosesCard
  dsimp only
  (repeat' split) <;> bound

@[bound] theorem cardRemoved_sound (h : r ≤ soundness s) : r ≤ soundness s.cardRemoved := by
  unfold State.cardRemoved
  dsimp only
  (repeat' split) <;> bound

@[bound] theorem cardInserted_sound (h : r ≤ soundness s) (b : Bool) : r ≤ soundness (s.cardInserted b) := by
  unfold State.cardInserted
  bound

@[bound] theorem protectChanged_sound (h : r ≤ soundness s) (b : Bool) : r ≤ soundness (s.protectChanged b) := by
  unfold State.protectChanged
  dsimp only
  (repeat' split) <;> bound

@[bound] theorem retry_sound (h : r ≤ soundness s) (id : Nat) (k : Continuation) (f : FaultOperands) :
    r ≤ soundness (s.retry id k f) := by
  unfold State.retry
  dsimp only
  (repeat' split) <;> bound

@[bound] theorem afterDisposition_sound (h : r ≤ soundness s) (k : Continuation) :
    r ≤ soundness (s.afterDisposition k) := by
  unfold State.afterDisposition
  dsimp only
  split <;> bound

@[bound] theorem dispose_sound (h : r ≤ soundness s) (f : FaultRecord) (d : Nat) (o : FaultOperands) :
    r ≤ soundness (s.dispose f d o) := by
  unfold State.dispose
  dsimp only
  (repeat' split) <;> bound

@[bound] theorem setContinuation_sound (h : r ≤ soundness s) (f : Continuation → Continuation) :
    r ≤ soundness (s.setContinuation f) := h

@[bound] theorem dropCurrent_sound (h : r ≤ soundness s) : r ≤ soundness s.dropCurrent := by
  unfold State.dropCurrent
  split <;> bound

@[bound] theorem storedSent_sound (h : r ≤ soundness s) (id : Nat) : r ≤ soundness (s.storedSent id) := by
  unfold State.storedSent
  split <;> bound

@[bound] theorem restartCsu_sound (h : r ≤ soundness s) : r ≤ soundness s.restartCsu := by
  unfold State.restartCsu
  dsimp only
  (repeat' split) <;> bound

/-! ## Stops -/

@[bound] theorem stopLens_sound (h : r ≤ soundness s) (tag : Nat) (w : Bool) : r ≤ soundness (s.stopLens tag w) := by
  unfold State.stopLens
  dsimp only
  split <;> bound

@[bound] theorem stopHold_sound (h : r ≤ soundness s) (tag : Nat) : r ≤ soundness (s.stopHold tag) := by
  unfold State.stopHold
  bound

@[bound] theorem ownerStop_sound (h : r ≤ soundness s) (e : OpEntry) (c : StopCause) :
    r ≤ soundness (s.ownerStop e c) := by
  unfold State.ownerStop
  dsimp only
  split <;> bound

@[bound] theorem stopEntry_sound (h : r ≤ soundness s) (e : OpEntry) (c : StopCause) :
    r ≤ soundness (s.stopEntry e c) := by
  unfold State.stopEntry
  split <;> bound

@[bound] theorem preempt_sound (h : r ≤ soundness s) (tag : Nat) : r ≤ soundness (s.preempt tag) := by
  unfold State.preempt
  split <;> bound

/-! ## The link and the resets -/

/-- A change of LIF that leaves the transmission. -/
theorem onLif_sound (h : r ≤ soundness s) {f : Lif → Lif} (tx : (f s.lif).tx = s.lif.tx) :
    r ≤ soundness (s.onLif f) :=
  sound_of_frame h (by simp) (by simp) rfl tx

@[bound] theorem offerPacket_sound (h : r ≤ soundness s) (p : Packet) : r ≤ soundness (s.offerPacket p) :=
  onLif_sound h (by split <;> rfl)

@[bound] theorem linkByte_sound (h : r ≤ soundness s) (b : Byte) (e : Bool) : r ≤ soundness (s.linkByte b e) := by
  have collecting : ∀ bytes, r ≤ soundness (s.onLif fun l => { l with assembler := bytes }) := fun _ => h
  unfold State.linkByte State.collect
  dsimp only
  (repeat' split) <;> bound

@[bound] theorem linkGap_sound (h : r ≤ soundness s) : r ≤ soundness s.linkGap := by
  unfold State.linkGap
  split <;> bound

@[bound] theorem takeRequest_sound (h : r ≤ soundness s) (p : Packet) : r ≤ soundness (s.takeRequest p) := by
  unfold State.takeRequest
  dsimp only
  (repeat' split) <;> first | exact onLif_sound h rfl | bound

@[bound] theorem takeFeed_sound (h : r ≤ soundness s) (p : Packet) : r ≤ soundness (s.takeFeed p) := by
  unfold State.takeFeed
  split <;> exact onLif_sound h rfl

@[bound] theorem takePacket_sound (h : r ≤ soundness s) : r ≤ soundness s.takePacket := by
  have popped : ∀ rest, r ≤ soundness (s.onLif fun l => { l with queue := rest }) := fun _ => h
  unfold State.takePacket
  dsimp only
  (repeat' split) <;> bound

/-- An ENDING that goes out on LTX is tracked until it has been sent (R4, R13). -/
@[bound] theorem startPacket_sound (h : r ≤ soundness s) : r ≤ soundness s.startPacket := by
  unfold State.startPacket
  split
  · exact h
  · rename_i free
    split
    · refine sound_of_opt h rfl rfl (le_max_of_le_right ?_)
      simp [State.tracked_eq, State.onLif, txPacket, sentEndings]
    · split
      · rename_i n rest waits
        refine sound_of_opt h rfl rfl (le_max_of_le_right (le_of_eq ?_))
        simp only [State.tracked_eq, State.onLif, waits, free, txPacket]
        cases n <;> simp [outboxEndings, sentEndings]
      · exact h

@[bound] theorem restartLdu_sound (h : r ≤ soundness s) : r ≤ soundness s.restartLdu := by
  have restarted : ∀ q : AxisRec, q.restart.stepping = q.stepping := fun q => by
    cases hq : q.state <;> simp [AxisRec.restart, AxisRec.stepping, AxisRec.hold, hq]
  refine sound_of_ldu h rfl rfl rfl (le_max_of_le_right (le_of_eq ?_))
  simp only [State.slotHolders_eq, State.restartLdu, restarted]

/-- The end of a transmission frees the tag of the ENDING that was sent. -/
theorem freeLine_sound (h : r ≤ soundness s) : r ≤ soundness (s.onLif fun l => { l with tx := none }) := by
  refine sound_of_opt h rfl rfl (le_max_of_le_right ?_)
  simp [State.tracked_eq, State.onLif, sentEndings]

@[bound] theorem carryOutRestart_sound (h : r ≤ soundness s) : r ≤ soundness s.carryOutRestart := by
  have emptied : r ≤ soundness s.restartLif.restartOpt := by
    refine sound_of_opt h rfl rfl (le_max_of_le_right ?_)
    have none_waits : outboxEndings [.ready .restart] = [] := rfl
    simp only [State.tracked_eq, State.restartLif, State.restartOpt, State.onLif, none_waits, List.length_nil]
    omega
  have loops : r ≤ soundness s.restartLif.restartOpt.restartLdu.restartExc.restartLoops :=
    update_sound (restartLdu_sound emptied) _ _ _ _ _ _ _ _ _ _
  exact restartCsu_sound (restartPbf_sound (update_sound loops _ _ _ _ _ _ _ _ _ _))

@[bound] theorem endPacket_sound (h : r ≤ soundness s) : r ≤ soundness s.endPacket := by
  have free := freeLine_sound h
  unfold State.endPacket
  dsimp only
  (repeat' split) <;> bound

/-- The hardware reset keeps the picture memory and is sound in every other respect (R16). -/
@[bound] theorem hardwareReset_sound (h : r ≤ soundness s) (rate : Bool) (flags : RefFlags) :
    r ≤ soundness (s.hardwareReset rate flags) := by
  have pagesSound : (s.hardwareReset rate flags).pagesSound := by
    simp only [State.pagesSound, State.pages, State.hardwareReset, State.reset, List.flatMap_nil, List.append_nil,
      List.Perm.refl]
  have memory : (s.hardwareReset rate flags).pbf.memory = s.pbf.memory := by simp only [State.hardwareReset]
  have tracked : (s.hardwareReset rate flags).tracked = 0 := rfl
  have slots : (s.hardwareReset rate flags).slotHolders = [] := rfl
  refine h.trans (soundness_mono ?memory ?pages ?tracked ?slots)
  case memory =>
    intro hm
    rwa [State.memorySound, memory]
  case pages =>
    intro
    exact pagesSound
  case tracked =>
    intro
    simp only [State.trackedSound, tracked, Nat.zero_le]
  case slots =>
    intro
    simp only [State.slotsSound, slots, List.length_nil, Nat.zero_le]

end Sys2Proof.Proofs.Soundness
end

section
/-! What each command keeps, and so each step: the four step invariants. -/

namespace Sys2Proof.Proofs.Soundness

open Sys2Proof Sys2Proof.Machine

-- one declaration after another: each unfolds operations whose equations another would be waiting for
set_option Elab.async false

variable {r : Prop × Prop × Prop × Prop} {s t : State}

/-! ## Decisions of the requests: link, lens and table -/

@[bound] theorem query_sound (h : r ≤ soundness s) (tag part : Nat) : r ≤ soundness (s.query tag part) := by
  have cleared : ∀ u : State, r ≤ soundness u → r ≤ soundness (u.clearRead part) := fun u hu => by
    unfold State.clearRead
    dsimp only
    split <;> exact hu
  unfold State.query
  split
  · bound
  · exact cleared _ (done_sound h _ _)

@[bound] theorem askRestart_sound (h : r ≤ soundness s) (tag : Nat) : r ≤ soundness (s.askRestart tag) := h

@[bound] theorem stopRequest_sound (h : r ≤ soundness s) (tag op : Nat) : r ≤ soundness (s.stopRequest tag op) := by
  unfold State.stopRequest
  split <;> bound

@[bound] theorem axisSet_sound (h : r ≤ soundness s) (tag axis interval energize settle hold : Nat) :
    r ≤ soundness (s.axisSet tag axis interval energize settle hold) := by
  unfold State.axisSet
  split
  · bound
  · exact done_sound (setAxis_same_sound h (by simp only [AxisRec.stepping])) _ _

@[bound] theorem readFlags_sound (h : r ≤ soundness s) (flags : RefFlags) : r ≤ soundness (s.readFlags flags) := h

@[bound] theorem askHoming_sound (h : r ≤ soundness s) (a : Axis) : r ≤ soundness (s.askHoming a) := by
  have same : ∀ q : AxisRec, q.state = (s.axis a).state → r ≤ soundness (s.setAxis a q) := fun q hq =>
    setAxis_same_sound h (by simp only [AxisRec.stepping, hq])
  unfold State.askHoming
  dsimp only
  split <;> first | exact same _ rfl | bound

@[bound] theorem beginHome_sound (h : r ≤ soundness s) (tag : Nat) (axes : List Axis) (flags : RefFlags) :
    r ≤ soundness (s.beginHome tag axes flags) :=
  arbitrate_sound (foldl_sound (fun _ _ ht => askHoming_sound ht _) (by split <;> bound) axes)

@[bound] theorem homeRequest_sound (h : r ≤ soundness s) (tag mask : Nat) (flags : RefFlags) :
    r ≤ soundness (s.homeRequest tag mask flags) := by
  unfold State.homeRequest
  dsimp only
  split
  · bound
  · exact accept_sound h _ _ _ _ fun _ ht => beginHome_sound ht _ _ _

theorem endIfPlannedNone_sound (h : r ≤ soundness s) (tag planned : Nat) {go : State → State}
    (hgo : ∀ t, r ≤ soundness t → r ≤ soundness (go t)) : r ≤ soundness (s.endIfPlannedNone tag planned go) := by
  unfold State.endIfPlannedNone
  split
  · split <;> bound
  · exact hgo s h

@[bound] theorem moveRequest_sound (h : r ≤ soundness s) (tag axis target : Nat) :
    r ≤ soundness (s.moveRequest tag axis target) := by
  unfold State.moveRequest
  split
  · bound
  · exact accept_sound h _ _ _ _ fun t ht => endIfPlannedNone_sound (addLensOp_sound ht _ _ _) _ _ fun u hu => by bound

@[bound] theorem zoomRequest_sound (h : r ≤ soundness s) (tag target : Nat) :
    r ≤ soundness (s.zoomRequest tag target) := by
  unfold State.zoomRequest
  split
  · bound
  · exact accept_sound h _ _ _ _ fun t ht => endIfPlannedNone_sound (addLensOp_sound ht _ _ _) _ _ fun u hu => by bound

@[bound] theorem parkRequest_sound (h : r ≤ soundness s) (tag : Nat) : r ≤ soundness (s.parkRequest tag) := by
  unfold State.parkRequest
  split
  · bound
  · exact accept_sound h _ _ _ _ fun t ht =>
      endIfPlannedNone_sound (discardIris_sound (addLensOp_sound ht _ _ _)) _ _ fun u hu =>
        arbitrate_sound (foldl_sound (fun _ _ hw => giveTarget_sound hw _ _) hu allAxes)

@[bound] theorem tableLoad_sound (h : r ≤ soundness s) (tag sel : Nat) (f : TableFields) :
    r ≤ soundness (s.tableLoad tag sel f) := by
  have written : r ≤ soundness (s.writeTable sel f) := by
    unfold State.writeTable
    dsimp only
    (repeat' split) <;> bound
  unfold State.tableLoad
  dsimp only
  split <;> bound

@[bound] theorem tableCommit_sound (h : r ≤ soundness s) (tag : Nat) : r ≤ soundness (s.tableCommit tag) := by
  have committed : r ≤ soundness s.commitTable := excFound_sound (update_sound h _ _ _ _ _ _ _ _ _ _)
  unfold State.tableCommit
  split
  · bound
  · exact done_sound (by split <;> bound) _ _

/-! ## Decisions of the requests: metering, focus, steadying, programs and contexts -/

@[bound] theorem meterSet_sound (h : r ≤ soundness s) (tag : Nat) (m : MeterOperands) :
    r ≤ soundness (s.meterSet tag m) := by
  unfold State.meterSet
  split <;> bound

@[bound] theorem afSet_sound (h : r ≤ soundness s) (tag : Nat) (a : AfOperands) : r ≤ soundness (s.afSet tag a) := by
  unfold State.afSet
  split <;> bound

@[bound] theorem scanRequest_sound (h : r ≤ soundness s) (tag : Nat) (o : ScanOperands) :
    r ≤ soundness (s.scanRequest tag o) := by
  unfold State.scanRequest
  dsimp only
  split
  · bound
  · exact accept_sound h _ _ _ _ fun t ht => by bound

@[bound] theorem steadySet_sound (h : r ≤ soundness s) (tag mode leak : Nat) :
    r ≤ soundness (s.steadySet tag mode leak) := by
  have taken : ∀ m l, r ≤ soundness (s.takeSteady m l) := fun _ _ => deriveStu_sound (update_sound h _ _ _ _ _ _ _ _ _ _)
  unfold State.steadySet
  split
  · bound
  · exact done_sound (by split <;> bound) _ _

@[bound] theorem gyroRequest_sound (h : r ≤ soundness s) (tag : Nat) : r ≤ soundness (s.gyroRequest tag) := by
  unfold State.gyroRequest
  split
  · bound
  · exact accept_sound h _ _ _ _ fun t ht => update_sound ht _ _ _ _ _ _ _ _ _ _

@[bound] theorem sample_sound (h : r ≤ soundness s) (x : Sample) : r ≤ soundness (s.sample x) := by
  unfold State.sample
  split <;> rename_i e <;> have := sound_of_pair (sampleStu_sound h x) e <;> bound

@[bound] theorem programSet_sound (h : r ≤ soundness s) (tag : Nat) (o : ProgramOperands) :
    r ≤ soundness (s.programSet tag o) := by
  have written : ∀ i p, r ≤ soundness (s.writeProgram tag i p) := fun _ _ => h
  unfold State.programSet
  (repeat' split) <;> bound

@[bound] theorem programLimit_sound (h : r ≤ soundness s) (tag limit : Nat) :
    r ≤ soundness (s.programLimit tag limit) := by
  unfold State.programLimit
  dsimp only
  split <;> bound

@[bound] theorem contextSet_sound (h : r ≤ soundness s) (tag : Nat) (o : ContextOperands) :
    r ≤ soundness (s.contextSet tag o) := by
  unfold State.contextSet
  dsimp only
  split <;> bound

@[bound] theorem contextRead_sound (h : r ≤ soundness s) (tag slot : Nat) :
    r ≤ soundness (s.contextRead tag slot) := by
  unfold State.contextRead
  split <;> bound

@[bound] theorem acceptContext_sound (h : r ≤ soundness s) (tag : Nat) (kind : OpKind) (i : Nat) :
    r ≤ soundness (s.acceptContext tag kind i) :=
  accept_sound h _ _ _ _ fun _ ht => beginContext_sound ht _ _ _

@[bound] theorem contextRequest_sound (h : r ≤ soundness s) (tag : Nat) (kind : OpKind) (slot : Nat) :
    r ≤ soundness (s.contextRequest tag kind slot) := by
  unfold State.contextRequest
  split <;> bound

@[bound] theorem leaveRequest_sound (h : r ≤ soundness s) (tag : Nat) : r ≤ soundness (s.leaveRequest tag) := by
  unfold State.leaveRequest
  split <;> bound

/-! ## Decisions of the requests: captures, pictures and the card -/

@[bound] theorem startPreparing_sound (h : r ≤ soundness s) (c : Capture) : r ≤ soundness (s.startPreparing c) :=
  setWindow_sound (requestLock_sound (update_sound h _ _ _ _ _ _ _ _ _ _)) _

@[bound] theorem prepareRequest_sound (h : r ≤ soundness s) (tag : Nat) : r ≤ soundness (s.prepareRequest tag) := by
  unfold State.prepareRequest
  split
  · bound
  · exact accept_sound h _ _ _ _ fun t ht => goOnPreparing_sound (startPreparing_sound (claim_sound ht _ _) _)

@[bound] theorem releaseRequest_sound (h : r ≤ soundness s) (tag : Nat) : r ≤ soundness (s.releaseRequest tag) := by
  unfold State.releaseRequest
  split <;> bound

@[bound] theorem beginShoot_sound (h : r ≤ soundness s) (tag index : Nat) (p : Program) (units : Nat) :
    r ≤ soundness (s.beginShoot tag index p units) := by
  have ready : ∀ c, r ≤ soundness (s.shootFromReady c) := fun c =>
    beginPicture_sound (claim_sound (update_sound h _ _ _ _ _ _ _ _ _ _) _ _) _
  have idle : ∀ c, r ≤ soundness (s.shootFromIdle c) := fun c => by
    unfold State.shootFromIdle
    split <;> bound
  unfold State.beginShoot
  split <;> bound

@[bound] theorem shootRequest_sound (h : r ≤ soundness s) (tag index : Nat) (count : Option Nat) :
    r ≤ soundness (s.shootRequest tag index count) := by
  unfold State.shootRequest
  split
  · bound
  · split
    · bound
    · split
      · bound
      · exact accept_sound h _ _ _ _ fun _ ht => beginShoot_sound ht _ _ _ _

@[bound] theorem takeArmed_sound (h : r ≤ soundness s) (picture : Nat) : r ≤ soundness (s.takeArmed picture) := by
  unfold State.takeArmed State.exposeOrWait
  (repeat' split) <;> bound

@[bound] theorem exposureTimeOut_sound (h : r ≤ soundness s) (c : Capture) (x : Hand) :
    r ≤ soundness (s.exposureTimeOut c x) := by
  unfold State.exposureTimeOut State.endElectronic
  dsimp only
  split <;> bound

@[bound] theorem bladeFault_sound (h : r ≤ soundness s) (id : Nat) : r ≤ soundness (s.bladeFault id) := by
  unfold State.bladeFault
  bound

@[bound] theorem recharged_sound (h : r ≤ soundness s) : r ≤ soundness s.recharged := by
  unfold State.recharged
  (repeat' split) <;> bound

@[bound] theorem pictureRead_sound (h : r ≤ soundness s) (tag picture : Nat) :
    r ≤ soundness (s.pictureRead tag picture) := by
  unfold State.pictureRead
  split <;> bound

@[bound] theorem pictureDrop_sound (h : r ≤ soundness s) (tag picture : Nat) :
    r ≤ soundness (s.pictureDrop tag picture) := by
  unfold State.pictureDrop State.discard
  (repeat' split) <;> bound

@[bound] theorem cardOpenRequest_sound (h : r ≤ soundness s) (tag : Nat) : r ≤ soundness (s.cardOpenRequest tag) := by
  unfold State.cardOpenRequest
  split
  · bound
  · exact accept_sound h _ _ _ _ fun _ ht => onCsu_sound ht _

@[bound] theorem storeSet_sound (h : r ≤ soundness s) (tag cluster pages : Nat) :
    r ≤ soundness (s.storeSet tag cluster pages) := by
  unfold State.storeSet
  split
  · bound
  · exact h

@[bound] theorem extentsGive_sound (h : r ≤ soundness s) (tag : Nat) (es : List Extent) :
    r ≤ soundness (s.extentsGive tag es) := by
  unfold State.extentsGive
  dsimp only
  (repeat' split) <;> bound

@[bound] theorem storeOn_sound (h : r ≤ soundness s) : r ≤ soundness s.storeOn := by
  unfold State.storeOn State.enableStore
  (repeat' split) <;> bound

@[bound] theorem storeOnRequest_sound (h : r ≤ soundness s) (tag : Nat) : r ≤ soundness (s.storeOnRequest tag) := by
  unfold State.storeOnRequest
  split <;> bound

@[bound] theorem beginHold_sound (h : r ≤ soundness s) : r ≤ soundness s.beginHold := by
  unfold State.beginHold
  split <;> bound

@[bound] theorem storeHoldRequest_sound (h : r ≤ soundness s) (tag : Nat) :
    r ≤ soundness (s.storeHoldRequest tag) := by
  unfold State.storeHoldRequest
  split
  · bound
  · exact accept_sound h _ _ _ _ fun _ ht => beginHold_sound ht

@[bound] theorem faultRead_sound (h : r ≤ soundness s) (tag : Nat) : r ≤ soundness (s.faultRead tag) := by
  unfold State.faultRead
  split <;> bound

@[bound] theorem faultReturn_sound (h : r ≤ soundness s) (tag d : Nat) (f : FaultOperands) :
    r ≤ soundness (s.faultReturn tag d f) := by
  unfold State.faultReturn
  split <;> bound

/-! ## Commands -/

/-- A command that answers a state which keeps what holds. -/
theorem next_sound {u : State} (h : r ≤ soundness u) : (Host.Outcome.next u : Result) = .next t → r ≤ soundness t := by
  rintro ⟨⟩
  exact h

/-- A request that its owner decides by an operation which keeps what holds. -/
theorem request_sound {c : Instr} {tag : Nat} {f : State → State} (h : r ≤ soundness s)
    (hf : ∀ u, r ≤ soundness u → r ≤ soundness (f u)) :
    (Host.Outcome.next (s.onRequest c tag f) : Result) = .next t → r ≤ soundness t :=
  next_sound (onRequest_sound h c tag hf)

/-- Every command keeps a state sound. -/
theorem exec_sound (h : r ≤ soundness s) (c : Instr) : exec c s = .next t → r ≤ soundness t := by
  cases c with
  | hardwareReset rate flags => exact next_sound (hardwareReset_sound h rate flags)
  | linkByteReceived b e => exact next_sound (linkByte_sound h b e)
  | interByteGapTimeout => exact next_sound (linkGap_sound h)
  | receiveQueueTake => exact next_sound (takePacket_sound h)
  | packetTransmissionStart => exact next_sound (startPacket_sound h)
  | packetTransmissionEnd => exact next_sound (endPacket_sound h)
  | query => exact request_sound h fun _ hu => query_sound hu _ _
  | restart =>
    refine next_sound ?_
    split
    · exact onRequest_sound h _ _ fun _ hu => askRestart_sound hu _
    · exact h
  | stop => exact request_sound h fun _ hu => stopRequest_sound hu _ _
  | axisSet => exact request_sound h fun _ hu => axisSet_sound hu _ _ _ _ _ _
  | home => exact request_sound h fun _ hu => homeRequest_sound hu _ _ _
  | move => exact request_sound h fun _ hu => moveRequest_sound hu _ _ _
  | zoom => exact request_sound h fun _ hu => zoomRequest_sound hu _ _
  | park => exact request_sound h fun _ hu => parkRequest_sound hu _
  | energizeTimeout a flags => exact next_sound (by split <;> bound)
  | axisStepComplete a flags =>
    refine next_sound ?_
    split
    · rename_i steps
      exact stepCompleted_sound (readFlags_sound h flags) (by cases a <;> exact steps)
    · exact h
  | homeLimitReached a flags =>
    refine next_sound ?_
    split
    · rename_i limit
      have homing : (s.axis a).state = .homing := by
        simp only [State.reachesLimit, Bool.and_eq_true, beq_iff_eq] at limit
        exact limit.1.1.1.1
      refine stepCompleted_sound (readFlags_sound h flags) ?_
      cases a <;> exact (congrArg (· matches .moving | .homing) homing).trans rfl
    · exact h
  | settleTimeout a => exact next_sound (by split <;> bound)
  | holdReleaseTimeout a =>
    refine next_sound ?_
    split
    · exact setAxis_rest_sound h rfl
    · exact h
  | tableLoad => exact request_sound h fun _ hu => tableLoad_sound hu _ _ _
  | tableCommit => exact request_sound h fun _ hu => tableCommit_sound hu _
  | frameStart => exact next_sound (frameStart_sound h)
  | stats => exact next_sound (onFeed_sound h _ fun _ hu => fileStats_sound hu _)
  | meterSet => exact request_sound h fun _ hu => meterSet_sound hu _ _
  | afSet => exact request_sound h fun _ hu => afSet_sound hu _ _
  | scan => exact request_sound h fun _ hu => scanRequest_sound hu _ _
  | frameWaitExpiry => exact next_sound (by split <;> bound)
  | steadySet => exact request_sound h fun _ hu => steadySet_sound hu _ _ _
  | gyroCal => exact request_sound h fun _ hu => gyroRequest_sound hu _
  | rateSample x => exact next_sound (sample_sound h x)
  | gyroCalWindowEnd x => exact next_sound (by split <;> bound)
  | panningEntry x => exact next_sound (by split <;> bound)
  | actuatorFault x => exact next_sound (by split <;> bound)
  | recentreTimeout => exact next_sound (by split <;> bound)
  | programSet => exact request_sound h fun _ hu => programSet_sound hu _ _
  | programLimit => exact request_sound h fun _ hu => programLimit_sound hu _ _
  | contextSet => exact request_sound h fun _ hu => contextSet_sound hu _ _
  | contextRead => exact request_sound h fun _ hu => contextRead_sound hu _ _
  | switch => exact request_sound h fun _ hu => contextRequest_sound hu _ _ _
  | enter => exact request_sound h fun _ hu => contextRequest_sound hu _ _ _
  | leave => exact request_sound h fun _ hu => leaveRequest_sound hu _
  | contextTravelBegin => exact next_sound (by (repeat' split) <;> bound)
  | prepare => exact request_sound h fun _ hu => prepareRequest_sound hu _
  | release => exact request_sound h fun _ hu => releaseRequest_sound hu _
  | shoot => exact request_sound h fun _ hu => shootRequest_sound hu _ _ _
  | reservationGrant => exact next_sound (by (repeat' split) <;> bound)
  | armed => exact next_sound (onFeed_sound h _ fun _ hu => takeArmed_sound hu _)
  | armTimeout => exact next_sound (by (repeat' split) <;> bound)
  | exposureTimeEnd => exact next_sound (by (repeat' split) <;> bound)
  | bladeClosed => exact next_sound (by split <;> bound)
  | bladeTimeout => exact next_sound (by (repeat' split) <;> bound)
  | rechargeTimeout => exact next_sound (by split <;> bound)
  | intakeLimitExpiry => exact next_sound (by split <;> bound)
  | intervalEnd => exact next_sound (by split <;> bound)
  | intakeStrobe b => exact next_sound (strobe_sound h b)
  | intakeEngineByte =>
    change execIntakeEngineByte s = .next t → r ≤ soundness t
    unfold execIntakeEngineByte
    split
    · rintro ⟨⟩
    · rename_i taken
      exact next_sound (intakeReported_sound (engineTake_sound h taken) _)
  | pictureRead => exact request_sound h fun _ hu => pictureRead_sound hu _ _
  | pictureDrop => exact request_sound h fun _ hu => pictureDrop_sound hu _ _
  | cardDetectChange => exact next_sound (by split <;> bound)
  | writeProtectChange b => exact next_sound (protectChanged_sound h b)
  | cardOpen => exact request_sound h fun _ hu => cardOpenRequest_sound hu _
  | cardResponse x => exact next_sound (cardAnswers_sound h x)
  | conditionQueryPoll => exact next_sound (by split <;> bound)
  | cardResetTimeout => exact next_sound (by split <;> bound)
  | cardCommandTimeout => exact next_sound (cardSilent_sound h)
  | storeSet => exact request_sound h fun _ hu => storeSet_sound hu _ _ _
  | extentsGive => exact request_sound h fun _ hu => extentsGive_sound hu _ _
  | storeOn => exact request_sound h fun _ hu => storeOnRequest_sound hu _
  | storeHold => exact request_sound h fun _ hu => storeHoldRequest_sound hu _
  | storeTakeRecord => exact next_sound (by split <;> bound)
  | blockStatusToken x => exact next_sound (takeToken_sound h x)
  | cardBusyEnd => exact next_sound (busyEnd_sound h)
  | cardBusyTimeout => exact next_sound (busyTimeout_sound h)
  | faultRead => exact request_sound h fun _ hu => faultRead_sound hu _
  | faultReturn => exact request_sound h fun _ hu => faultReturn_sound hu _ _ _

/-- Every step keeps a state sound: it idles, or runs one command. -/
theorem step_sound (stepped : step s = .next t) : soundness s ≤ soundness t := by
  unfold step at stepped
  split at stepped
  · exact next_sound le_rfl stepped
  · exact exec_sound (update_sound le_rfl _ _ _ _ _ _ _ _ _ _) _ stepped

/-- Settles O57. -/
theorem stepKeepsMemoryForm : Obligations.StepKeepsMemoryForm := fun _ _ sound stepped => (step_sound stepped).1 sound

/-- Settles O58. -/
theorem stepConservesPages : Obligations.StepConservesPages := fun _ _ sound stepped => (step_sound stepped).2.1 sound

/-- Settles O59. -/
theorem stepKeepsTracked : Obligations.StepKeepsTracked := fun _ _ sound stepped => (step_sound stepped).2.2.1 sound

/-- Settles O60. -/
theorem stepKeepsSlots : Obligations.StepKeepsSlots := fun _ _ sound stepped => (step_sound stepped).2.2.2 sound

end Sys2Proof.Proofs.Soundness
end

section
/-! PROOFS. The queue, the resets and the control link: what a step runs, what a reset leaves, what a byte and a packet
make of the link, and when a request reaches its owner. -/

namespace Sys2Proof.Proofs.Link
open Sys2Proof Sys2Proof.Machine

-- one declaration after another: each unfolds operations whose equations another would be waiting for
set_option Elab.async false

/-! ## The queue and the resets -/

/-- Settles O1: the two cases of `step`. -/
theorem stepRunsFrontCommand : Obligations.StepRunsFrontCommand := by
  refine ⟨fun c rest s => rfl, fun s empty => ?_⟩
  rw [step, empty]

/-- Every node of the table after reset is unwritten. -/
theorem reset_nodes_unwritten : ∀ n ∈ State.reset.otb.nodes, n.written = false := by
  intro n member
  rw [List.eq_of_mem_replicate (show n ∈ List.replicate 16 resetNode from member)]
  rfl

/-- Every program is absent after reset. -/
theorem reset_programs_absent (i : Nat) (h : i < 16) : State.reset.pcs.programs[i]? = some none := by
  show (List.replicate 16 none)[i]? = some none
  rw [List.getElem?_replicate, if_pos h]

/-- Settles O2, field by field of the reset state. -/
theorem resetLeaves : Obligations.ResetLeaves := by
  have axes : ∀ a : Axis, (State.reset.axis a).pp = none ∧ (State.reset.axis a).state = .released ∧
      (State.reset.axis a).target = none ∧ (State.reset.axis a).owner = none := by
    intro a
    cases a <;> exact ⟨rfl, rfl, rfl, rfl⟩
  exact ⟨rfl, rfl, rfl, rfl, rfl, rfl, rfl, axes, rfl, rfl, rfl, rfl, rfl, rfl, reset_nodes_unwritten, rfl, rfl, rfl,
    rfl, rfl, rfl, rfl, rfl, rfl, rfl, rfl, reset_programs_absent, rfl, rfl, rfl, rfl, rfl, rfl, rfl, rfl, rfl, rfl⟩

/-- Settles O3. -/
theorem hardwareResetTaken : Obligations.HardwareResetTaken := fun _ _ s =>
  congrArg Host.Outcome.next (by simp only [State.hardwareReset])

/-- After reset every page is in the free pool. -/
theorem reset_pagesSound : State.reset.pagesSound := by
  simp only [State.pagesSound, State.pages, State.reset, List.flatMap_nil, List.append_nil, List.Perm.refl]

/-- After reset nothing is tracked: the one notice is READY. -/
theorem reset_tracked : State.reset.tracked = 0 := by
  simp only [State.tracked_eq, State.reset]
  rfl

/-- Settles O56. -/
theorem resetSound : Obligations.ResetSound :=
  ⟨rfl, reset_pagesSound, by rw [State.trackedSound, reset_tracked]; omega, by
    rw [State.slotsSound]; decide⟩

/-! ## Requests and their owners (R198) -/

/-- A request other than RESTART is put to its owner. -/
theorem exec_request {c : Instr} {kind tag : Nat} {payload : List Byte}
    (encoded : encodeRequest c = some (kind, tag, payload)) (other : kind ≠ 2) (s : State) :
    ∃ decide : State → State, exec c s = .next (s.onRequest c tag decide) := by
  cases c <;> cases encoded
  case restart => exact absurd rfl other
  all_goals exact ⟨_, rfl⟩

/-- Settles O12. -/
theorem requestsReachOwners : Obligations.RequestsReachOwners := by
  intro c kind tag payload s encoded other
  obtain ⟨decide, ran⟩ := exec_request encoded other s
  refine ⟨fun waits => ?_, fun t taken zero => ?_⟩
  · rw [ran, State.onRequest_notTaken waits]
  · subst zero
    rw [ran, State.onRequest_tagZero taken]
    rfl

/-! ## The packet assembler (R196, R197) -/

/-- Outside a packet a framing error and a gap change nothing, and A5 begins a packet. -/
theorem linkByte_hunt {s : State} (hunts : s.lif.assembler = .hunt) (b : Byte) :
    s.linkByte b true = s ∧ s.linkGap = s ∧
    s.linkByte b false = if b = 0xA5#8 then { s with lif := { s.lif with assembler := .collect [] } } else s := by
  simp [State.linkByte, State.linkGap, hunts, State.onLif]

/-- Within a packet a framing error and a gap discard it, and a byte is judged with the ones before it. -/
theorem linkByte_collect {s : State} {bytes : List Byte} (collects : s.lif.assembler = .collect bytes) (b : Byte) :
    s.linkByte b true = s.discardPacket ∧ s.linkGap = s.discardPacket ∧
    s.linkByte b false = s.collect (bytes ++ [b]) := by
  simp [State.linkByte, State.linkGap, collects]

/-- A length above 240 discards the packet. -/
theorem collect_tooLong {bytes : List Byte} (long : 240 < get1 bytes 0) (s : State) :
    s.collect bytes = s.discardPacket := by
  simp only [State.collect, if_pos long]

/-- A packet not yet whole goes on. -/
theorem collect_partial {bytes : List Byte} (fits : get1 bytes 0 ≤ 240) (short : bytes.length < get1 bytes 0 + 5)
    (s : State) : s.collect bytes = { s with lif := { s.lif with assembler := .collect bytes } } := by
  simp only [State.collect, if_neg (Nat.not_lt.mpr fits), if_pos short, State.onLif]

/-- A whole packet is offered to the queue or discarded, by its check. -/
theorem collect_whole {bytes : List Byte} (fits : get1 bytes 0 ≤ 240) (whole : get1 bytes 0 + 5 ≤ bytes.length)
    (s : State) :
    s.collect bytes =
      if (packetCheck (bytes.take (get1 bytes 0 + 3))).toNat = get2 bytes (get1 bytes 0 + 3) then
        s.offerPacket { kind := bytes.getD 1 0, tag := bytes.getD 2 0, payload := (bytes.drop 3).take (get1 bytes 0) }
      else s.discardPacket := by
  simp only [State.collect, if_neg (Nat.not_lt.mpr fits), if_neg (Nat.not_lt.mpr whole), checkMatches, beq_iff_eq]

/-- The queue of four takes the packet, or the packet is discarded (R198). -/
theorem offerPacket_eq (s : State) (p : Packet) :
    s.offerPacket p =
      if s.lif.queue.length < 4 then { s with lif := { s.lif with assembler := .hunt, queue := s.lif.queue ++ [p] } }
      else s.discardPacket := by
  simp only [State.offerPacket, State.discardPacket, State.onLif]
  split <;> rfl

/-- Settles O4: in HUNT, and in COLLECT by the packet's length and check. -/
theorem linkByteTaken : Obligations.LinkByteTaken := by
  intro b s
  refine ⟨fun hunts => ?_, fun bytes collects => ?_⟩
  · obtain ⟨framing, gap, byte⟩ := linkByte_hunt hunts b
    exact ⟨congrArg _ framing, congrArg _ gap, congrArg _ byte⟩
  · obtain ⟨framing, gap, byte⟩ := linkByte_collect collects b
    refine ⟨congrArg _ framing, congrArg _ gap, fun long => ?_, fun fits short => ?_, fun fits whole wrong => ?_,
      fun fits whole right => ?_⟩
    · exact congrArg _ (byte.trans (collect_tooLong long s))
    · exact congrArg _ (byte.trans (collect_partial fits short s))
    · exact congrArg _ (byte.trans ((collect_whole fits whole s).trans (if_neg wrong)))
    · exact congrArg _ (byte.trans ((collect_whole fits whole s).trans ((if_pos right).trans (offerPacket_eq _ _))))

/-! ## A packet received whole (R196 to R198) -/

/-- The bytes of a packet that its check covers. -/
def coveredBytes (kind tag : Byte) (payload : List Byte) : List Byte :=
  byteOf payload.length :: kind :: tag :: payload

/-- The check of a packet. -/
def checkOf (kind tag : Byte) (payload : List Byte) : Nat := (packetCheck (coveredBytes kind tag payload)).toNat

/-- A packet is SYNC, the covered bytes and the check. -/
theorem packetBytes_eq (kind tag : Byte) (payload : List Byte) :
    packetBytes kind.toNat tag.toNat payload =
      0xA5#8 :: (coveredBytes kind tag payload ++ put2 (checkOf kind tag payload)) := by
  simp [packetBytes, checkOf, coveredBytes, byteOf]

theorem length_coveredBytes (kind tag : Byte) (payload : List Byte) :
    (coveredBytes kind tag payload).length = payload.length + 3 := rfl

/-- The first byte after SYNC is the payload's length. -/
theorem get1_coveredBytes {payload : List Byte} (fits : payload.length ≤ 240) (kind tag : Byte) (after : List Byte) :
    get1 (coveredBytes kind tag payload ++ after) 0 = payload.length := by
  show (byteOf payload.length).toNat = payload.length
  rw [byteOf_toNat]
  omega

/-- A whole packet is offered to the receive queue: its check is the check of its covered bytes. -/
theorem collect_packet {kind tag : Byte} {payload : List Byte} (fits : payload.length ≤ 240) (s : State) :
    s.collect (coveredBytes kind tag payload ++ put2 (checkOf kind tag payload)) =
      s.offerPacket { kind := kind, tag := tag, payload := payload } := by
  have len := get1_coveredBytes fits kind tag (put2 (checkOf kind tag payload))
  have covered : (coveredBytes kind tag payload ++ put2 (checkOf kind tag payload)).take (payload.length + 3) =
      coveredBytes kind tag payload := List.take_left' (length_coveredBytes kind tag payload)
  have check : get2 (coveredBytes kind tag payload ++ put2 (checkOf kind tag payload)) (payload.length + 3) =
      checkOf kind tag payload := by
    have first := get2_append (coveredBytes kind tag payload) (put2 (checkOf kind tag payload)) 0
    have read := get2_put2 (checkOf kind tag payload) [] (packetCheck (coveredBytes kind tag payload)).isLt
    rw [List.append_nil] at read
    rw [Nat.add_zero, length_coveredBytes, read] at first
    exact first
  have carried : ((coveredBytes kind tag payload ++ put2 (checkOf kind tag payload)).drop 3).take payload.length =
      payload := List.take_left' rfl
  rw [collect_whole (by omega) (by simp only [len, List.length_append, length_coveredBytes, length_put2]; omega), len,
    covered, check, if_pos (show (packetCheck (coveredBytes kind tag payload)).toNat = checkOf kind tag payload from rfl),
    carried]
  rfl

/-- Bytes short of a whole packet gather in the assembler. -/
theorem receiveBytes_partial (rest : List Byte) : ∀ (bytes : List Byte) (s : State),
    s.lif.assembler = .collect bytes → get1 (bytes ++ rest) 0 ≤ 240 →
    (bytes ++ rest).length < get1 (bytes ++ rest) 0 + 5 → ∀ after : List Byte,
      receiveBytes (rest ++ after) s =
        receiveBytes after { s with lif := { s.lif with assembler := .collect (bytes ++ rest) } } := by
  induction rest with
  | nil =>
    intro bytes s collects _ _ after
    have same : { s with lif := { s.lif with assembler := .collect (bytes ++ []) } } = s := by
      rw [List.append_nil, ← collects]
    rw [same, List.nil_append]
  | cons b rest ih =>
    intro bytes s collects fits short after
    have regroup : bytes ++ [b] ++ rest = bytes ++ b :: rest := by simp
    have head : get1 (bytes ++ b :: rest) 0 = get1 (bytes ++ [b]) 0 := by
      rw [← regroup, get1_append_left _ _ _ (by simp)]
    have taken : exec (.linkByteReceived b false) s =
        .next { s with lif := { s.lif with assembler := .collect (bytes ++ [b]) } } :=
      congrArg _ (((linkByte_collect collects b).2.2).trans
        (collect_partial (by omega) (by simp only [List.length_append, List.length_cons, List.length_nil] at *; omega)
          s))
    rw [List.cons_append, receiveBytes, taken]
    have next := ih (bytes ++ [b]) { s with lif := { s.lif with assembler := .collect (bytes ++ [b]) } } rfl
      (by rw [regroup]; exact fits) (by rw [regroup]; exact short) after
    rw [regroup] at next
    exact next

/-- The state with bytes taken after SYNC. -/
def collecting (s : State) (bytes : List Byte) : State :=
  { s with lif := { s.lif with assembler := .collect bytes } }

/-- Settles O5: SYNC, the bytes that gather, and the last byte, which makes the packet whole. -/
theorem packetReceivedWhole : Obligations.PacketReceivedWhole := by
  intro kind tag payload s fits hunts room
  let gathered := coveredBytes kind tag payload ++ [byteOf (checkOf kind tag payload / 256)]
  have split : coveredBytes kind tag payload ++ put2 (checkOf kind tag payload) =
      gathered ++ [byteOf (checkOf kind tag payload)] := by
    rw [List.append_assoc]
    rfl
  have sync : exec (.linkByteReceived 0xA5#8 false) s = .next (collecting s []) :=
    congrArg _ (linkByte_hunt hunts 0xA5#8).2.2
  have gathers : receiveBytes (gathered ++ [byteOf (checkOf kind tag payload)]) (collecting s []) =
      receiveBytes [byteOf (checkOf kind tag payload)] (collecting s gathered) :=
    receiveBytes_partial gathered [] (collecting s []) rfl
      (by rw [List.nil_append, get1_coveredBytes fits]; exact fits)
      (by rw [List.nil_append, get1_coveredBytes fits]
          simp only [gathered, List.length_append, length_coveredBytes, List.length_cons, List.length_nil]
          omega) _
  have last : exec (.linkByteReceived (byteOf (checkOf kind tag payload)) false) (collecting s gathered) =
      .next ((collecting s gathered).offerPacket { kind := kind, tag := tag, payload := payload }) := by
    refine congrArg _ ((linkByte_collect rfl _).2.2.trans ?_)
    rw [← split, collect_packet fits]
  rw [packetBytes_eq, receiveBytes, sync, split]
  show receiveBytes (gathered ++ _) (collecting s []) = _
  rw [gathers, receiveBytes, last]
  show receiveBytes [] ((collecting s gathered).offerPacket _) = _
  rw [offerPacket_eq, if_pos (show (collecting s gathered).lif.queue.length < 4 from room), receiveBytes]
  simp only [collecting, hunts]

/-! ## The head packet (R198, R201) -/

/-- The state with the head packet out of the receive queue. -/
def withQueue (s : State) (rest : List Packet) : State := { s with lif := { s.lif with queue := rest } }

/-- Once a RESTART has been taken no packet is. -/
theorem takePacket_restart {s : State} (restart : s.lif.restart ≠ .none) : s.takePacket = s := by
  unfold State.takePacket
  split
  · rfl
  · exact if_neg fun may => restart may.1

section
variable {s : State} {p : Packet} {rest : List Packet} (queue : s.lif.queue = p :: rest)
  (restart : s.lif.restart = .none)
include queue restart

/-- A feed is taken whatever is owed. -/
theorem takePacket_feed (feed : feedKinds.contains p.kind.toNat = true) :
    s.takePacket = (withQueue s rest).takeFeed p := by
  simp only [State.takePacket, queue, restart, State.mayTake, feed, Bool.true_or, and_self, if_true]
  rfl

omit restart in
/-- A packet LIF may not take stays. -/
theorem takePacket_stays (feed : feedKinds.contains p.kind.toNat = false)
    (owed : (if p.kind = 2#8 then s.owed == 0 else decide (s.owed < 4)) = false) : s.takePacket = s := by
  simp only [State.takePacket, queue, State.mayTake, feed, owed, Bool.or_self, and_false, if_false,
    Bool.false_eq_true]

/-- A request that LIF may take is judged. -/
theorem takePacket_request (feed : feedKinds.contains p.kind.toNat = false)
    (owed : (if p.kind = 2#8 then s.owed == 0 else decide (s.owed < 4)) = true) :
    s.takePacket = (withQueue s rest).takeRequest p := by
  simp only [State.takePacket, queue, restart, State.mayTake, feed, owed, Bool.or_true, and_self, if_true,
    Bool.false_eq_true, if_false]
  rfl

end

/-- The checks of a request, in their order (R198). -/
theorem takeRequest_eq (t : State) (p : Packet) :
    t.takeRequest p =
      if requestKinds.contains p.kind.toNat = false then t.refuse p.tag.toNat .unknownKind p.kind.toNat
      else if p.tag.toNat = 0 then t.refuse 0 .field 255
      else
        match decodeRequest p.kind.toNat p.tag.toNat p.payload with
        | none => t.refuse p.tag.toNat .length p.payload.length
        | some c =>
          { t with lif := { t.lif with
              handed := t.lif.handed ++ [c], restart := if p.kind.toNat = 2 then .taken else t.lif.restart } } := rfl

/-- A RESTART carries no payload. -/
theorem decodeRequest_restart (tag : Nat) (payload : List Byte) :
    decodeRequest 2 tag payload = if payload = [] then some (.restart tag) else none := by
  cases payload <;> rfl

/-- Settles O7: each case of the head packet by `takePacket` and the checks of `takeRequest`. -/
theorem headPacketTaken : Obligations.HeadPacketTaken := by
  refine ⟨fun s restart => congrArg _ (takePacket_restart restart), fun s p rest queue restart => ?_⟩
  have waiting : (withQueue s rest).lif.restart = .none := restart
  refine ⟨fun feed => ?_, fun feed other owed => ?_, fun feed other owed => ?_, fun kind => ?_⟩
  · refine congrArg _ ((takePacket_feed queue restart feed).trans ?_)
    simp only [State.takeFeed]
    split <;> (rename_i decoded; rw [decoded]; rfl)
  · exact congrArg _ (takePacket_stays queue feed (by rw [if_neg other]; simpa using owed))
  · have taken := takePacket_request queue restart feed (by rw [if_neg other]; simpa using owed)
    have otherCode : p.kind.toNat ≠ 2 := fun code => other (BitVec.eq_of_toNat_eq code)
    rw [takeRequest_eq] at taken
    refine ⟨fun unknown => ?_, fun known zero => ?_, fun known nonzero undecoded => ?_,
      fun c known nonzero decoded => ?_⟩
    · exact congrArg _ (taken.trans (if_pos unknown))
    · simp only [known, zero, Bool.true_eq_false, if_false, if_true] at taken
      exact congrArg _ taken
    · simp only [known, nonzero, undecoded, Bool.true_eq_false, if_false] at taken
      exact congrArg _ taken
    · simp only [known, nonzero, decoded, otherCode, Bool.true_eq_false, if_false] at taken
      exact congrArg _ taken
  · have code : p.kind.toNat = 2 := congrArg BitVec.toNat kind
    have feed : feedKinds.contains p.kind.toNat = false := by rw [code]; rfl
    have judged (none_owed : s.owed = 0) := takePacket_request queue restart feed (by simp [kind, none_owed])
    simp only [takeRequest_eq, code, decodeRequest_restart] at judged
    refine ⟨fun owed => ?_, fun owed zero => ?_, fun owed nonzero long => ?_, fun owed nonzero empty => ?_⟩
    · exact congrArg _ (takePacket_stays queue feed (by simpa [kind] using owed))
    · exact congrArg _ ((judged owed).trans (if_pos zero))
    · have taken := judged owed
      simp only [nonzero, long, if_false] at taken
      exact congrArg _ taken
    · have taken := judged owed
      simp only [nonzero, empty, if_false, if_true] at taken
      exact congrArg _ taken

end Sys2Proof.Proofs.Link
end

section
/-! PROOFS. The byte layouts of R202 and R203: a request and a feed are read back from their own payload. -/

namespace Sys2Proof.Proofs.Layout
open Sys2Proof Sys2Proof.Machine

-- one declaration after another: each unfolds operations whose equations another would be waiting for
set_option Elab.async false

/-! ## The forms of a field -/

theorem byteOf_eq_of_mod {m n : Nat} (h : m % 256 = n % 256) : byteOf m = byteOf n := by
  apply BitVec.eq_of_toNat_eq
  rw [byteOf_toNat, byteOf_toNat, h]

theorem put4_eq (n : Nat) : put4 n = put2 (n / 65536) ++ put2 n := by
  simp only [put4, put2, Nat.div_div_eq_div_mul, List.cons_append, List.nil_append]

/-- The two bytes of a field depend on its value modulo 65,536. -/
theorem put2_eq_of_mod {m n : Nat} (h : m % 65536 = n % 65536) : put2 m = put2 n := by
  rw [put2, put2, byteOf_eq_of_mod (show m / 256 % 256 = n / 256 % 256 by omega),
    byteOf_eq_of_mod (show m % 256 = n % 256 by omega)]

theorem putSigned_natCast (n : Nat) : putSigned n = put2 n := by
  refine put2_eq_of_mod ?_
  show ((n : Int) % 65536).toNat % 65536 = n % 65536
  omega

theorem putSigned_neg {n : Nat} (fits : n ≤ 65536) : putSigned (-n) = put2 (65536 - n) := by
  refine put2_eq_of_mod ?_
  show (-(n : Int) % 65536).toNat % 65536 = (65536 - n) % 65536
  omega

/-! ## Reading past what stands before a field -/

/-- A reading takes its bytes at its offset: bytes before them do not matter. -/
def Skips {α : Type} (get : List Byte → Nat → α) : Prop :=
  ∀ (a b : List Byte) (i : Nat), get (a ++ b) (a.length + i) = get b i

theorem Skips.past {α : Type} {get : List Byte → Nat → α} (h : Skips get) {a : List Byte} {i : Nat}
    (le : a.length ≤ i) (b : List Byte) : get (a ++ b) i = get b (i - a.length) := by
  obtain ⟨k, rfl⟩ := Nat.exists_eq_add_of_le le
  rw [h, Nat.add_sub_cancel_left]

theorem skips_get1 : Skips get1 := get1_append
theorem skips_get2 : Skips get2 := get2_append
theorem skips_get3 : Skips get3 := get3_append
theorem skips_get4 : Skips get4 := get4_append
theorem skips_getSigned : Skips getSigned := fun a b i => by simp only [getSigned, get2_append]
theorem skips_getValue : Skips getValue := fun a b i => by simp only [getValue, get2_append, skips_getSigned a b i]
theorem skips_getOption1 : Skips getOption1 := fun a b i => by simp only [getOption1, get1_append]
theorem skips_getOption2 : Skips getOption2 := fun a b i => by simp only [getOption2, get2_append]
theorem skips_getOption4 : Skips getOption4 := fun a b i => by simp only [getOption4, get4_append]

theorem skips_getMeter : Skips getMeter := fun a b i => by
  simp only [getMeter, Nat.add_assoc, get1_append, get2_append, skips_getSigned a b _]

theorem skips_getAf : Skips getAf := fun a b i => by
  simp only [getAf, Nat.add_assoc, get1_append, get4_append]

theorem skips_getExtent : Skips getExtent := fun a b i => by
  simp only [getExtent, Nat.add_assoc, get4_append]

theorem skips_getFragment : Skips getFragment := fun a b i => by
  simp only [getFragment, Nat.add_assoc, get4_append, get2_append]

theorem skips_getWriteBack : Skips getWriteBack := fun a b i => by
  simp only [getWriteBack, Nat.add_assoc, get1_append, get2_append, get4_append, skips_getOption4 a b _]

/-! The same for each kind of field; the premise is a Boolean, which `simp` evaluates. -/

@[simp] theorem get1_past {a : List Byte} {i : Nat} (le : decide (a.length ≤ i) = true) (b : List Byte) :
    get1 (a ++ b) i = get1 b (i - a.length) :=
  skips_get1.past (of_decide_eq_true le) b
@[simp] theorem get2_past {a : List Byte} {i : Nat} (le : decide (a.length ≤ i) = true) (b : List Byte) :
    get2 (a ++ b) i = get2 b (i - a.length) :=
  skips_get2.past (of_decide_eq_true le) b
@[simp] theorem get4_past {a : List Byte} {i : Nat} (le : decide (a.length ≤ i) = true) (b : List Byte) :
    get4 (a ++ b) i = get4 b (i - a.length) :=
  skips_get4.past (of_decide_eq_true le) b
@[simp] theorem getSigned_past {a : List Byte} {i : Nat} (le : decide (a.length ≤ i) = true) (b : List Byte) :
    getSigned (a ++ b) i = getSigned b (i - a.length) :=
  skips_getSigned.past (of_decide_eq_true le) b
@[simp] theorem getValue_past {a : List Byte} {i : Nat} (le : decide (a.length ≤ i) = true) (b : List Byte) :
    getValue (a ++ b) i = getValue b (i - a.length) :=
  skips_getValue.past (of_decide_eq_true le) b
@[simp] theorem getOption1_past {a : List Byte} {i : Nat} (le : decide (a.length ≤ i) = true) (b : List Byte) :
    getOption1 (a ++ b) i = getOption1 b (i - a.length) :=
  skips_getOption1.past (of_decide_eq_true le) b
@[simp] theorem getOption2_past {a : List Byte} {i : Nat} (le : decide (a.length ≤ i) = true) (b : List Byte) :
    getOption2 (a ++ b) i = getOption2 b (i - a.length) :=
  skips_getOption2.past (of_decide_eq_true le) b
@[simp] theorem getOption4_past {a : List Byte} {i : Nat} (le : decide (a.length ≤ i) = true) (b : List Byte) :
    getOption4 (a ++ b) i = getOption4 b (i - a.length) :=
  skips_getOption4.past (of_decide_eq_true le) b
@[simp] theorem getMeter_past {a : List Byte} {i : Nat} (le : decide (a.length ≤ i) = true) (b : List Byte) :
    getMeter (a ++ b) i = getMeter b (i - a.length) :=
  skips_getMeter.past (of_decide_eq_true le) b
@[simp] theorem getAf_past {a : List Byte} {i : Nat} (le : decide (a.length ≤ i) = true) (b : List Byte) :
    getAf (a ++ b) i = getAf b (i - a.length) :=
  skips_getAf.past (of_decide_eq_true le) b

/-! ## A field at the end of a payload -/

theorem get1_put1_last {n : Nat} (h : n < 256) : get1 (put1 n) 0 = n := by
  simpa using get1_put1 n [] h

theorem get2_put2_last {n : Nat} (h : n < 65536) : get2 (put2 n) 0 = n := by
  simpa using get2_put2 n [] h

theorem get4_put4_last {n : Nat} (h : n < 4294967296) : get4 (put4 n) 0 = n := by
  simpa using get4_put4 n [] h

theorem getOption1_putOption1_last {o : Option Nat} (h : fitsOption 255 o = true) :
    getOption1 (putOption1 o) 0 = o := by
  simpa using getOption1_putOption1 o [] h

theorem getOption2_putOption2_last {o : Option Nat} (h : fitsOption 65535 o = true) :
    getOption2 (putOption2 o) 0 = o := by
  simpa using getOption2_putOption2 o [] h

/-! ## A run of fields of one width -/

/-- The values a run was written from, each read at its place. -/
theorem map_get_flatMap_put {α : Type} {get : List Byte → Nat → α} {put : α → List Byte} (skips : Skips get)
    {width : Nat} (fixed : ∀ x, (put x).length = width) {xs : List α}
    (reads : ∀ x ∈ xs, ∀ after, get (put x ++ after) 0 = x) (after : List Byte) :
    ((List.range xs.length).map fun i => get (xs.flatMap put ++ after) (width * i)) = xs := by
  induction xs with
  | nil => rfl
  | cons x xs ih =>
    have tail := ih fun y member => reads y (List.mem_cons_of_mem x member)
    have step : ∀ i, get ((x :: xs).flatMap put ++ after) (width * (i + 1)) =
        get (xs.flatMap put ++ after) (width * i) := by
      intro i
      rw [List.flatMap_cons, List.append_assoc, Nat.mul_add, Nat.mul_one, Nat.add_comm, ← fixed x, skips]
    have head : get ((x :: xs).flatMap put ++ after) (width * 0) = x := by
      rw [List.flatMap_cons, List.append_assoc, Nat.mul_zero]
      exact reads x List.mem_cons_self _
    rw [List.length_cons, List.range_succ_eq_map, List.map_cons, List.map_map, head]
    congr 1
    exact (List.map_congr_left fun i _ => step i).trans tail

/-- The same, behind other bytes. -/
theorem map_get_run {α : Type} {get : List Byte → Nat → α} {put : α → List Byte} (skips : Skips get)
    {width : Nat} (fixed : ∀ x, (put x).length = width) {xs : List α}
    (reads : ∀ x ∈ xs, ∀ after, get (put x ++ after) 0 = x) {before : List Byte} {start : Nat}
    (place : before.length = start) (after : List Byte) :
    ((List.range xs.length).map fun i => get (before ++ (xs.flatMap put ++ after)) (start + width * i)) = xs := by
  subst place
  simp only [skips before]
  exact map_get_flatMap_put skips fixed reads after

/-! ## Groups of operands -/

/-- The 48 weights. -/
theorem weights_read {weights : List Nat} (fits : ∀ w ∈ weights, w < 256) (after : List Byte) :
    ((List.range weights.length).map fun z => get1 (weights.map byteOf ++ after) z) = weights := by
  have flat : weights.map byteOf = weights.flatMap put1 := List.map_eq_flatMap
  have run := map_get_flatMap_put skips_get1 length_put1 (fun w member l => get1_put1 w l (fits w member)) after
  simpa only [flat, Nat.one_mul] using run

theorem getMeter_putMeter {m : MeterOperands} (h : m.fits = true) (after : List Byte) :
    getMeter (putMeter m ++ after) 0 = m := by
  simp only [MeterOperands.fits, Bool.and_eq_true, decide_eq_true_eq, beq_iff_eq, List.all_eq_true] at h
  obtain ⟨⟨⟨⟨⟨⟨⟨⟨⟨⟨⟨mode, count⟩, weights⟩, target⟩, highlight⟩, low⟩, high⟩, convergence⟩, rounding⟩, gvMax⟩, knee⟩,
    tvFloor⟩ := h
  have run := weights_read weights
    (put2 m.target ++ (put1 m.highlight ++ (putSigned m.compensation ++ (put1 m.convergence ++ (put1 m.rounding ++
      (put1 m.gvMax ++ (put2 m.knee ++ (put2 m.tvFloor ++ after))))))))
  rw [count] at run
  simp [getMeter, putMeter, count, run, get1_put1, get2_put2, getSigned_putSigned, mode, target, highlight, low, high,
    convergence, rounding, gvMax, knee, tvFloor]

theorem getAf_putAf {a : AfOperands} (h : a.fits = true) (after : List Byte) : getAf (putAf a ++ after) 0 = a := by
  simp only [AfOperands.fits, Bool.and_eq_true, decide_eq_true_eq] at h
  obtain ⟨⟨⟨⟨⟨⟨⟨⟨mask, step⟩, condition⟩, fall⟩, threshold⟩, minimum⟩, skip⟩, span⟩, hold⟩ := h
  simp [getAf, putAf, get1_put1, get4_put4, mask, step, condition, fall, threshold, minimum, skip, span, hold]

theorem getScan_putScan {o : ScanOperands} (h : o.fits = true) : getScan (putScan o) = o := by
  simp only [ScanOperands.fits, Bool.and_eq_true] at h
  obtain ⟨⟨⟨⟨⟨⟨⟨⟨start, stop⟩, mask⟩, step⟩, condition⟩, fall⟩, threshold⟩, minimum⟩, skip⟩ := h
  simp [getScan, putScan, getOption1_putOption1, getOption2_putOption2, getOption4_putOption4,
    getOption1_putOption1_last, start, stop, mask, step, condition, fall, threshold, minimum, skip]

theorem getNode_putTableFields {f : NodeFields} (h : f.fits = true) (selector : Nat) :
    getNode (put1 selector ++ putTableFields (.node f)) = f := by
  simp only [NodeFields.fits, Bool.and_eq_true, decide_eq_true_eq] at h
  obtain ⟨⟨⟨⟨⟨⟨zoomStep, focal⟩, equiv⟩, avOpen⟩, fInf⟩, fNear⟩, gain⟩ := h
  simp [getNode, putTableFields, get2_put2, get4_put4_last, zoomStep, focal, equiv, avOpen, fInf, fNear, gain]

theorem getGlobal_putTableFields {f : GlobalFields} (h : f.fits = true) (selector : Nat) :
    getGlobal (put1 selector ++ putTableFields (.global f)) = f := by
  simp only [GlobalFields.fits, Bool.and_eq_true, decide_eq_true_eq] at h
  obtain ⟨⟨⟨⟨avCap, electronic⟩, mechanical⟩, stroke⟩, follow⟩ := h
  simp [getGlobal, putTableFields, get2_put2, get2_put2_last, avCap, electronic, mechanical, stroke, follow]

theorem getProgram_putProgram {o : ProgramOperands} (h : o.fits = true) : getProgram (putProgram o) = o := by
  simp only [ProgramOperands.fits, Bool.and_eq_true, decide_eq_true_eq] at h
  obtain ⟨⟨⟨⟨⟨⟨⟨⟨index, present⟩, kind⟩, mask⟩, count⟩, step⟩, interval⟩, between⟩, focusFirst⟩ := h
  simp [getProgram, putProgram, get1_put1, get1_put1_last, index, present, kind, mask, count, step, interval, between,
    focusFirst]

theorem getContext_putContext {o : ContextOperands} (h : o.fits = true) : getContext (putContext o) = o := by
  simp only [ContextOperands.fits, Bool.and_eq_true, decide_eq_true_eq] at h
  obtain ⟨⟨⟨⟨⟨⟨⟨⟨⟨slot, kind⟩, zoomStep⟩, d⟩, x⟩, meter⟩, af⟩, mode⟩, leak⟩, interval⟩ := h
  have weights := Sys2Proof.Laws.RequestLayout.meter_weights meter
  simp [getContext, putContext, weights, getMeter_putMeter meter, getAf_putAf af, get1_put1, get2_put2,
    getValue_putValue, getOption2_putOption2_last, slot, kind, zoomStep, d, x, mode, leak, interval]

theorem getExtent_putExtent {e : Extent} (h : e.fits = true) (after : List Byte) :
    getExtent (putExtent e ++ after) 0 = e := by
  simp only [Extent.fits, Bool.and_eq_true, decide_eq_true_eq] at h
  simp [getExtent, putExtent, get4_put4, h.1, h.2]

theorem getFragment_putFragment {f : Fragment} (h : f.fits = true) (after : List Byte) :
    getFragment (putFragment f ++ after) 0 = f := by
  simp only [Fragment.fits, Bool.and_eq_true, decide_eq_true_eq] at h
  simp [getFragment, putFragment, get4_put4, get2_put2, h.1, h.2]

theorem getWriteBack_putWriteBack {w : WriteBackOperand} (h : w.fits = true) (after : List Byte) :
    getWriteBack (putWriteBack w ++ after) 0 = w := by
  simp only [WriteBackOperand.fits, Bool.and_eq_true, decide_eq_true_eq] at h
  obtain ⟨⟨⟨cluster, block⟩, valid⟩, relocation⟩ := h
  simp [getWriteBack, putWriteBack, get1_put1, get2_put2, get4_put4, getOption4_putOption4, cluster, block, valid,
    relocation]

/-! ## Lists in a payload -/

theorem extents_read {extents : List Extent} (fits : ∀ e ∈ extents, e.fits = true) (count : Nat) :
    ((List.range extents.length).map fun i => getExtent (put1 count ++ extents.flatMap putExtent) (1 + 8 * i)) =
      extents := by
  simpa using map_get_run skips_getExtent length_putExtent (fun e member l => getExtent_putExtent (fits e member) l)
    (length_put1 count) []

/-- The bytes of a STATS feed before its zones. -/
def statsHead (f : StatsFeed) : List Byte := put2 f.frame ++ (put2 f.serial ++ put1 f.hostMark)

theorem zones_read {f : StatsFeed} (fits : ∀ z ∈ f.zones, z < 65536) (after : List Byte) :
    ((List.range f.zones.length).map fun z => get2 (statsHead f ++ (f.zones.flatMap put2 ++ after)) (5 + 2 * z)) =
      f.zones :=
  map_get_run skips_get2 length_put2 (fun z member l => get2_put2 z l (fits z member)) rfl after

theorem contrasts_read {f : StatsFeed} (zones : f.zones.length = 48) (fits : ∀ z ∈ f.contrasts, z < 16777216) :
    ((List.range f.contrasts.length).map fun w =>
      get3 (statsHead f ++ (f.zones.flatMap put2 ++ f.contrasts.flatMap put3)) (101 + 3 * w)) = f.contrasts := by
  have place : (statsHead f ++ f.zones.flatMap put2).length = 101 := by simp [statsHead, zones]
  have run := map_get_run skips_get3 length_put3 (fun z member l => get3_put3 z l (fits z member)) place []
  simpa only [List.append_nil, List.append_assoc] using run

/-! ## The edited fault record -/

/-- The bytes of a FAULT-RETURN up to its write-backs, their count last. -/
def faultHead (disposition : Nat) (f : FaultOperands) : List Byte :=
  put1 disposition ++ (put1 f.format ++ (put2 f.picture ++ (put2 f.written ++ (putOption2 f.cluster ++
    (putOption4 f.block ++ (putOption1 f.response ++ (put1 f.continuation ++ (put1 f.repeats ++
      put1 f.writeBacks.length))))))))

theorem length_faultHead (disposition : Nat) (f : FaultOperands) : (faultHead disposition f).length = 16 := by
  simp [faultHead]

/-- A FAULT-RETURN's payload: the head, the write-backs, the count of the fragments and the fragments. -/
theorem faultReturn_payload (disposition : Nat) (f : FaultOperands) :
    put1 disposition ++ putFault f =
      faultHead disposition f ++ (f.writeBacks.flatMap putWriteBack ++
        (put1 f.fragments.length ++ f.fragments.flatMap putFragment)) := by
  simp [faultHead, putFault]

/-- The counts of the write-backs and of the fragments, and the lists they lead to. -/
theorem fault_lists_read {f : FaultOperands} (h : f.fits = true) (disposition : Nat) :
    let p := put1 disposition ++ putFault f
    get1 p 15 = f.writeBacks.length ∧ get1 p (16 + 11 * f.writeBacks.length) = f.fragments.length ∧
    ((List.range f.writeBacks.length).map fun i => getWriteBack p (16 + 11 * i)) = f.writeBacks ∧
    ((List.range f.fragments.length).map fun i => getFragment p (17 + 11 * f.writeBacks.length + 6 * i)) =
      f.fragments := by
  have short := Sys2Proof.Laws.RequestLayout.fault_length h
  simp only [FaultOperands.fits, Bool.and_eq_true, List.all_eq_true] at h
  obtain ⟨⟨-, writeBacks⟩, fragments⟩ := h
  intro p
  have payload : p = _ := faultReturn_payload disposition f
  refine ⟨?_, ?_, ?_, ?_⟩
  · rw [payload, get1_append_left _ _ _ (by rw [length_faultHead]; omega)]
    simp [faultHead]
    exact get1_put1_last (by omega)
  · have place : (faultHead disposition f ++ f.writeBacks.flatMap putWriteBack).length =
        16 + 11 * f.writeBacks.length := by rw [List.length_append, length_faultHead, length_putWriteBacks]
    have read := get1_append (faultHead disposition f ++ f.writeBacks.flatMap putWriteBack)
      (put1 f.fragments.length ++ f.fragments.flatMap putFragment) 0
    rw [place, Nat.add_zero, List.append_assoc, ← payload, get1_put1 _ _ (by omega)] at read
    exact read
  · rw [payload]
    exact map_get_run skips_getWriteBack length_putWriteBack
      (fun w member l => getWriteBack_putWriteBack (writeBacks w member) l) (length_faultHead disposition f) _
  · have place : (faultHead disposition f ++ (f.writeBacks.flatMap putWriteBack ++ put1 f.fragments.length)).length =
        17 + 11 * f.writeBacks.length := by
      simp only [List.length_append, length_faultHead, length_putWriteBacks, length_put1]
      omega
    have run := map_get_run skips_getFragment length_putFragment
      (fun w member l => getFragment_putFragment (fragments w member) l) place []
    rw [payload]
    simpa only [List.append_assoc, List.append_nil] using run

theorem getFault_putFault {f : FaultOperands} (h : f.fits = true) (disposition : Nat) :
    getFault (put1 disposition ++ putFault f) f.writeBacks.length f.fragments.length = f := by
  obtain ⟨-, -, writeBacks, fragments⟩ := fault_lists_read h disposition
  simp only [FaultOperands.fits, Bool.and_eq_true, decide_eq_true_eq] at h
  obtain ⟨⟨⟨⟨⟨⟨⟨⟨⟨⟨format, picture⟩, written⟩, cluster⟩, block⟩, response⟩, continuation⟩, repeats⟩, -⟩, -⟩, -⟩ := h
  rw [getFault, writeBacks, fragments]
  simp [putFault, get1_put1, get2_put2, getOption1_putOption1, getOption2_putOption2, getOption4_putOption4, format,
    picture, written, cluster, block, response, continuation, repeats]

/-! ## Requests and feeds -/

/-- A well-formed request is read back from its own payload, HOME with its flag levels low. -/
theorem decodeRequest_encodeRequest {c : Instr} (wf : c.wellFormed = true) {kind tag : Nat} {payload : List Byte}
    (encoded : encodeRequest c = some (kind, tag, payload)) : decodeRequest kind tag payload = some c.atLink := by
  cases c <;> cases encoded <;>
    simp only [Instr.wellFormed, Bool.and_eq_true, decide_eq_true_eq, List.all_eq_true] at wf
  case tableLoad fields =>
    obtain ⟨⟨-, selector⟩, fits⟩ := wf
    cases fields with
    | node f => simp [decodeRequest, Instr.atLink, get1_put1, selector, getNode_putTableFields fits]
    | global f => simp [decodeRequest, Instr.atLink, get1_put1, selector, getGlobal_putTableFields fits]
  case meterSet ops =>
    have read := getMeter_putMeter wf.2 []
    rw [List.append_nil] at read
    simp [decodeRequest, Instr.atLink, Sys2Proof.Laws.RequestLayout.meter_weights wf.2, read]
  case afSet ops =>
    have read := getAf_putAf wf.2 []
    rw [List.append_nil] at read
    simp [decodeRequest, Instr.atLink, read]
  case scan ops => simp [decodeRequest, Instr.atLink, getScan_putScan wf.2]
  case programSet ops => simp [decodeRequest, Instr.atLink, getProgram_putProgram wf.2]
  case contextSet ops =>
    simp [decodeRequest, Instr.atLink, Sys2Proof.Laws.RequestLayout.context_weights wf.2, getContext_putContext wf.2]
  case extentsGive extents =>
    obtain ⟨⟨-, count⟩, fits⟩ := wf
    simp only [decodeRequest, Instr.atLink, get1_put1 _ _ (show extents.length < 256 by omega), extents_read fits]
    rw [if_pos (by rw [List.length_append, length_put1, length_putExtents])]
  case faultReturn disposition edited =>
    obtain ⟨⟨-, small⟩, fits⟩ := wf
    obtain ⟨writeBacks, fragments, -, -⟩ := fault_lists_read fits disposition
    simp only [decodeRequest, Instr.atLink, writeBacks, fragments, getFault_putFault fits, get1_put1 _ _ small]
    rw [if_pos]
    simp only [List.length_append, length_put1, length_putFault]
    omega
  case shoot program count =>
    cases count <;> refine congrArg some ?_ <;>
      simp [Instr.atLink, get1_put1, getOption1_putOption1_last, wf]
  all_goals
    refine congrArg some ?_
    simp [Instr.atLink, get1_put1, get2_put2, get1_put1_last, get2_put2_last, wf]

/-- A well-formed feed is read back from its own payload. -/
theorem decodeFeed_encodeFeed {c : Instr} (wf : c.wellFormed = true) {kind : Nat} {payload : List Byte}
    (encoded : encodeFeed c = some (kind, payload)) : decodeFeed kind payload = some c := by
  cases c <;> cases encoded
  case armed picture =>
    have fits : picture < 65536 := of_decide_eq_true wf
    simp [decodeFeed, get2_put2_last fits]
  case stats f =>
    simp only [Instr.wellFormed, StatsFeed.fits, Bool.and_eq_true, decide_eq_true_eq, beq_iff_eq, List.all_eq_true]
      at wf
    obtain ⟨⟨⟨⟨⟨⟨frame, serial⟩, hostMark⟩, zoneCount⟩, zones⟩, contrastCount⟩, contrasts⟩ := wf
    have zonesRead := zones_read zones (f.contrasts.flatMap put3)
    have contrastsRead := contrasts_read zoneCount contrasts
    simp only [zoneCount, contrastCount, statsHead, List.append_assoc] at zonesRead contrastsRead
    simp [decodeFeed, get1_put1, get2_put2, frame, serial, hostMark, zoneCount, contrastCount, zonesRead,
      contrastsRead]

/-- Settles O6: the forms of the fields, and the reading of each request and feed. -/
theorem payloadsReadBack : Obligations.PayloadsReadBack :=
  ⟨fun n => ⟨rfl, rfl, put4_eq n, putSigned_natCast n, putSigned_neg, rfl, rfl, rfl⟩, fun _ => rfl, rfl, rfl, rfl, rfl,
    fun _ wf => ⟨fun _ _ _ encoded => decodeRequest_encodeRequest wf encoded,
      fun _ _ encoded => decodeFeed_encodeFeed wf encoded⟩⟩

end Sys2Proof.Proofs.Layout
end

section
/-! PROOFS. What the card store's shared operations do, said once: records freed, holds ended, the store's stops, the
choice at a picture boundary, placement and the start of an exchange (R163, R178 to R182). -/

namespace Sys2Proof.Proofs.CardFacts
open Sys2Proof Sys2Proof.Machine

-- one declaration after another: each unfolds operations whose equations another would be waiting for
set_option Elab.async false

/-! ## The operation table -/

/-- A kind not in the table has no entry. -/
theorem entryOfKind_none {s : State} {k : OpKind} (absent : s.hasKind k = false) : s.entryOfKind k = none := by
  simpa [State.hasKind, State.entryOfKind] using absent

/-- A kind that has an entry is in the table. -/
theorem hasKind_of_entryOfKind {s : State} {k : OpKind} {e : OpEntry} (found : s.entryOfKind k = some e) :
    s.hasKind k = true := by
  have member := List.mem_of_find?_eq_some found
  have kind := List.find?_some (p := fun x : OpEntry => x.kind == k) found
  exact List.any_eq_true.mpr ⟨e, member, kind⟩

/-- The entry of a tag found with a changed entry of that tag. -/
theorem entry_updateEntry {s : State} {tag : Nat} {e : OpEntry} (found : s.entry tag = some e) {f : OpEntry → OpEntry}
    (keeps : ∀ x : OpEntry, (f x).tag = x.tag) : (s.updateEntry tag f).entry tag = some (f e) := by
  simp only [State.entry, State.updateEntry] at *
  generalize s.opt.table = l at found ⊢
  induction l with
  | nil => cases found
  | cons x rest ih =>
    rw [List.find?_cons] at found
    rw [List.map_cons, List.find?_cons]
    by_cases here : x.tag = tag
    · rw [if_pos here, keeps, here]
      simp only [here, beq_self_eq_true, Option.some.injEq] at found ⊢
      rw [found]
    · rw [if_neg here]
      have differs : (x.tag == tag) = false := by simpa using here
      rw [differs] at found ⊢
      exact ih found

/-- The entry of a kind found with its own entry changed. -/
theorem entryOfKind_updateEntry {s : State} {k : OpKind} {e : OpEntry} (found : s.entryOfKind k = some e)
    {f : OpEntry → OpEntry} (keeps : ∀ x : OpEntry, (f x).kind = x.kind) :
    (s.updateEntry e.tag f).entryOfKind k = some (f e) := by
  simp only [State.entryOfKind, State.updateEntry] at *
  generalize s.opt.table = l at found ⊢
  induction l with
  | nil => cases found
  | cons x rest ih =>
    have kinds : ((if x.tag = e.tag then f x else x).kind == k) = (x.kind == k) := by
      split
      · rw [keeps]
      · rfl
    rw [List.find?_cons] at found
    rw [List.map_cons, List.find?_cons, kinds]
    split at found
    · cases found
      rw [if_pos rfl]
    · exact ih found

/-- The table without a tag, whatever has become of its entry. -/
theorem filter_updateEntry (s : State) (tag : Nat) {f : OpEntry → OpEntry} (keeps : ∀ x : OpEntry, (f x).tag = x.tag) :
    ((s.updateEntry tag f).opt.table.filter fun x => x.tag != tag) = s.opt.table.filter fun x => x.tag != tag := by
  rw [State.updateEntry_table]
  generalize s.opt.table = l
  induction l with
  | nil => rfl
  | cons x rest ih =>
    rw [List.map_cons, List.filter_cons, List.filter_cons, ih]
    by_cases here : x.tag = tag
    · simp [here, keeps]
    · simp [here]

/-- A unit counted and the entry ended: one ENDING with the units, and the table without the entry (R3, R6). -/
theorem ending_countUnit {s : State} {tag : Nat} {e : OpEntry} (found : s.entry tag = some e) (cls : EndClass)
    (cause : Cause) (resume : Resume) (result : Option Nat) (fields : EndFields) :
    (s.countUnit tag).ending tag cls cause resume result fields =
      { s with opt :=
          { table := s.opt.table.filter fun f => f.tag != tag,
            outbox := s.opt.outbox ++
              [.ending { tag := tag, kind := e.kind, cls := cls, cause := cause, done := min 65535 (e.done + 1),
                         resume := resume, result := result, fields := fields }] } } := by
  have counted : (s.countUnit tag).entry tag = some { e with done := min 65535 (e.done + 1) } :=
    entry_updateEntry found fun _ => rfl
  rw [State.ending_entry counted]
  have table := filter_updateEntry s tag (f := fun e => { e with done := min 65535 (e.done + 1) }) fun _ => rfl
  simp only [State.removeEntry, State.countUnit, State.place, table]
  rfl

/-- The ending of an entry as it stands. -/
theorem ending_eq {s : State} {tag : Nat} {e : OpEntry} (found : s.entry tag = some e) (cls : EndClass)
    (cause : Cause) (resume : Resume) (result : Option Nat) (fields : EndFields) :
    s.ending tag cls cause resume result fields =
      { s with opt :=
          { table := s.opt.table.filter fun f => f.tag != tag,
            outbox := s.opt.outbox ++
              [.ending { tag := tag, kind := e.kind, cls := cls, cause := cause, done := e.done,
                         resume := resume, result := result, fields := fields }] } } := by
  rw [State.ending_entry found]
  rfl

/-! ## The entry of an accepted request (R4) -/

/-- The entry a request is given. -/
def newEntry (tag : Nat) (kind : OpKind) (state : OpState) (planned : Option Nat) : OpEntry :=
  { tag := tag, kind := kind, state := state, done := 0, planned := planned, cause := none }

theorem accepted_entryOfKind {t : State} {kind : OpKind} (absent : t.hasKind kind = false) (tag : Nat) (state : OpState)
    (planned : Option Nat) :
    (t.accepted tag kind state planned).entryOfKind kind = some (newEntry tag kind state planned) := by
  have before := entryOfKind_none absent
  simp only [State.entryOfKind] at before ⊢
  rw [State.accepted_table, List.find?_append, before]
  simp [newEntry]

theorem accepted_entry {t : State} {tag : Nat} (room : t.hasRoom tag) (kind : OpKind) (state : OpState)
    (planned : Option Nat) :
    (t.accepted tag kind state planned).entry tag = some (newEntry tag kind state planned) := by
  have before : t.opt.table.find? (fun e => e.tag == tag) = none :=
    List.find?_eq_none.mpr fun e member => by simpa using State.hasRoom_noEntry room e member
  rw [State.entry, State.accepted_table, List.find?_append, before]
  simp [newEntry]

/-- Without the new entry the table is the one before. -/
theorem accepted_filter {t : State} {tag : Nat} (room : t.hasRoom tag) (kind : OpKind) (state : OpState)
    (planned : Option Nat) :
    ((t.accepted tag kind state planned).opt.table.filter fun f => f.tag != tag) = t.opt.table := by
  have kept : t.opt.table.filter (fun f => f.tag != tag) = t.opt.table :=
    List.filter_eq_self.mpr fun e member => by simpa using State.hasRoom_noEntry room e member
  rw [State.accepted_table, List.filter_append, kept]
  simp

/-! ## Attentions beside the store -/

/-- The notices and the table after an ATTENTION (R14). -/
def attend (o : Opt) (source : Source) (condition : Condition) (detail : Nat) : Opt :=
  if o.outbox.any (isAttention source) then
    { o with outbox := o.outbox.map (renewAttention source condition detail) }
  else { o with outbox := o.outbox ++ [.attention source condition detail 1] }

/-- An ATTENTION writes the notices alone. -/
theorem attention_eq (s : State) (source : Source) (condition : Condition) (detail : Nat) :
    s.attention source condition detail = { s with opt := attend s.opt source condition detail } := by
  rw [State.attention, attend]
  split <;> rfl

@[simp] theorem attend_table (o : Opt) (source : Source) (condition : Condition) (detail : Nat) :
    (attend o source condition detail).table = o.table := by
  rw [attend]
  split <;> rfl

/-! ## Records (R163) -/

/-- A record's pages return to the pool's tail and its id leaves the store queue. -/
theorem freeRecord_found {s : State} {id : Nat} {r : PicRecord} (found : s.record id = some r) :
    s.freeRecord id =
      { s with
          pbf := { s.pbf with freePages := s.pbf.freePages ++ (r.pages ++ r.reserved),
                              records := s.pbf.records.erase r },
          csu := { s.csu with queue := s.csu.queue.filter fun p => p != id } } := by
  rw [State.freeRecord, found]
  rfl

/-! ## Holds (R180) -/

theorem endHold_none {s : State} (none : s.hasKind .storeHold = false) (paused : Bool) : s.endHold paused = s := by
  simp only [State.endHold, entryOfKind_none none]

/-- The placement with a deferred HOLD forgotten (R191). -/
theorem forgetHold_eq (s : State) :
    s.forgetHold =
      { s with csu := { s.csu with
          placement := s.csu.placement.map fun p =>
            if p.deferred = .hold then { p with deferred := .none } else p } } := rfl

/-- What a STORE-HOLD reports of the record in hand (R180). -/
def holdCurrent (s : State) : Option (Nat × Nat) :=
  s.csu.current.map fun id => (id, match s.csu.placement with | some p => p.written + p.ahead.length | none => 0)

theorem holdFields_eq (s : State) : s.holdFields = .storeHold s.csu.store (holdCurrent s) s.csu.queue.length := rfl

theorem holdFields_forgetHold (s : State) : s.forgetHold.holdFields = s.holdFields := by
  simp only [holdFields_eq, holdCurrent, forgetHold_eq]
  cases s.csu.placement with
  | none => rfl
  | some p => simp only [Option.map_some]; split <;> rfl

/-- The store pauses, and a waiting STORE-HOLD ends PAUSED with its unit counted. -/
theorem endHold_paused {s : State} {e : OpEntry} (kind : s.entryOfKind .storeHold = some e)
    (found : s.entry e.tag = some e) :
    s.endHold true =
      { s.forgetHold with opt :=
          { table := s.opt.table.filter fun f => f.tag != e.tag,
            outbox := s.opt.outbox ++
              [.ending { tag := e.tag, kind := e.kind, cls := .complete, cause := .none,
                         done := min 65535 (e.done + 1), resume := .absent, result := some 0,
                         fields := .storeHold s.csu.store (holdCurrent s) s.csu.queue.length }] } } := by
  simp only [State.endHold, kind, if_true]
  have fields : (s.forgetHold.countUnit e.tag).holdFields = s.holdFields := holdFields_forgetHold s
  rw [fields, ending_countUnit (s := s.forgetHold) found]
  rfl

/-- A STORE-HOLD that finds the store DISABLED ends so, with no unit. -/
theorem endHold_disabled {s : State} {e : OpEntry} (kind : s.entryOfKind .storeHold = some e)
    (found : s.entry e.tag = some e) :
    s.endHold false =
      { s.forgetHold with opt :=
          { table := s.opt.table.filter fun f => f.tag != e.tag,
            outbox := s.opt.outbox ++
              [.ending { tag := e.tag, kind := e.kind, cls := .complete, cause := .none, done := e.done,
                         resume := .absent, result := some 1,
                         fields := .storeHold s.csu.store (holdCurrent s) s.csu.queue.length }] } } := by
  simp only [State.endHold, kind, Bool.false_eq_true, if_false]
  rw [holdFields_forgetHold, ending_eq (s := s.forgetHold) found]
  rfl

theorem enterPaused_noHold {s : State} (none : s.hasKind .storeHold = false) :
    s.enterPaused = { s with csu := { s.csu with store := .paused } } := by
  rw [State.enterPaused]
  exact endHold_none (s := s.onCsu fun c => { c with store := .paused }) none true

theorem enterDisabled_noHold {s : State} (none : s.hasKind .storeHold = false) :
    s.enterDisabled = { s with csu := { s.csu with store := .disabled, restarted := false } } := by
  rw [State.enterDisabled]
  exact endHold_none (s := s.onCsu fun c => { c with store := .disabled, restarted := false }) none false

/-! ## The choice at a picture boundary (R178) -/

theorem boundaryChoice_closed {s : State} (card : s.csu.card = .absent ∨ s.csu.card = .present) :
    s.boundaryChoice = s.enterDisabled := by
  have closed : s.csu.card.ready = false := by obtain card | card := card <;> rw [card] <;> rfl
  rw [State.boundaryChoice, if_pos closed]

theorem boundaryChoice_stops {s : State} (card : s.csu.card = .opened ∨ s.csu.card = .protect)
    (stops : s.hasKind .storeHold = true ∨ s.csu.card = .protect) : s.boundaryChoice = s.enterPaused := by
  have ready : s.csu.card.ready = true := by obtain card | card := card <;> rw [card] <;> rfl
  have waits : (s.holdWaits || s.csu.card == .protect) = true := by simpa [State.holdWaits] using stops
  rw [State.boundaryChoice, if_neg (by rw [ready]; decide), if_pos waits]

theorem boundaryChoice_open {s : State} (card : s.csu.card = .opened) (none : s.hasKind .storeHold = false) :
    s.boundaryChoice = s.takeOrIdle := by
  have waits : (s.holdWaits || s.csu.card == .protect) = false := by simp [State.holdWaits, none, card]
  rw [State.boundaryChoice, if_neg (by rw [card]; decide), if_neg (by rw [waits]; decide)]

theorem takeOrIdle_idle {s : State} (queue : s.csu.queue = []) :
    s.takeOrIdle = { s with csu := { s.csu with store := .idle } } := by
  rw [State.takeOrIdle, queue]
  rfl

theorem takeOrIdle_take {s : State} {id : Nat} {rest : List Nat} (queue : s.csu.queue = id :: rest) :
    s.takeOrIdle = s.takeHead id := by
  rw [State.takeOrIdle, queue]

/-! ## Placement and exchanges (R181, R182) -/

/-- The record of an id after its first record is changed. -/
theorem record_setRecord_map {s : State} {id : Nat} {r : PicRecord} (found : s.record id = some r)
    {f : PicRecord → PicRecord} (keeps : (f r).id = r.id) : (s.setRecord id f).record id = some (f r) := by
  have same : r.id = id := by simpa using List.find?_some found
  have changed := State.record_setRecord s id r (f r) found (keeps.trans same)
  simp only [State.record, State.setRecord] at found changed ⊢
  rw [← changed]
  generalize s.pbf.records = l at found ⊢
  congr 1
  induction l with
  | nil => rfl
  | cons x rest ih =>
    rw [List.find?_cons] at found
    unfold updateFirst
    split at found
    · rename_i here
      cases found
      simp only [here, if_true]
    · rename_i here
      simp only [here, Bool.false_eq_true, if_false, ih found]

/-- Without space, or where the walk takes more than 16 extents, the store waits and says so. -/
theorem placeCurrent_short {s : State} {id n : Nat} {r : PicRecord} (current : s.csu.current = some id)
    (found : s.record id = some r) (length : r.length = some n)
    (short : ∀ fs left, walkPool s.csu.cluster (clustersFor s.csu.cluster n) s.csu.pool = some (fs, left) →
      16 < fs.length) :
    s.placeCurrent =
      State.attention { s with csu := { s.csu with store := .waitSpace } } .store .needSpace
        (clustersFor s.csu.cluster n) := by
  cases walk : walkPool s.csu.cluster (clustersFor s.csu.cluster n) s.csu.pool with
  | none => simp [State.placeCurrent, State.onCsu, current, found, length, walk]
  | some taken =>
    obtain ⟨fs, left⟩ := taken
    simp [State.placeCurrent, State.onCsu, current, found, length, walk, short fs left walk]

/-- A placement just made. -/
def placementOf (fragments : List Fragment) : Placement :=
  { fragments := fragments, written := 0, ahead := [], retries := 0, writeBacks := [], deferred := .none, repeats := 0 }

/-- With space the fragments leave the pool and writing begins, or the store pauses with the card PROTECTED. -/
theorem placeCurrent_placed {s : State} {id n : Nat} {r : PicRecord} (current : s.csu.current = some id)
    (found : s.record id = some r) (length : r.length = some n) {fs : List Fragment} {left : List Extent}
    (walk : walkPool s.csu.cluster (clustersFor s.csu.cluster n) s.csu.pool = some (fs, left))
    (few : fs.length ≤ 16) :
    s.placeCurrent =
      let t : State := { s with csu := { s.csu with pool := left, placement := some (placementOf fs) } }
      if s.csu.card = .protect then t.enterPaused else t.resumeWriting := by
  simp [State.placeCurrent, State.onCsu, placementOf, current, found, length, walk, Nat.not_lt.mpr few]

/-- Writing goes on from the first cluster not yet written. -/
theorem resumeWriting_write {s : State} {p : Placement} (placement : s.csu.placement = some p)
    (more : p.written < clustersOf p.fragments) :
    s.resumeWriting = State.startExchange { s with csu := { s.csu with store := .writing, restarted := false } } := by
  simp [State.resumeWriting, State.onCsu, placement, Nat.not_le.mpr more]

/-- An exchange starts at the first cluster not yet written, when no stop command is still going on. -/
theorem startExchange_starts {s : State} {p : Placement} {b n : Nat} (placement : s.csu.placement = some p)
    (busy : s.csu.stopBusy = false) (awaiting : s.csu.awaiting ≠ some .stop)
    (place : clusterPlace s.csu.cluster p.fragments p.written = some (b, n)) :
    s.startExchange =
      let m := if p.writeBacks = [] then n else 1
      { s with csu := { s.csu with
          exchange := some { first := p.written, clusters := m, accepted := 0, busy := false, counted := 0 },
          awaiting := some (.blockCount (m * s.csu.cluster)) } } := by
  have idle : s.csu.stopping = false := by simp [Csu.stopping, busy, awaiting]
  simp [State.startExchange, State.onCsu, idle, placement, place]

/-- While a stop command goes on, an exchange does not start. -/
theorem startExchange_waits {s : State} (stopping : s.csu.stopping = true) : s.startExchange = s := by
  rw [State.startExchange, if_pos stopping]

/-- The first exchange of a placement whose first fragment is not empty. -/
theorem resumeWriting_first {s : State} {f : Fragment} {more : List Fragment}
    (placement : s.csu.placement = some (placementOf (f :: more))) (holds : 0 < f.clusters)
    (busy : s.csu.stopBusy = false) (awaiting : s.csu.awaiting ≠ some .stop) :
    s.resumeWriting =
      { s with csu := { s.csu with
          store := .writing, restarted := false,
          exchange := some { first := 0, clusters := f.clusters, accepted := 0, busy := false, counted := 0 },
          awaiting := some (.blockCount (f.clusters * s.csu.cluster)) } } := by
  have unwritten : 0 < clustersOf (f :: more) := by
    simp only [clustersOf, List.map_cons, List.sum_cons]
    omega
  have place : clusterPlace s.csu.cluster (f :: more) 0 = some (f.start + 0 * s.csu.cluster, f.clusters - 0) := by
    rw [clusterPlace, if_pos holds]
  refine (resumeWriting_write placement unwritten).trans ?_
  exact startExchange_starts (p := placementOf (f :: more)) (b := f.start + 0 * s.csu.cluster) (n := f.clusters - 0)
    (s := { s with csu := { s.csu with store := .writing, restarted := false } }) placement busy awaiting place

end Sys2Proof.Proofs.CardFacts
end

section
/-! PROOFS. The order on LTX and what the end of a packet does (R13, R150, R185, R199). -/

namespace Sys2Proof.Proofs.Transmission
open Sys2Proof Sys2Proof.Machine Sys2Proof.Proofs.CardFacts

-- one declaration after another: each unfolds operations whose equations another would be waiting for
set_option Elab.async false

/-- The state with LTX free. -/
def lineFree (s : State) : State := { s with lif := { s.lif with tx := none } }

/-! ## The start of a packet -/

theorem startPacket_busy {s : State} {p : TxPacket} (tx : s.lif.tx = some p) : s.startPacket = s := by
  simp [State.startPacket, tx]

theorem startPacket_reply {s : State} {r : Reply} {rest : List Reply} (tx : s.lif.tx = none)
    (replies : s.lif.replies = r :: rest) :
    s.startPacket = { s with lif := { s.lif with replies := rest, tx := some (txPacket (.reply r)) } } := by
  simp [State.startPacket, State.onLif, tx, replies]

theorem startPacket_notice {s : State} {n : Notice} {rest : List Notice} (tx : s.lif.tx = none)
    (replies : s.lif.replies = []) (outbox : s.opt.outbox = n :: rest) :
    s.startPacket =
      { s with opt := { s.opt with outbox := rest }, lif := { s.lif with tx := some (txPacket (.notice n)) } } := by
  simp [State.startPacket, State.onLif, tx, replies, outbox]

/-! ## The end of a packet -/

theorem endPacket_reply {s : State} {r : Reply} {bytes : List Byte}
    (tx : s.lif.tx = some { item := .reply r, bytes := bytes }) (restart : s.lif.restart ≠ .answered) :
    s.endPacket = lineFree s := by
  rw [State.endPacket, tx]
  exact if_neg fun answered => restart answered.1

/-- A notice that no block waits for only frees the line. -/
theorem endPacket_notice {s : State} {n : Notice} {bytes : List Byte}
    (tx : s.lif.tx = some { item := .notice n, bytes := bytes }) (expose : noticeKind n ≠ 0x92)
    (stored : noticeKind n ≠ 0x93) : s.endPacket = lineFree s := by
  rw [State.endPacket, tx]
  cases n with
  | expose => exact absurd rfl expose
  | stored => exact absurd rfl stored
  | _ => rfl

theorem endPacket_expose {s : State} {id : Nat} {tv av gv : Int} {time : Nat} {shutter : Shutter} {bytes : List Byte}
    (tx : s.lif.tx = some { item := .notice (.expose id tv av gv time shutter), bytes := bytes }) :
    s.endPacket = (lineFree s).exposeSent id := by
  rw [State.endPacket, tx]
  rfl

theorem endPacket_stored {s : State} {id len cluster : Nat} {shot : Option ShotRecord} {fragments : List Fragment}
    {bytes : List Byte} (tx : s.lif.tx = some { item := .notice (.stored id len cluster shot fragments), bytes := bytes }) :
    s.endPacket = (lineFree s).storedSent id := by
  rw [State.endPacket, tx]
  rfl

/-- The arm timer of the picture in hand starts (R150). -/
theorem exposeSent_arms {s : State} {c : Capture} {h : Hand} (state : s.csq.state = .arming)
    (capture : s.csq.capture = some c) (hand : c.hand = some h) :
    s.exposeSent h.id =
      { s with csq := { s.csq with capture := some { c with hand := some { h with arming := true } } } } := by
  simp [State.exposeSent, State.onCapture, state, capture, hand]

/-- A STORED of another record than the one in NOTIFYING changes nothing more. -/
theorem storedSent_other {s : State} {id : Nat} (other : s.csu.store ≠ .notifying ∨ s.csu.current ≠ some id) :
    s.storedSent id = s := by
  refine if_neg fun both => ?_
  obtain store | current := other
  · exact store both.1
  · exact current both.2

/-- The state with a stored record freed and the placement discarded. -/
def storedFreed (s : State) (id : Nat) (r : PicRecord) : State :=
  { s with
      pbf := { s.pbf with freePages := s.pbf.freePages ++ (r.pages ++ r.reserved),
                          records := s.pbf.records.erase r },
      csu := { s.csu with queue := s.csu.queue.filter (fun p => p != id), current := none, placement := none } }

/-- The STORED of the record in NOTIFYING frees it, and the store chooses (R163, R178, R185). -/
theorem storedSent_notifying {s : State} {id : Nat} {r : PicRecord} (store : s.csu.store = .notifying)
    (current : s.csu.current = some id) (found : s.record id = some r) :
    s.storedSent id = (storedFreed s id r).boundaryChoice := by
  rw [State.storedSent, if_pos ⟨store, current⟩, freeRecord_found found]
  rfl

/-- The choice takes the next record, for which there is no space (R178, R181). -/
theorem boundaryChoice_short {s : State} {next n : Nat} {rest : List Nat} {q : PicRecord}
    (card : s.csu.card = .opened) (none : s.hasKind .storeHold = false) (queue : s.csu.queue = next :: rest)
    (found : s.record next = some q) (length : q.length = some n)
    (short : ∀ fs left, walkPool s.csu.cluster (clustersFor s.csu.cluster n) s.csu.pool = some (fs, left) →
      16 < fs.length) :
    s.boundaryChoice =
      State.attention
        { s with
            pbf := { s.pbf with
              records := updateFirst (fun x => x.id == next) (fun x => { x with state := .storing }) s.pbf.records },
            csu := { s.csu with queue := rest, current := some next, store := .waitSpace } }
        .store .needSpace (clustersFor s.csu.cluster n) := by
  rw [boundaryChoice_open card none, takeOrIdle_take queue, State.takeHead]
  have marked := record_setRecord_map found (f := fun x => { x with state := .storing }) rfl
  refine (placeCurrent_short (s := (s.setRecord next fun x => { x with state := .storing }).onCsu fun c =>
    { c with queue := c.queue.drop 1, current := some next, store := .placing }) rfl marked length short).trans ?_
  simp only [State.onCsu, State.setRecord, queue, List.drop_succ_cons, List.drop_zero]

/-- A record is found whatever other record is erased. -/
theorem find?_erase_of_not {l : List PicRecord} {test : PicRecord → Bool} {r : PicRecord} (not : test r = false) :
    (l.erase r).find? test = l.find? test := by
  induction l with
  | nil => rfl
  | cons x rest ih =>
    rw [List.erase_cons]
    split
    · rename_i same
      rw [eq_of_beq same, List.find?_cons, not]
    · rw [List.find?_cons, List.find?_cons, ih]

/-- The hold that waits ends PAUSED at the choice after a stored record. -/
theorem storedFreed_paused {s : State} {id : Nat} {r : PicRecord} {e : OpEntry}
    (card : s.csu.card = .opened ∨ s.csu.card = .protect) (kind : s.entryOfKind .storeHold = some e)
    (found : s.entry e.tag = some e) :
    (storedFreed s id r).boundaryChoice =
      { storedFreed s id r with
          csu := { (storedFreed s id r).csu with store := .paused },
          opt :=
            { table := s.opt.table.filter fun f => f.tag != e.tag,
              outbox := s.opt.outbox ++
                [.ending { tag := e.tag, kind := e.kind, cls := .complete, cause := .none,
                           done := min 65535 (e.done + 1), resume := .absent, result := some 0,
                           fields := .storeHold .paused none (s.csu.queue.filter fun p => p != id).length }] } } := by
  rw [boundaryChoice_stops (s := storedFreed s id r) card (.inl (hasKind_of_entryOfKind (s := s) kind)),
    State.enterPaused,
    endHold_paused (s := (storedFreed s id r).onCsu fun c => { c with store := .paused }) kind found]
  rfl

/-- Settles O8: the start of a packet by what waits, its end by what it carried. -/
theorem packetsLeaveInOrder : Obligations.PacketsLeaveInOrder := by
  intro s
  refine ⟨fun p tx => congrArg _ (startPacket_busy tx), fun r rest tx replies => congrArg _ (startPacket_reply tx replies),
    fun n rest tx replies outbox => congrArg _ (startPacket_notice tx replies outbox),
    fun r bytes tx restart => congrArg _ (endPacket_reply tx restart),
    fun n bytes tx expose stored => congrArg _ (endPacket_notice tx expose stored), ?_, ?_⟩
  · rintro id tv av gv time shutter bytes c h tx state capture hand rfl
    exact congrArg _ ((endPacket_expose tx).trans (exposeSent_arms (s := lineFree s) state capture hand))
  · intro id len cluster shot fragments bytes tx
    have sent := endPacket_stored tx
    refine ⟨fun other => congrArg _ (sent.trans (storedSent_other (s := lineFree s) other)),
      fun r store current found => ?_⟩
    have chooses := sent.trans (storedSent_notifying (s := lineFree s) store current found)
    refine ⟨fun none => ⟨fun card => ?_, fun card => ?_, fun card queue => ?_,
      fun next rest q n card queue nextFound length short => ?_⟩, fun e card kind entry => ?_⟩
    · exact congrArg _ (chooses.trans ((boundaryChoice_closed (s := storedFreed (lineFree s) id r) card).trans
        (enterDisabled_noHold (s := storedFreed (lineFree s) id r) none)))
    · exact congrArg _ (chooses.trans ((boundaryChoice_stops (s := storedFreed (lineFree s) id r) (.inr card)
        (.inr card)).trans (enterPaused_noHold (s := storedFreed (lineFree s) id r) none)))
    · exact congrArg _ (chooses.trans ((boundaryChoice_open (s := storedFreed (lineFree s) id r) card none).trans
        (takeOrIdle_idle (s := storedFreed (lineFree s) id r) queue)))
    · have other : next ≠ id := by
        have member : next ∈ s.csu.queue.filter fun p => p != id := by
          rw [queue]
          exact List.mem_cons_self
        simpa using (List.mem_filter.mp member).2
      have same : r.id = id := by simpa using List.find?_some found
      have kept : (storedFreed (lineFree s) id r).record next = some q := by
        refine (find?_erase_of_not ?_).trans nextFound
        simpa [same] using Ne.symm other
      exact congrArg _ (chooses.trans (boundaryChoice_short (s := storedFreed (lineFree s) id r) card none queue kept
        length short))
    · exact congrArg _ (chooses.trans (storedFreed_paused (s := lineFree s) card kind entry))

end Sys2Proof.Proofs.Transmission
end

section
/-! PROOFS. The socket and the opening of the card (R172 to R174, R188). -/

namespace Sys2Proof.Proofs.Socket
open Sys2Proof Sys2Proof.Machine Sys2Proof.Proofs.CardFacts

-- one declaration after another: each unfolds operations whose equations another would be waiting for
set_option Elab.async false

/-! ## Card detect (R172, R188) -/

/-- A change of the socket, by what it holds. -/
theorem exec_cardDetectChange (present level : Bool) (s : State) :
    exec (.cardDetectChange present level) s =
      .next
        (if s.csu.card = .absent then (if present then s.cardInserted level else s)
         else if present then s else s.cardRemoved) := by
  show Host.Outcome.next _ = _
  cases card : s.csu.card <;> cases present <;> simp

/-- The card, its capacity, the pool and the exchange are gone, and ATTENTION CARD is raised (R188). -/
def socketEmpty (s : State) : State :=
  { s with
      opt := attend s.opt .card .removed 0,
      csu := { s.csu with
        card := .absent, cdet := false, capacity := none, pool := [], awaiting := none, exchange := none,
        stopBusy := false } }

/-- A removal with no opening and no record to discard. -/
theorem cardRemoved_plain {s : State} (opening : s.csu.opening = none) (kept : s.discarding = false) :
    s.cardRemoved = (socketEmpty s).storeLosesCard := by
  have still : (socketEmpty s).discarding = false := kept
  have gone : (State.attention (s.onCsu fun c =>
      { c with card := .absent, cdet := false, capacity := none, pool := [], awaiting := none, exchange := none,
               stopBusy := false }) .card .removed 0) = socketEmpty s := attention_eq _ _ _ _
  simp only [State.cardRemoved, opening, Option.isSome_none, Bool.false_eq_true, if_false, gone, still, false_and]
  split <;> rfl

/-- The store at a removal with no record in hand, IDLE or DISABLED. -/
theorem storeLosesCard_idle {s : State} (current : s.csu.current = none)
    (store : s.csu.store = .idle ∨ s.csu.store = .disabled) (noHold : s.hasKind .storeHold = false) :
    s.storeLosesCard =
      { s with csu := { s.csu with placement := none, store := .disabled, restarted := false } } := by
  have leaves : s.storeLosesCard = (s.onCsu fun c => { c with placement := none }).enterDisabled := by
    obtain store | store := store <;> simp only [State.storeLosesCard, store, current]
  exact leaves.trans (enterDisabled_noHold (s := s.onCsu fun c => { c with placement := none }) noHold)

/-- The store at a removal while it writes: a fault of format 2 (R187, R188). -/
theorem storeLosesCard_writing {s : State} {id : Nat} {p : Placement} (current : s.csu.current = some id)
    (placement : s.csu.placement = some p) (store : s.csu.store = .writing) (kept : s.discarding = false)
    (noHold : s.hasKind .storeHold = false) :
    s.storeLosesCard =
      { s with
          opt := attend s.opt .store .fault 2,
          csu := { s.csu with
            store := .faulted, exchange := none, restarted := false,
            fault := some
              { format := 2, picture := id, written := p.written + p.ahead.length, place := none, response := none,
                continuation := .none, repeats := 0, writeBacks := [] } } } := by
  have continuation : s.newContinuation = .none := by simp [State.newContinuation, State.holdWaits, kept, noHold]
  simp [State.storeLosesCard, State.cardLossFault, State.enterFaulted, State.onCsu, attention_eq, Placement.count,
    store, current, placement, continuation]

/-! ## The write-protect switch (R172) -/

theorem protectChanged_eq (s : State) (level : Bool) :
    s.protectChanged level =
      match s.csu.card with
      | .absent => { s with csu := { s.csu with cwp := level } }
      | .present =>
        if level = s.csu.protect then { s with csu := { s.csu with cwp := level } }
        else
          { s with opt := attend s.opt .card (if level then .protectOn else .protectOff) 0,
                   csu := { s.csu with cwp := level, protect := level } }
      | .opened =>
        if level then
          { s with opt := attend s.opt .card .protectOn 0,
                   csu := { s.csu with cwp := true, protect := true, card := .protect } }
        else { s with csu := { s.csu with cwp := false } }
      | .protect =>
        if level then { s with csu := { s.csu with cwp := true } }
        else
          { s with opt := attend s.opt .card .protectOff 0,
                   csu := { s.csu with cwp := false, protect := false, card := .opened } } := by
  cases card : s.csu.card <;> cases level <;> simp [State.protectChanged, State.onCsu, attention_eq, card]

/-- Settles O50: an empty socket, a seated card, and the write-protect switch by the card's state. -/
theorem cardSocket : Obligations.CardSocket := by
  refine ⟨fun level s absent => ?_, fun level s seated => ?_, fun s => ⟨fun level card => ?_, fun card => ?_,
    fun card => ?_⟩⟩
  · simp only [exec_cardDetectChange, if_pos absent]
    refine ⟨rfl, ?_, ?_⟩
    · cases level <;> rfl
    · show Host.Outcome.next (s.protectChanged level) = _
      simp only [protectChanged_eq, absent]
  · simp only [exec_cardDetectChange, if_neg seated]
    refine ⟨rfl, fun opening noHold => ⟨fun current store => ?_, fun id p current placement store kept => ?_⟩⟩
    · have kept : s.discarding = false := by simp [State.discarding, current]
      have empty : (socketEmpty s).hasKind .storeHold = false := by
        simpa [State.hasKind, socketEmpty] using noHold
      refine congrArg _ ((cardRemoved_plain opening kept).trans
        ((storeLosesCard_idle (s := socketEmpty s) current store empty).trans ?_))
      rw [attention_eq]
      rfl
    · have empty : (socketEmpty s).hasKind .storeHold = false := by
        simpa [State.hasKind, socketEmpty] using noHold
      refine congrArg _ ((cardRemoved_plain opening kept).trans
        ((storeLosesCard_writing (s := socketEmpty s) current placement store kept empty).trans ?_))
      rw [attention_eq, attention_eq]
      rfl
  · have changed : exec (.writeProtectChange level) s = .next (s.protectChanged level) := rfl
    rw [changed, protectChanged_eq, card]
    refine ⟨fun same => congrArg _ (if_pos same.symm), fun differs => ?_⟩
    rw [attention_eq]
    exact congrArg _ (if_neg fun same => differs same.symm)
  · have changed (level : Bool) : exec (.writeProtectChange level) s = .next (s.protectChanged level) := rfl
    rw [changed, changed, protectChanged_eq, protectChanged_eq, card, attention_eq]
    exact ⟨rfl, rfl⟩
  · have changed (level : Bool) : exec (.writeProtectChange level) s = .next (s.protectChanged level) := rfl
    rw [changed, changed, protectChanged_eq, protectChanged_eq, card, attention_eq]
    exact ⟨rfl, rfl⟩

/-! ## Opening the card (R173, R174) -/

/-- A CARD-OPEN refused by its own checks. -/
theorem cardOpenRequest_refused {t : State} {tag : Nat} {code : Code} {detail : Nat}
    (fault : t.cardOpenFault = some (code, detail)) : t.cardOpenRequest tag = t.reply tag (.refused code detail) := by
  rw [State.cardOpenRequest, fault]
  rfl

/-- A CARD-OPEN with room begins its reset stage. -/
theorem cardOpenRequest_begins {t : State} {tag : Nat} (fault : t.cardOpenFault = none) (room : t.hasRoom tag) :
    t.cardOpenRequest tag = (t.accepted tag .cardOpen .running (some 3)).beginOpening := by
  rw [State.cardOpenRequest, fault]
  exact State.accept_room room _ _ _ _

/-- The ENDING of a CARD-OPEN (R174). -/
def openingEnding (s : State) (e : OpEntry) (units stage code : Nat) (capacity : Option Nat) : Opt :=
  { table := s.opt.table.filter fun f => f.tag != e.tag,
    outbox := s.opt.outbox ++
      [.ending { tag := e.tag, kind := e.kind, cls := .complete, cause := .none, done := units, resume := .absent,
                 result := some code, fields := .cardOpen stage capacity s.csu.protect }] }

section
variable {s : State} {e : OpEntry} (kind : s.entryOfKind .cardOpen = some e)
include kind

/-- An opening that fails with a result code. -/
theorem endOpening_fails (found : s.entry e.tag = some e) {code : Nat} (fails : code ≠ 0) :
    s.endOpening .complete .none (some code) =
      { s with
          opt := openingEnding s e e.done (s.csu.opening.getD 0) code none,
          csu := { s.csu with opening := none, awaiting := none, capacity := none } } := by
  have code0 : (some code == some 0) = false := by simpa using fails
  simp only [State.endOpening, code0, Bool.false_eq_true, if_false]
  have entry : (s.onCsu fun c => { c with opening := none, awaiting := none, capacity := none }).entryOfKind .cardOpen =
      some e := kind
  rw [entry]
  exact ending_eq (s := s.onCsu fun c => { c with opening := none, awaiting := none, capacity := none }) found _ _ _ _ _

/-- A stage that ends well counts a unit and sends the next command. -/
theorem stageDone_next (runs : e.state ≠ .stopping) (command : CardCommand) :
    s.stageDone command =
      { s with
          opt := { s.opt with table := s.opt.table.map fun f =>
            if f.tag = e.tag then { f with done := min 65535 (f.done + 1) } else f },
          csu := { s.csu with opening := s.csu.opening.map (· + 1), awaiting := some command } } := by
  simp only [State.stageDone, kind, if_neg runs]
  rfl

/-- Stage 3 ends well: the card is open, on the wide bus and the full clock. -/
theorem openingDone_opens (found : s.entry e.tag = some e) :
    s.openingDone =
      { s with
          opt := openingEnding s e (min 65535 (e.done + 1)) (s.csu.opening.getD 0) 0 s.csu.capacity,
          csu := { s.csu with
            wide := true, clockFull := true, opening := none, awaiting := none,
            card := if s.csu.protect then .protect else .opened } } := by
  let wide : State := s.onCsu fun c => { c with wide := true, clockFull := true }
  have entry : wide.entryOfKind .cardOpen = some e := kind
  have counted : (wide.countUnit e.tag).entryOfKind .cardOpen = some { e with done := min 65535 (e.done + 1) } :=
    entryOfKind_updateEntry entry fun _ => rfl
  let open_ : State := wide.onCsu fun c =>
    { c with opening := none, awaiting := none, capacity := c.capacity,
             card := if c.protect then .protect else .opened }
  have ends := ending_countUnit (s := open_) found .complete .none .absent (some 0)
    (.cardOpen (s.csu.opening.getD 0) s.csu.capacity s.csu.protect)
  rw [State.openingDone, entry]
  show State.endOpening (wide.countUnit e.tag) .complete .none (some 0) = _
  simp only [State.endOpening, beq_self_eq_true, if_true]
  have entry : ((wide.countUnit e.tag).onCsu fun c =>
    { c with opening := none, awaiting := none, capacity := c.capacity,
             card := if c.protect then .protect else .opened }).entryOfKind .cardOpen =
      some { e with done := min 65535 (e.done + 1) } := counted
  rw [entry]
  exact ends

end

theorem exec_cardResponse (r : CardResponse) (s : State) : exec (.cardResponse r) s = .next (s.cardAnswers r) := rfl

theorem exec_cardCommandTimeout (s : State) : exec .cardCommandTimeout s = .next s.cardSilent := rfl

/-- Settles O51: the checks of a CARD-OPEN, and each event of the opening by its stage. -/
theorem cardOpening : Obligations.CardOpening := by
  refine ⟨fun tag s t reaches => ?_, fun s => ⟨fun silent => ?_, fun other => ?_, fun opening silent => ?_,
    fun e kind found runs => ⟨fun opening awaiting => ⟨?_, ?_⟩, fun opening awaiting capacity some => ?_,
      fun opening awaiting => ?_, fun opening awaiting => ?_, fun opening => ?_, fun stage opening awaiting => ?_⟩⟩⟩
  · have asked : exec (.cardOpen tag) s = .next (t.cardOpenRequest tag) :=
      congrArg _ (State.onRequest_reaches reaches _)
    rw [asked]
    refine ⟨fun absent => ?_, fun seated busy => ?_, fun seated free => ⟨fun disabled faulted => ?_,
      fun store room => ?_⟩⟩
    · exact congrArg _ (cardOpenRequest_refused (if_pos absent))
    · exact congrArg _ (cardOpenRequest_refused (by simp [State.cardOpenFault, seated, busy]))
    · exact congrArg _ (cardOpenRequest_refused (by simp [State.cardOpenFault, seated, free, disabled, faulted]))
    · refine congrArg _ ((cardOpenRequest_begins ?_ room).trans rfl)
      obtain store | store := store <;> simp [State.cardOpenFault, seated, free, store]
  · simp only [exec_cardCommandTimeout, exec_cardResponse, State.cardSilent, State.cardAnswers, silent,
      implies_true, and_self]
  · exact ⟨congrArg _ (if_neg other), congrArg _ (if_neg fun both => other both.1)⟩
  · exact congrArg _ (if_pos ⟨opening, silent⟩)
  · rw [exec_cardResponse]
    simp [State.cardAnswers, State.openingResponse, State.onCsu, opening, awaiting]
  · rw [exec_cardResponse]
    simp only [State.cardAnswers, awaiting, opening, Option.isSome_some, if_true, State.openingResponse]
    rw [stageDone_next kind runs, opening]
    rfl
  · rw [exec_cardResponse]
    simp only [State.cardAnswers, awaiting, opening, Option.isSome_some, if_true, State.openingResponse]
    rw [if_neg (by simpa using some), stageDone_next (s := s.onCsu fun c => { c with capacity := .some capacity }) kind runs]
    simp [State.onCsu, opening]
  · rw [exec_cardResponse]
    simp [State.cardAnswers, State.openingResponse, State.onCsu, opening, awaiting]
  · rw [exec_cardResponse]
    simp only [State.cardAnswers, awaiting, opening, Option.isSome_some, if_true, State.openingResponse]
    rw [openingDone_opens kind found, opening]
    rfl
  · refine congrArg _ ((if_pos opening).trans ?_)
    rw [endOpening_fails kind found (by decide), opening]
    rfl
  · rw [exec_cardCommandTimeout]
    obtain ⟨command, sent⟩ := Option.ne_none_iff_exists'.mp awaiting
    simp only [State.cardSilent, sent, opening, Option.isSome_some, if_true]
    rw [endOpening_fails kind found (by decide), opening]
    rfl

end Sys2Proof.Proofs.Socket
end

section
/-! PROOFS. The store's requests and the taking of a record (R160, R175 to R182). -/

namespace Sys2Proof.Proofs.StoreRequests
open Sys2Proof Sys2Proof.Machine Sys2Proof.Proofs.CardFacts

-- one declaration after another: each unfolds operations whose equations another would be waiting for
set_option Elab.async false

/-! ## STORE-ON (R179) -/

theorem storeOnRequest_refused {t : State} {tag : Nat} {code : Code} {detail : Nat}
    (fault : t.storeOnFault = some (code, detail)) : t.storeOnRequest tag = t.reply tag (.refused code detail) := by
  rw [State.storeOnRequest, fault]
  rfl

theorem storeOnRequest_accepted {t : State} (tag : Nat) (card : t.csu.card = .opened) (store : t.csu.store ≠ .faulted) :
    t.storeOnRequest tag = t.storeOn.reply tag (.done [byteOf (storeStateCode t.storeOn.csu.store)]) := by
  have fault : t.storeOnFault = none := by simp [State.storeOnFault, card, store]
  rw [State.storeOnRequest, fault]
  rfl

/-- A store that stands with nothing at hand becomes IDLE. -/
theorem storeOn_idle {t : State} (store : t.csu.store = .disabled ∨ t.csu.store = .paused)
    (current : t.csu.current = none) (queue : t.csu.queue = []) :
    t.storeOn = { t with csu := { t.csu with store := .idle } } := by
  have enables : t.storeOn = t.takeOrIdle := by
    obtain store | store := store <;> simp only [State.storeOn, State.enableStore, store, current]
  exact enables.trans (takeOrIdle_idle queue)

/-- A store that runs stays as it is. -/
theorem storeOn_runs {t : State} (disabled : t.csu.store ≠ .disabled) (paused : t.csu.store ≠ .paused) :
    t.storeOn = t := by
  unfold State.storeOn
  split
  · rename_i store
    exact absurd store disabled
  · rename_i store
    exact absurd store paused
  · rfl

/-! ## STORE-HOLD (R180, R189) -/

/-- The outcome of a STORE-HOLD that ends at once. -/
def heldAtOnce (t : State) (tag : Nat) (store : StoreState) (units code : Nat) : State :=
  { t with
      csu := { t.csu with
        store := store,
        placement := t.csu.placement.map fun p => if p.deferred = .hold then { p with deferred := .none } else p },
      lif := { t.lif with replies := t.lif.replies ++ [{ tag := tag, body := .accepted .storeHold }] },
      opt := { t.opt with outbox := t.opt.outbox ++
        [.ending { tag := tag, kind := .storeHold, cls := .complete, cause := .none, done := units,
                   resume := .absent, result := some code,
                   fields := .storeHold store (holdCurrent t) t.csu.queue.length }] } }

section
variable {t : State} {tag : Nat} (none : t.hasKind .storeHold = false) (room : t.hasRoom tag)
include none room

theorem storeHoldRequest_begins :
    t.storeHoldRequest tag = (t.accepted tag .storeHold (holdState t.csu.store) (some 1)).beginHold := by
  rw [State.storeHoldRequest, if_neg (by rw [none]; decide)]
  exact State.accept_room room _ _ _ _

theorem storeHoldRequest_disabled (store : t.csu.store = .disabled) :
    t.storeHoldRequest tag = heldAtOnce t tag .disabled 0 1 := by
  let w := t.accepted tag .storeHold (holdState t.csu.store) (some 1)
  have begins : w.beginHold = w.endHold false := by
    rw [State.beginHold, show w.csu.store = .disabled from store]
  rw [storeHoldRequest_begins none room]
  refine begins.trans ?_
  rw [endHold_disabled (accepted_entryOfKind none _ _ _) (accepted_entry room _ _ _)]
  simp only [newEntry, accepted_filter room]
  simp [heldAtOnce, forgetHold_eq, State.accepted, State.reply, State.enter, holdCurrent, store]

/-- A store with no record being written pauses. -/
theorem storeHoldRequest_pauses (store : t.csu.store = .idle ∨ t.csu.store = .paused ∨ t.csu.store = .waitSpace) :
    t.storeHoldRequest tag = heldAtOnce t tag .paused 1 0 := by
  let w := t.accepted tag .storeHold (holdState t.csu.store) (some 1)
  have begins : w.beginHold = (w.onCsu fun c => { c with store := .paused }).endHold true := by
    have same : w.csu.store = t.csu.store := rfl
    obtain store | store | store := store <;> rw [State.beginHold, same, store] <;> rfl
  rw [storeHoldRequest_begins none room]
  refine begins.trans ?_
  rw [endHold_paused (s := w.onCsu fun c => { c with store := .paused }) (accepted_entryOfKind none _ _ _)
    (accepted_entry room _ _ _)]
  have table := accepted_filter room .storeHold (holdState t.csu.store) (some 1)
  simp only [newEntry, State.onCsu_opt, table, w]
  rfl

end

/-! ## The taking of a record (R178, R181) -/

/-- The head of the queue becomes the current record, STORING. -/
def headTaken (s : State) (id : Nat) (rest : List Nat) : State :=
  { s with
      pbf := { s.pbf with
        records := updateFirst (fun q => q.id == id) (fun q => { q with state := .storing }) s.pbf.records },
      csu := { s.csu with queue := rest, current := some id, store := .placing } }

theorem exec_storeTakeRecord {s : State} {id : Nat} {rest : List Nat} (store : s.csu.store = .idle)
    (queue : s.csu.queue = id :: rest) : exec .storeTakeRecord s = .next (headTaken s id rest).placeCurrent := by
  have taken : exec .storeTakeRecord s = .next (s.takeHead id) := by
    show Host.Outcome.next _ = _
    rw [store, queue]
  rw [taken, State.takeHead, headTaken]
  simp only [State.onCsu, State.setRecord, queue, List.drop_succ_cons, List.drop_zero]

theorem headTaken_record {s : State} {id : Nat} {r : PicRecord} (found : s.record id = some r) (rest : List Nat) :
    (headTaken s id rest).record id = some { r with state := .storing } :=
  record_setRecord_map found (f := fun q => { q with state := .storing }) rfl

/-- Settles O53: STORE-ON and STORE-HOLD by the store's state, and the taking of a record by the space for it. -/
theorem storeHoldsAndTakes : Obligations.StoreHoldsAndTakes := by
  refine ⟨fun tag s t reaches => ?_, fun tag s t reaches => ?_, fun s idle => ?_,
    fun s id rest r n store queue found length card => ⟨fun short => ?_,
      fun f more left walk holds few busy awaiting => ?_⟩⟩
  · have asked : exec (.storeOn tag) s = .next (t.storeOnRequest tag) := congrArg _ (State.onRequest_reaches reaches _)
    rw [asked]
    refine ⟨fun card => ?_, fun card => ?_, fun card => ?_, fun card => ⟨fun store => ?_, fun store current queue => ?_,
      fun faulted disabled paused => ?_⟩⟩
    · exact congrArg _ (storeOnRequest_refused (by simp [State.storeOnFault, card]))
    · exact congrArg _ (storeOnRequest_refused (by simp [State.storeOnFault, card]))
    · exact congrArg _ (storeOnRequest_refused (by simp [State.storeOnFault, card]))
    · exact congrArg _ (storeOnRequest_refused (by simp [State.storeOnFault, card, store]))
    · have stands : t.csu.store ≠ .faulted := by obtain store | store := store <;> rw [store] <;> decide
      rw [storeOnRequest_accepted tag card stands, storeOn_idle store current queue]
      rfl
    · rw [storeOnRequest_accepted tag card faulted, storeOn_runs disabled paused]
  · have asked : exec (.storeHold tag) s = .next (t.storeHoldRequest tag) :=
      congrArg _ (State.onRequest_reaches reaches _)
    rw [asked]
    refine ⟨fun busy => congrArg _ (if_pos busy), fun none room => ⟨fun store => ?_, fun store => ?_, fun store => ?_,
      fun store => ?_⟩⟩
    · rw [storeHoldRequest_disabled none room store]
      rfl
    · rw [storeHoldRequest_pauses none room store]
      rfl
    · rw [storeHoldRequest_begins none room]
      obtain store | store := store <;>
        simp [State.beginHold, State.accepted, State.reply, State.enter, holdState, store]
    · rw [storeHoldRequest_begins none room]
      simp [State.beginHold, State.setContinuation, State.onCsu, State.accepted, State.reply, State.enter, holdState,
        store]
  · show Host.Outcome.next _ = _
    split
    · rename_i store queue
      obtain store' | queue' := idle
      · exact absurd store store'
      · rw [queue'] at queue
        cases queue
    · rfl
  · rw [exec_storeTakeRecord store queue,
      placeCurrent_short (s := headTaken s id rest) rfl (headTaken_record found rest) length short]
    rfl
  · rw [exec_storeTakeRecord store queue, placeCurrent_placed (s := headTaken s id rest) rfl
      (headTaken_record found rest) length walk (by simpa using few)]
    refine congrArg _ ((if_neg (by rw [show (headTaken s id rest).csu.card = .opened from card]; decide)).trans ?_)
    exact resumeWriting_first (f := f) (more := more)
      (s := { headTaken s id rest with csu := { (headTaken s id rest).csu with
        pool := left, placement := some (placementOf (f :: more)) } }) rfl holds busy awaiting

end Sys2Proof.Proofs.StoreRequests
end

section
/-! PROOFS. STORE-SET and EXTENTS-GIVE, and the pool's arithmetic (R160, R175 to R177, R181). -/

namespace Sys2Proof.Proofs.Extents
open Sys2Proof Sys2Proof.Machine Sys2Proof.Proofs.CardFacts

-- one declaration after another: each unfolds operations whose equations another would be waiting for
set_option Elab.async false

/-! ## STORE-SET (R175) -/

theorem storeSet_refused {t : State} {tag cluster pages : Nat} {code : Code} {detail : Nat}
    (fault : t.storeSetFault cluster pages = some (code, detail)) :
    t.storeSet tag cluster pages = t.reply tag (.refused code detail) := by
  rw [State.storeSet, fault]
  rfl

/-- Card space is in the part's keeping. -/
theorem clusterFree_iff (t : State) :
    t.clusterFree = true ↔
      ¬ (t.csu.store ≠ .disabled ∨ t.csu.pool ≠ [] ∨ t.csu.placement ≠ none ∨ t.csu.fault ≠ none) := by
  simp [State.clusterFree, and_assoc]

/-! ## The first bad extent of a list (R177) -/

/-- The first element that satisfies the test, numbered from `n`. -/
theorem firstNumber_first {bad : Extent → Bool} : ∀ {es : List Extent} {k : Nat} {e : Extent} (n : Nat),
    es[k]? = some e → bad e = true → (∀ j f, j < k → es[j]? = some f → bad f = false) →
      firstNumber bad n es = some (n + k)
  | [], _, _, _, at_, _, _ => by simp at at_
  | x :: rest, 0, e, n, at_, isBad, _ => by
    cases at_
    rw [firstNumber, if_pos isBad, Nat.add_zero]
  | x :: rest, k + 1, e, n, at_, isBad, before => by
    have good : bad x = false := before 0 x (by omega) rfl
    rw [firstNumber, if_neg (by rw [good]; decide),
      firstNumber_first (es := rest) (k := k) (n + 1) at_ isBad fun j f lt found => before (j + 1) f (by omega) found]
    congr 1
    omega

theorem firstNumber_none {bad : Extent → Bool} {es : List Extent} (good : ∀ e ∈ es, bad e = false) (n : Nat) :
    firstNumber bad n es = none := by
  induction es generalizing n with
  | nil => rfl
  | cons x rest ih =>
    rw [firstNumber, if_neg (by rw [good x List.mem_cons_self]; decide)]
    exact ih (fun e member => good e (List.mem_cons_of_mem x member)) (n + 1)

/-- Two runs of blocks lie apart. -/
def apart (a b : Extent) : Prop := a.start + a.len ≤ b.start ∨ b.start + b.len ≤ a.start

theorem overlaps_iff (a b : Extent) : overlaps a b = true ↔ ¬ apart b a := by
  simp only [overlaps, apart, Bool.and_eq_true, decide_eq_true_eq]
  omega

theorem any_overlaps_iff (e : Extent) (seen : List Extent) :
    seen.any (overlaps e) = true ↔ ∃ x ∈ seen, ¬ apart x e := by
  simp only [List.any_eq_true, overlaps_iff]

theorem any_overlaps_false {e : Extent} {seen : List Extent} (clear : ∀ x ∈ seen, apart x e) :
    seen.any (overlaps e) = false := by
  refine Bool.eq_false_iff.mpr fun overlap => ?_
  obtain ⟨x, member, not⟩ := (any_overlaps_iff e seen).mp overlap
  exact not (clear x member)

/-- The first extent that overlaps an earlier one, numbered from `n`, or one of those seen before. -/
theorem firstOverlap_first : ∀ {es : List Extent} {k : Nat} {e : Extent} (n : Nat) (seen : List Extent),
    es[k]? = some e → (∃ x ∈ seen, ¬ apart x e) ∨ (∃ j f, j < k ∧ es[j]? = some f ∧ ¬ apart f e) →
    (∀ m g, m < k → es[m]? = some g →
      (∀ x ∈ seen, apart x g) ∧ ∀ i h, i < m → es[i]? = some h → apart h g) →
      firstOverlap n seen es = some (n + k)
  | [], _, _, _, _, at_, _, _ => by simp at at_
  | x :: rest, 0, e, n, seen, at_, overlap, _ => by
    cases at_
    obtain overlap | ⟨j, f, lt, -, -⟩ := overlap
    · rw [firstOverlap, if_pos ((any_overlaps_iff _ seen).mpr overlap), Nat.add_zero]
    · omega
  | x :: rest, k + 1, e, n, seen, at_, overlap, before => by
    have clear : seen.any (overlaps x) = false := any_overlaps_false (before 0 x (by omega) rfl).1
    rw [firstOverlap, if_neg (by rw [clear]; decide), firstOverlap_first (k := k) (e := e) (n + 1) (x :: seen) at_]
    · congr 1
      omega
    · obtain ⟨y, member, not⟩ | ⟨j, f, lt, found, not⟩ := overlap
      · exact .inl ⟨y, List.mem_cons_of_mem x member, not⟩
      · cases j with
        | zero =>
          cases found
          exact .inl ⟨_, List.mem_cons_self, not⟩
        | succ j => exact .inr ⟨j, f, by omega, found, not⟩
    · intro m g lt found
      obtain ⟨clearSeen, clearEarlier⟩ := before (m + 1) g (by omega) found
      refine ⟨fun y member => ?_, fun i h less at_i => clearEarlier (i + 1) h (by omega) at_i⟩
      obtain rfl | member := List.mem_cons.mp member
      · exact clearEarlier 0 y (by omega) rfl
      · exact clearSeen y member

theorem firstOverlap_none {es seen : List Extent} (pairs : es.Pairwise apart)
    (clear : ∀ x ∈ seen, ∀ e ∈ es, apart x e) (n : Nat) : firstOverlap n seen es = none := by
  induction es generalizing n seen with
  | nil => rfl
  | cons x rest ih =>
    obtain ⟨first, others⟩ := List.pairwise_cons.mp pairs
    have clearX : seen.any (overlaps x) = false :=
      any_overlaps_false fun y member => clear y member x List.mem_cons_self
    rw [firstOverlap, if_neg (by rw [clearX]; decide)]
    refine ih others (fun y member e inRest => ?_) (n + 1)
    obtain rfl | member := List.mem_cons.mp member
    · exact first e inRest
    · exact clear y member e (List.mem_cons_of_mem x inRest)

/-! ## The pool's blocks (R176) -/

/-- A block is one of the list's. -/
def covers (l : List Extent) (b : Nat) : Prop := ∃ x ∈ l, x.start ≤ b ∧ b < x.start + x.len

theorem covers_cons (x : Extent) (l : List Extent) (b : Nat) :
    covers (x :: l) b ↔ (x.start ≤ b ∧ b < x.start + x.len) ∨ covers l b := by
  simp [covers]

theorem covers_insertExtent (e : Extent) (l : List Extent) (b : Nat) :
    covers (insertExtent e l) b ↔ (e.start ≤ b ∧ b < e.start + e.len) ∨ covers l b := by
  induction l with
  | nil => exact covers_cons e [] b
  | cons x rest ih =>
    rw [insertExtent]
    split
    · exact covers_cons e (x :: rest) b
    · rw [covers_cons, ih, covers_cons]
      tauto

theorem covers_foldl_insertExtent (es pool : List Extent) (b : Nat) :
    covers (es.foldl (fun p e => insertExtent e p) pool) b ↔ covers pool b ∨ covers es b := by
  induction es generalizing pool with
  | nil => simp [covers]
  | cons e rest ih =>
    rw [List.foldl_cons, ih, covers_insertExtent, covers_cons]
    tauto

/-- Merging neighbours keeps the blocks: two that touch make one of the same blocks. -/
theorem covers_mergeExtents (l : List Extent) (b : Nat) : covers (mergeExtents l) b ↔ covers l b := by
  induction l with
  | nil => rfl
  | cons x rest ih =>
    rw [mergeExtents, covers_cons, ← ih]
    split
    · rename_i merged
      rw [merged, covers_cons]
    · rename_i y more merged
      rw [merged]
      split
      · rename_i touch
        simp only [covers_cons]
        rw [← touch, ← or_assoc]
        refine or_congr_left ?_
        omega
      · rw [covers_cons]

theorem covers_addExtents (pool es : List Extent) (b : Nat) :
    covers (addExtents pool es) b ↔ covers (pool ++ es) b := by
  rw [addExtents, covers_mergeExtents, covers_foldl_insertExtent]
  simp [covers, or_and_right, exists_or]

/-! ## Clusters and the walk of the pool (R181) -/

theorem clustersFor_le_iff {cluster : Nat} (some : 0 < cluster) (length k : Nat) :
    clustersFor cluster length ≤ k ↔ length ≤ k * (cluster * 512) := by
  rw [clustersFor, Nat.div_le_iff_le_mul_add_pred (by omega), Nat.mul_comm (cluster * 512) k]
  omega

/-- The clusters a pool holds. -/
def poolHolds (cluster : Nat) (l : List Extent) : Nat := (l.map fun e => e.len / cluster).sum

theorem walkPool_short (cluster : Nat) : ∀ (pool : List Extent) (need : Nat), poolHolds cluster pool < need →
    walkPool cluster need pool = none
  | _, 0, short => by omega
  | [], _ + 1, _ => rfl
  | e :: rest, need + 1, short => by
    simp only [poolHolds, List.map_cons, List.sum_cons] at short
    rw [walkPool]
    rw [if_pos (by omega), walkPool_short cluster rest (need + 1 - e.len / cluster) (by rw [poolHolds]; omega)]

/-- The whole extents before the last one, and the low end of the last one. -/
theorem walkPool_takes (cluster : Nat) (e : Extent) (rest : List Extent) : ∀ (front : List Extent) (need : Nat),
    poolHolds cluster front < need → need ≤ poolHolds cluster front + e.len / cluster →
    walkPool cluster need (front ++ e :: rest) =
      some
        (front.map (fun x => { start := x.start, clusters := x.len / cluster }) ++
            [{ start := e.start, clusters := need - poolHolds cluster front }],
          if need - poolHolds cluster front = e.len / cluster then rest
          else { start := e.start + (need - poolHolds cluster front) * cluster,
                 len := e.len - (need - poolHolds cluster front) * cluster } :: rest)
  | [], 0, more, _ => by omega
  | [], need + 1, _, enough => by
    simp only [poolHolds, List.map_nil, List.sum_nil, Nat.zero_add] at enough
    rw [List.nil_append, walkPool]
    by_cases whole : e.len / cluster = need + 1
    · simp [poolHolds, whole, walkPool]
    · have part : ¬ e.len / cluster ≤ need + 1 := by omega
      simp [poolHolds, part, Ne.symm whole]
  | x :: front, 0, more, _ => by omega
  | x :: front, need + 1, more, enough => by
    have sum : poolHolds cluster (x :: front) = x.len / cluster + poolHolds cluster front := by simp [poolHolds]
    rw [sum] at more enough ⊢
    rw [List.cons_append, walkPool]
    have left : need + 1 - (x.len / cluster + poolHolds cluster front) =
        need + 1 - x.len / cluster - poolHolds cluster front := by omega
    rw [if_pos (by omega), walkPool_takes cluster e rest front (need + 1 - x.len / cluster) (by omega) (by omega), left]
    rfl

/-! ## EXTENTS-GIVE (R177) -/

theorem extentsGive_refused {t : State} {tag : Nat} {es : List Extent} {code : Code} {detail : Nat}
    (fault : t.extentsFault es = some (code, detail)) :
    t.extentsGive tag es = t.reply tag (.refused code detail) := by
  rw [State.extentsGive, fault]
  rfl

/-- An extent that is no whole number of clusters. -/
def unwhole (cluster : Nat) (e : Extent) : Bool := e.len == 0 || e.len % cluster != 0

theorem unwhole_iff (cluster : Nat) (e : Extent) :
    unwhole cluster e = true ↔ e.len = 0 ∨ e.len % cluster ≠ 0 := by simp [unwhole]

theorem unwhole_false {cluster : Nat} {e : Extent} (whole : e.len ≠ 0 ∧ e.len % cluster = 0) :
    unwhole cluster e = false := by simp [unwhole, whole.1, whole.2]

/-- An extent that ends beyond the capacity. -/
def beyond (capacity : Nat) (e : Extent) : Bool := decide (capacity < e.start + e.len)

/-- The checks in their order, the card open and the number of extents one that may be given. -/
theorem extentsFault_eq {t : State} {es : List Extent} (card : t.csu.card = .opened ∨ t.csu.card = .protect)
    (some : es ≠ []) (few : es.length ≤ 16) :
    t.extentsFault es =
      match firstNumber (unwhole t.csu.cluster) 1 es with
      | .some k => .some (.field, k)
      | none =>
        match firstNumber (beyond (t.csu.capacity.getD 0)) 1 es with
        | .some k => .some (.range, k)
        | none =>
          match firstOverlap 1 [] es with
          | .some k => .some (.overlap, k)
          | none =>
            match firstNumber (fun e => t.takenBlocks.any (overlaps e)) 1 es with
            | .some k => .some (.overlap, k)
            | none =>
              if 64 < (addExtents t.csu.pool es).length then .some (.poolFull, (addExtents t.csu.pool es).length)
              else none := by
  have ready : t.csu.card.ready = true := by obtain card | card := card <;> rw [card] <;> rfl
  have count : ¬ (es.length < 1 ∨ 16 < es.length) := by
    have := List.length_pos_iff.mpr some
    omega
  rw [State.extentsFault, if_neg (by rw [ready]; decide), if_neg count]
  rfl

section
variable {t : State} {es : List Extent} (card : t.csu.card = .opened ∨ t.csu.card = .protect) (some : es ≠ [])
  (few : es.length ≤ 16)
include card some few

theorem extentsFault_field {k : Nat} {e : Extent} (at_ : es[k]? = .some e)
    (bad : e.len = 0 ∨ e.len % t.csu.cluster ≠ 0)
    (before : ∀ j f, j < k → es[j]? = .some f → f.len ≠ 0 ∧ f.len % t.csu.cluster = 0) :
    t.extentsFault es = .some (.field, k + 1) := by
  rw [extentsFault_eq card some few, firstNumber_first 1 at_ ((unwhole_iff _ _).mpr bad) fun j f lt found =>
    unwhole_false (before j f lt found), Nat.add_comm]

variable (whole : ∀ e ∈ es, e.len ≠ 0 ∧ e.len % t.csu.cluster = 0)
include whole

theorem extentsFault_range {k : Nat} {e : Extent} (at_ : es[k]? = .some e)
    (outside : ¬ e.start + e.len ≤ t.csu.capacity.getD 0)
    (before : ∀ j f, j < k → es[j]? = .some f → f.start + f.len ≤ t.csu.capacity.getD 0) :
    t.extentsFault es = .some (.range, k + 1) := by
  rw [extentsFault_eq card some few, firstNumber_none fun e member => unwhole_false (whole e member),
    firstNumber_first 1 at_ (by simpa [beyond] using outside) fun j f lt found => by
      simpa [beyond] using before j f lt found, Nat.add_comm]

variable (inside : ∀ e ∈ es, e.start + e.len ≤ t.csu.capacity.getD 0)
include inside

/-- Whole clusters within the capacity: the overlaps and the room of the pool decide. -/
theorem extentsFault_inside :
    t.extentsFault es =
      match firstOverlap 1 [] es with
      | .some k => .some (.overlap, k)
      | none =>
        match firstNumber (fun e => t.takenBlocks.any (overlaps e)) 1 es with
        | .some k => .some (.overlap, k)
        | none =>
          if 64 < (addExtents t.csu.pool es).length then .some (.poolFull, (addExtents t.csu.pool es).length)
          else none := by
  rw [extentsFault_eq card some few, firstNumber_none fun e member => unwhole_false (whole e member),
    firstNumber_none fun e member => by simpa [beyond] using inside e member]

theorem extentsFault_overlap {k j : Nat} {e f : Extent} (at_ : es[k]? = .some e) (lt : j < k)
    (earlier : es[j]? = .some f) (overlap : ¬ apart f e)
    (before : ∀ m g i h, m < k → es[m]? = .some g → i < m → es[i]? = .some h → apart h g) :
    t.extentsFault es = .some (.overlap, k + 1) := by
  rw [extentsFault_inside card some few whole inside,
    firstOverlap_first 1 [] at_ (.inr ⟨j, f, lt, earlier, overlap⟩) fun m g lt found =>
      ⟨fun _ member => (List.not_mem_nil member).elim, fun i h less at_i => before m g i h lt found less at_i⟩,
    Nat.add_comm]

variable (pairs : es.Pairwise apart)
include pairs

theorem extentsFault_taken {k : Nat} {e x : Extent} (taken : x ∈ t.takenBlocks) (at_ : es[k]? = .some e)
    (overlap : ¬ apart x e) (before : ∀ j f, j < k → es[j]? = .some f → ∀ y ∈ t.takenBlocks, apart y f) :
    t.extentsFault es = .some (.overlap, k + 1) := by
  rw [extentsFault_inside card some few whole inside,
    firstOverlap_none pairs (fun _ member => (List.not_mem_nil member).elim) 1,
    firstNumber_first 1 at_ ((any_overlaps_iff _ _).mpr ⟨x, taken, overlap⟩) fun j f lt found =>
      any_overlaps_false (before j f lt found), Nat.add_comm]

theorem extentsFault_clear (clear : ∀ e ∈ es, ∀ x ∈ t.takenBlocks, apart x e) :
    t.extentsFault es =
      if 64 < (addExtents t.csu.pool es).length then .some (.poolFull, (addExtents t.csu.pool es).length) else none := by
  rw [extentsFault_inside card some few whole inside,
    firstOverlap_none pairs (fun _ member => (List.not_mem_nil member).elim) 1,
    firstNumber_none fun e member => any_overlaps_false (clear e member)]

end

/-- The pool after extents that pass, and the answer, which gives the pool before a placement takes from it. -/
def extentsTaken (t : State) (tag : Nat) (es : List Extent) : State :=
  State.reply { t with csu := { t.csu with pool := addExtents t.csu.pool es } } tag
    (.done (put2 (addExtents t.csu.pool es).length ++
      put2 (((addExtents t.csu.pool es).map (·.len)).sum / t.csu.cluster)))

theorem extentsGive_taken {t : State} {es : List Extent} (fault : t.extentsFault es = none) (tag : Nat) :
    t.extentsGive tag es =
      if t.csu.store = .waitSpace then (extentsTaken t tag es).placeCurrent else extentsTaken t tag es := by
  rw [State.extentsGive, fault]
  rfl

/-- Settles O52: the checks of the two requests in their order, and the pool's arithmetic. -/
theorem storeSettings : Obligations.StoreSettings := by
  refine ⟨fun tag cluster pages s t reaches => ?_, fun tag es s t reaches => ?_,
    fun cluster length k some => clustersFor_le_iff some length k,
    fun cluster need pool some more => ⟨fun short => walkPool_short cluster pool need short, ?_⟩,
    fun pool es b => covers_addExtents pool es b⟩
  · have asked : exec (.storeSet tag cluster pages) s = .next (t.storeSet tag cluster pages) :=
      congrArg _ (State.onRequest_reaches reaches _)
    have sizes : clusterSizes.contains cluster = true ↔ cluster ∈ [8, 16, 32, 64, 128, 256] := List.contains_iff_mem
    rw [asked]
    refine ⟨fun unknown => ?_, fun known => ⟨fun outside => ?_, fun low high => ⟨fun other kept => ?_, fun free => ?_⟩⟩⟩
    · have absent : clusterSizes.contains cluster = false := by simpa using fun has => unknown (sizes.mp has)
      exact congrArg _ (storeSet_refused (if_pos absent))
    · rw [← sizes] at known
      exact congrArg _ (storeSet_refused (by simp only [State.storeSetFault, known, outside, Bool.true_eq_false,
        if_false, if_true]))
    · rw [← sizes] at known
      have held : t.clusterFree = false := Bool.eq_false_iff.mpr fun free => (clusterFree_iff t).mp free kept
      have range : ¬ (pages < 1 ∨ 512 < pages) := by omega
      exact congrArg _ (storeSet_refused (by simp only [State.storeSetFault, known, range, other, held,
        Bool.true_eq_false, if_false, if_true, ne_eq, not_false_eq_true, and_self]))
    · rw [← sizes] at known
      have range : ¬ (pages < 1 ∨ 512 < pages) := by omega
      have passes : ¬ (cluster ≠ t.csu.cluster ∧ t.clusterFree = false) := by
        rintro ⟨other, held⟩
        obtain same | unkept := free
        · exact other same
        · rw [(clusterFree_iff t).mpr unkept] at held
          cases held
      have fault : t.storeSetFault cluster pages = none := by
        simp only [State.storeSetFault, known, range, passes, Bool.true_eq_false, if_false]
      rw [State.storeSet, fault]
      rfl
  · have asked : exec (.extentsGive tag es) s = .next (t.extentsGive tag es) :=
      congrArg _ (State.onRequest_reaches reaches _)
    rw [asked]
    refine ⟨fun card => ?_, fun card => ⟨fun count => ?_, fun k e at_ few before bad => ?_⟩,
      fun card some few whole => ⟨fun k e at_ outside before => ?_, fun inside =>
        ⟨fun k e j f at_ lt earlier overlap before => ?_, fun pairs k e x taken at_ overlap before => ?_⟩⟩,
      fun card some few sound pairs clear => ?_⟩
    · have closed : t.csu.card.ready = false := by obtain card | card := card <;> rw [card] <;> rfl
      exact congrArg _ (extentsGive_refused (if_pos closed))
    · have ready : t.csu.card.ready = true := by obtain card | card := card <;> rw [card] <;> rfl
      have wrong : es.length < 1 ∨ 16 < es.length := by
        obtain rfl | many := count
        · exact .inl (by decide)
        · exact .inr many
      exact congrArg _ (extentsGive_refused (by rw [State.extentsFault, if_neg (by rw [ready]; decide), if_pos wrong]))
    · have some : es ≠ [] := by
        rintro rfl
        simp at at_
      exact congrArg _ (extentsGive_refused (extentsFault_field card some few at_ bad before))
    · exact congrArg _ (extentsGive_refused (extentsFault_range card some few whole at_ outside before))
    · exact congrArg _ (extentsGive_refused (extentsFault_overlap card some few whole inside at_ lt earlier overlap
        before))
    · exact congrArg _ (extentsGive_refused (extentsFault_taken card some few whole inside pairs taken at_ overlap
        before))
    · have fault := extentsFault_clear (t := t) card some few (fun e member => ⟨(sound e member).1, (sound e member).2.1⟩)
        (fun e member => (sound e member).2.2) pairs clear
      refine ⟨fun full => ?_, fun room store => ?_, fun id r n room store current found length => ?_⟩
      · exact congrArg _ (extentsGive_refused (fault.trans (if_pos full)))
      · rw [extentsGive_taken (fault.trans (if_neg (by omega))) tag, if_neg store]
        rfl
      · rw [extentsGive_taken (fault.trans (if_neg (by omega))) tag, if_pos store]
        refine ⟨fun short => ?_, fun f more left walk few => ⟨fun card holds busy awaiting => ?_,
          fun card none => ?_⟩⟩
        · rw [placeCurrent_short (s := extentsTaken t tag es) current found length short, extentsTaken, State.reply]
          simp only [store]
          rfl
        · rw [placeCurrent_placed (s := extentsTaken t tag es) current found length walk (by simpa using few)]
          refine congrArg _ ((if_neg (by rw [show (extentsTaken t tag es).csu.card = .opened from card]; decide)).trans ?_)
          exact resumeWriting_first (f := f) (more := more)
            (s := { extentsTaken t tag es with csu := { (extentsTaken t tag es).csu with
              pool := left, placement := .some (placementOf (f :: more)) } }) rfl holds busy awaiting
        · rw [placeCurrent_placed (s := extentsTaken t tag es) current found length walk (by simpa using few)]
          refine congrArg _ ((if_pos card).trans ?_)
          exact enterPaused_noHold
            (s := { extentsTaken t tag es with csu := { (extentsTaken t tag es).csu with
              pool := left, placement := .some (placementOf (f :: more)) } }) none
  · rintro front e rest rfl below enough
    exact walkPool_takes cluster e rest front need below enough

end Sys2Proof.Proofs.Extents
end

section
/-! PROOFS. The write exchange (R182 to R187, R189, R191). -/

namespace Sys2Proof.Proofs.WriteExchange
open Sys2Proof Sys2Proof.Machine Sys2Proof.Proofs.CardFacts

-- one declaration after another: each unfolds operations whose equations another would be waiting for
set_option Elab.async false

/-! ## Block faults (R183, R187) -/

/-- First block of a cluster of a placement. -/
def firstBlock (cluster : Nat) (p : Placement) (k : Nat) : Nat :=
  ((clusterPlace cluster p.fragments k).map (·.1)).getD 0

theorem clusterBlock_eq {s : State} {p : Placement} (placement : s.csu.placement = some p) (k : Nat) :
    s.clusterBlock k = firstBlock s.csu.cluster p k := by
  simp only [State.clusterBlock, State.placed, placement, firstBlock]
  cases clusterPlace s.csu.cluster p.fragments k <;> rfl

theorem firstBlock_of_place {cluster : Nat} {p : Placement} {k b n : Nat}
    (place : clusterPlace cluster p.fragments k = some (b, n)) : firstBlock cluster p k = b := by
  rw [firstBlock, place]
  rfl

/-- The continuation of a new fault record, by the record in hand and a waiting hold. -/
def continuationFor (s : State) (r : PicRecord) : Continuation :=
  if r.state = .discarding then .drop else if s.hasKind .storeHold = true then .hold else .none

theorem discarding_eq {s : State} {id : Nat} {r : PicRecord} (current : s.csu.current = some id)
    (found : s.record id = some r) : s.discarding = (r.state == .discarding) := by
  simp only [State.discarding, current, found]

theorem newContinuation_eq {s : State} {id : Nat} {r : PicRecord} (current : s.csu.current = some id)
    (found : s.record id = some r) : s.newContinuation = continuationFor s r := by
  rw [State.newContinuation, discarding_eq current found, continuationFor]
  by_cases dropped : r.state = .discarding
  · rw [if_pos (by simpa using dropped), if_pos dropped]
  · rw [if_neg (by simpa using dropped), if_neg dropped]
    rfl

/-- The state after a block fault (R187): `two` tells that blocks of the next cluster were sent too. -/
def blockFaulted (s : State) (id : Nat) (r : PicRecord) (p : Placement) (block : Nat) (response : FaultResponse)
    (two : Prop) [Decidable two] : State :=
  { s with
      opt := attend s.opt .store .fault 1,
      csu := { s.csu with
        store := .faulted, exchange := none, restarted := false,
        fault := some
          { format := 1, picture := id, written := p.written + p.ahead.length, place := some (p.written, block),
            response := some response, continuation := continuationFor s r,
            repeats := if p.writeBacks = [] then 0 else p.repeats,
            writeBacks := { cluster := p.written, block := firstBlock s.csu.cluster p p.written, valid := true } ::
              (if two then
                [{ cluster := p.written + 1, block := firstBlock s.csu.cluster p (p.written + 1), valid := true }]
               else []) } } }

/-- A test of two parts as a proposition. -/
theorem ite_decide_and {α : Type} (a b : Prop) [Decidable a] [Decidable b] (x y : α) :
    (if (decide a && decide b) = true then x else y) = if a ∧ b then x else y := by
  by_cases first : a <;> by_cases second : b <;> simp [first, second]

/-- Clusters of the exchange in progress that are counted. -/
def countedOf (s : State) : Nat := match s.csu.exchange with | some e => e.counted | none => 0

theorem blockFault_eq {s : State} {id : Nat} {r : PicRecord} {p : Placement} (current : s.csu.current = some id)
    (found : s.record id = some r) (placement : s.csu.placement = some p) (block sent : Nat)
    (response : FaultResponse) :
    s.blockFault block sent response =
      blockFaulted s id r p block response
        ((countedOf s + 1) * s.csu.cluster < sent ∧ p.written + 1 < clustersOf p.fragments) := by
  simp only [State.blockFault, current, placement, State.enterFaulted, State.onCsu, attention_eq,
    newContinuation_eq current found, clusterBlock_eq placement, blockFaulted, Placement.count,
    ite_decide_and]
  rfl

/-- No cluster still to be written is at fault. -/
theorem commandFault_none {s : State} (placement : s.csu.placement = none) : s.commandFault = s := by
  simp only [State.commandFault, placement]

/-- A command, or the busy behind a stop command, fails before the cluster not yet written (R182, R183). -/
theorem commandFault_eq {s : State} {id : Nat} {r : PicRecord} {p : Placement} {b n : Nat}
    (current : s.csu.current = some id) (found : s.record id = some r) (placement : s.csu.placement = some p)
    (place : clusterPlace s.csu.cluster p.fragments p.written = some (b, n))
    (store : s.csu.store = .writing ∨ s.csu.store = .paused ∨ s.csu.store = .disabled)
    (more : p.written < clustersOf p.fragments) :
    s.commandFault = blockFaulted s id r p b .timeout False := by
  have stands : s.csu.store.left = true := by obtain store | store | store := store <;> rw [store] <;> rfl
  rw [State.commandFault, placement]
  refine (if_pos ⟨stands, more⟩).trans ?_
  rw [blockFault_eq current found placement, clusterBlock_eq placement, firstBlock_of_place place]
  simp only [blockFaulted, Nat.not_lt_zero, false_and]

/-! ## Responses and tokens (R182, R183) -/

theorem cardAnswers_write {s : State} {c : CardCommand} (opening : s.csu.opening = none)
    (awaiting : s.csu.awaiting = some c) (r : CardResponse) : s.cardAnswers r = s.writeResponse c r := by
  rw [State.cardAnswers, awaiting]
  exact if_neg (by rw [opening]; decide)

theorem cardSilent_write {s : State} {c : CardCommand} (opening : s.csu.opening = none)
    (awaiting : s.csu.awaiting = some c) :
    s.cardSilent = State.commandFault { s with csu := { s.csu with awaiting := none } } := by
  rw [State.cardSilent, awaiting]
  exact if_neg (by rw [opening]; decide)

/-- A refused command counts as one unanswered (log 22). -/
theorem writeResponse_refused {s : State} {c : CardCommand}
    (command : (∃ n, c = .blockCount n) ∨ (∃ n, c = .writeMultiple n) ∨ c = .stop) :
    s.writeResponse c .refused = State.commandFault { s with csu := { s.csu with awaiting := none } } := by
  obtain ⟨n, rfl⟩ | ⟨n, rfl⟩ | rfl := command <;> rfl

section
variable {s : State} {e : Exchange} {p : Placement} (exchange : s.csu.exchange = some e)
  (store : s.csu.store = .writing)
include exchange store

/-- A token that the store awaits is read. -/
theorem takeToken_read (awaiting : s.csu.awaiting = none) (idle : e.busy = false)
    (more : e.accepted < e.clusters * s.csu.cluster) (token : Token) :
    s.takeToken token =
      match token with
      | .accepted =>
        { s with csu := { s.csu with exchange := some { e with accepted := e.accepted + 1, busy := true } } }
      | .crcError => s.badToken e .crcError
      | .writeError => s.badToken e .writeError := by
  rw [State.takeToken, exchange]
  exact if_pos ⟨store, awaiting, idle, more⟩

omit exchange store in
/-- A CRC error repeats the cluster, up to twice, behind the stop command (R183). -/
theorem badToken_again (placement : s.csu.placement = some p) (few : p.retries < 2) :
    s.badToken e .crcError =
      { s with csu := { s.csu with
          exchange := none, awaiting := some .stop, placement := some { p with retries := p.retries + 1 } } } := by
  rw [State.badToken, placement]
  refine (if_pos ⟨rfl, few⟩).trans (startExchange_waits ?_)
  exact Bool.or_true _

omit exchange store in
/-- Another bad token is a block fault, and the stop command is sent. -/
theorem badToken_fault {token : FaultResponse} (placement : s.csu.placement = some p)
    (last : token = .crcError → 2 ≤ p.retries) :
    s.badToken e token =
      (s.blockFault (s.exchangeBlock e e.accepted) (e.sent s.csu.cluster) token).onCsu fun c =>
        { c with awaiting := some .stop } := by
  rw [State.badToken, placement]
  refine if_neg ?_
  rintro ⟨crc, few⟩
  have := last crc
  omega

theorem busyTimeout_fault (quiet : s.csu.stopBusy = false) (busy : e.busy = true) :
    s.busyTimeout = s.blockFault (s.exchangeBlock e (e.accepted - 1)) (e.sent s.csu.cluster) .timeout := by
  rw [State.busyTimeout, if_neg (by rw [quiet]; decide), exchange]
  exact if_pos ⟨store, busy⟩

/-- The busy after a block ends: the next block, or the cluster's boundary (R184). -/
theorem busyEnd_block (quiet : s.csu.stopBusy = false) (busy : e.busy = true) :
    s.busyEnd =
      let t : State := { s with csu := { s.csu with exchange := some { e with busy := false } } }
      if e.accepted % s.csu.cluster = 0 then t.clusterBoundary { e with busy := false } else t := by
  rw [State.busyEnd, if_neg (by rw [quiet]; decide), exchange]
  exact if_pos ⟨store, busy⟩

end

/-! ## Cluster boundaries (R184) -/

/-- The state at a boundary, the cluster counted. -/
def atBoundary (s : State) (e : Exchange) (q : Placement) : State :=
  { s with csu := { s.csu with placement := some q, exchange := some { e with counted := e.counted + 1 } } }

/-- The state once the store has left the exchange there. -/
def leftExchange (s : State) (q : Placement) : State :=
  { s with csu := { s.csu with placement := some q, exchange := none, awaiting := some .stop } }

theorem clusterBoundary_eq {s : State} {p : Placement} (placement : s.csu.placement = some p) (e : Exchange) :
    s.clusterBoundary e =
      match (atBoundary s e p.clusterWritten).boundaryStop with
      | some u => u
      | none =>
        if clustersOf p.fragments ≤ p.clusterWritten.written then (leftExchange s p.clusterWritten).enterNotifying
        else if e.clusters ≤ e.counted + 1 then (leftExchange s p.clusterWritten).startExchange
        else atBoundary s e p.clusterWritten := by
  rw [State.clusterBoundary, placement]
  rfl

/-- The state with the busy over and the cluster of the exchange counted. -/
def countedState (s : State) (e : Exchange) (q : Placement) : State :=
  { s with csu := { s.csu with
      placement := some q, exchange := some { e with busy := false, counted := e.counted + 1 } } }

/-- The next exchange waits for the stop command. -/
theorem leftExchange_startExchange (s : State) (q : Placement) :
    (leftExchange s q).startExchange = leftExchange s q := startExchange_waits (Bool.or_true _)

/-- The placement when the last write-back, or a cluster of a plain placement, has been written: the clusters that count
as written ahead are passed (R191). -/
def lastWritten (p : Placement) : Placement :=
  { p with
      written := if p.ahead = [] then p.written + 1 else p.written + 2,
      ahead := [], retries := 0, repeats := 0, writeBacks := [] }

theorem clusterWritten_last {p : Placement} (writeBacks : p.writeBacks = [] ∨ p.writeBacks = [p.written])
    (ahead : p.ahead = [] ∨ p.ahead = [p.written + 1]) : p.clusterWritten = lastWritten p := by
  obtain ahead | ahead := ahead <;> obtain writeBacks | writeBacks := writeBacks <;>
    simp [Placement.clusterWritten, lastWritten, ahead, writeBacks, passAhead]

/-- The placement when the first of two write-backs has been written. -/
theorem clusterWritten_first {p : Placement} (writeBacks : p.writeBacks = [p.written, p.written + 1])
    (ahead : p.ahead = []) :
    p.clusterWritten = { p with written := p.written + 1, retries := 0, writeBacks := [p.written + 1] } := by
  simp [Placement.clusterWritten, ahead, writeBacks, passAhead]

/-- With no write-back left nothing is deferred: a drop, a RESTART, and a hold or a PROTECTED card, in this order. -/
theorem boundaryStop_last {s : State} {q : Placement} (placement : s.csu.placement = some q)
    (past : q.writeBacks = []) :
    s.boundaryStop =
      if s.discarding = true then some s.leaveExchange.completeDrop
      else if s.csu.restarted = true then some s.leaveExchange.enterDisabled
      else if s.hasKind .storeHold = true ∨ s.csu.card = .protect then some s.leaveExchange.enterPaused
      else none := by
  have defers (k : Continuation) : s.defers k = false := by simp [State.defers, placement, past]
  simp only [State.boundaryStop, defers, State.holdWaits, Bool.not_false, Bool.true_or, Bool.and_true, Bool.or_eq_true,
    beq_iff_eq]

/-- A pool of at most 64 extents is not trimmed (R176). -/
theorem trimPool_small {s : State} (small : s.csu.pool.length ≤ 64) : s.trimPool = s := by
  rw [State.trimPool, List.getElem?_eq_none small]

/-- The pool with the fragments of the current placement back in it. -/
def poolBack (s : State) (p : Placement) : List Extent :=
  addExtents s.csu.pool (p.fragments.map fun f => { start := f.start, len := f.clusters * s.csu.cluster })

/-- The state with a DISCARDING record gone (R186). -/
def droppedState (s : State) (id : Nat) (r : PicRecord) (p : Placement) : State :=
  { s with
      pbf := { s.pbf with freePages := s.pbf.freePages ++ (r.pages ++ r.reserved),
                          records := s.pbf.records.erase r },
      csu := { s.csu with
        pool := poolBack s p, queue := s.csu.queue.filter (fun x => x != id), current := none, placement := none } }

theorem returnDropped_eq {s : State} {id : Nat} {r : PicRecord} {p : Placement} (found : s.record id = some r)
    (placement : s.csu.placement = some p) (small : (poolBack s p).length ≤ 64) :
    s.returnDropped id = droppedState s id r p := by
  have placed : s.placed = p.fragments := by rw [State.placed, placement]
  have back : (s.onCsu fun c => { c with pool := addExtents c.pool (s.placed.map (fragmentExtent c.cluster)) }) =
      { s with csu := { s.csu with pool := poolBack s p } } := by
    rw [placed]
    rfl
  have gone := freeRecord_found (s := { s with csu := { s.csu with pool := poolBack s p } }) found
  simp only [State.returnDropped, back]
  rw [trimPool_small (s := { s with csu := { s.csu with pool := poolBack s p } }) small, gone]
  rfl

theorem completeDrop_writing {s : State} {id : Nat} {r : PicRecord} {p : Placement}
    (current : s.csu.current = some id) (found : s.record id = some r) (placement : s.csu.placement = some p)
    (small : (poolBack s p).length ≤ 64) (store : s.csu.store = .writing) :
    s.completeDrop =
      if s.csu.restarted = true then (droppedState s id r p).enterDisabled
      else (droppedState s id r p).boundaryChoice := by
  rw [State.completeDrop, current]
  simp only [store, returnDropped_eq found placement small]

/-- The last cluster leads to NOTIFYING and its STORED (R185). -/
theorem enterNotifying_eq {s : State} {id : Nat} {r : PicRecord} {p : Placement} (current : s.csu.current = some id)
    (found : s.record id = some r) (placement : s.csu.placement = some p) :
    s.enterNotifying =
      { s with
          opt := { s.opt with outbox := s.opt.outbox ++
            [.stored id (r.length.getD 0) s.csu.cluster r.shot p.fragments] },
          csu := { s.csu with store := .notifying } } := by
  have placed : s.placed = p.fragments := by rw [State.placed, placement]
  rw [State.enterNotifying, current]
  simp only [found, placed, Option.bind_some]
  rfl

/-! ## A boundary of an exchange in progress -/

section
variable {s : State} {e : Exchange} {p : Placement} {id : Nat} {r : PicRecord} (exchange : s.csu.exchange = some e)
  (placement : s.csu.placement = some p) (current : s.csu.current = some id) (found : s.record id = some r)
  (store : s.csu.store = .writing) (quiet : s.csu.stopBusy = false) (busy : e.busy = true)
  (boundary : e.accepted % s.csu.cluster = 0)
include exchange placement store quiet busy boundary

/-- The busy that ends a cluster: what stops the store there, or the way on. -/
theorem busyEnd_boundary :
    s.busyEnd =
      match (countedState s e p.clusterWritten).boundaryStop with
      | some u => u
      | none =>
        if clustersOf p.fragments ≤ p.clusterWritten.written then (leftExchange s p.clusterWritten).enterNotifying
        else if e.clusters ≤ e.counted + 1 then (leftExchange s p.clusterWritten).startExchange
        else countedState s e p.clusterWritten := by
  refine (busyEnd_block exchange store quiet busy).trans ((if_pos boundary).trans ?_)
  exact clusterBoundary_eq (s := { s with csu := { s.csu with exchange := some { e with busy := false } } }) placement
    { e with busy := false }

variable (writeBacks : p.writeBacks = [] ∨ p.writeBacks = [p.written])
  (ahead : p.ahead = [] ∨ p.ahead = [p.written + 1])
include writeBacks ahead

/-- The same with no write-back left: the rows of R184 in their order. -/
theorem busyEnd_last :
    s.busyEnd =
      if s.discarding = true then (leftExchange s (lastWritten p)).completeDrop
      else if s.csu.restarted = true then (leftExchange s (lastWritten p)).enterDisabled
      else if s.hasKind .storeHold = true ∨ s.csu.card = .protect then (leftExchange s (lastWritten p)).enterPaused
      else if clustersOf p.fragments ≤ (lastWritten p).written then (leftExchange s (lastWritten p)).enterNotifying
      else if e.clusters ≤ e.counted + 1 then (leftExchange s (lastWritten p)).startExchange
      else countedState s e (lastWritten p) := by
  have stop : (countedState s e (lastWritten p)).boundaryStop =
      if s.discarding = true then some (leftExchange s (lastWritten p)).completeDrop
      else if s.csu.restarted = true then some (leftExchange s (lastWritten p)).enterDisabled
      else if s.hasKind .storeHold = true ∨ s.csu.card = .protect then
        some (leftExchange s (lastWritten p)).enterPaused
      else none := boundaryStop_last (s := countedState s e (lastWritten p)) rfl rfl
  rw [busyEnd_boundary exchange placement store quiet busy boundary, clusterWritten_last writeBacks ahead, stop]
  by_cases dropped : s.discarding = true
  · rw [if_pos dropped, if_pos dropped]
  · rw [if_neg dropped, if_neg dropped]
    by_cases restarted : s.csu.restarted = true
    · rw [if_pos restarted, if_pos restarted]
    · rw [if_neg restarted, if_neg restarted]
      by_cases stops : s.hasKind .storeHold = true ∨ s.csu.card = .protect
      · rw [if_pos stops, if_pos stops]
      · rw [if_neg stops, if_neg stops]

include current found

/-- A drop is completed there (R186), and a RESTART leaves the store DISABLED after it (log 26). -/
theorem busyEnd_drops (gone : r.state = .discarding) (small : (poolBack s p).length ≤ 64) :
    s.busyEnd =
      if s.csu.restarted = true then (droppedState (leftExchange s (lastWritten p)) id r p).enterDisabled
      else (droppedState (leftExchange s (lastWritten p)) id r p).boundaryChoice := by
  have dropped : s.discarding = true := by rw [discarding_eq current found, gone]; rfl
  rw [busyEnd_last exchange placement store quiet busy boundary writeBacks ahead, if_pos dropped]
  exact completeDrop_writing (s := leftExchange s (lastWritten p)) (p := lastWritten p) current found rfl small store

/-- The rows for a record that is kept: a RESTART, a hold or a PROTECTED card, the last cluster, the end of a fragment. -/
theorem busyEnd_keeps (kept : r.state = .storing) :
    s.busyEnd =
      if s.csu.restarted = true then (leftExchange s (lastWritten p)).enterDisabled
      else if s.hasKind .storeHold = true ∨ s.csu.card = .protect then (leftExchange s (lastWritten p)).enterPaused
      else if clustersOf p.fragments ≤ (lastWritten p).written then (leftExchange s (lastWritten p)).enterNotifying
      else if e.clusters ≤ e.counted + 1 then (leftExchange s (lastWritten p)).startExchange
      else countedState s e (lastWritten p) := by
  have stays : ¬ s.discarding = true := by rw [discarding_eq current found, kept]; decide
  rw [busyEnd_last exchange placement store quiet busy boundary writeBacks ahead, if_neg stays]

end

/-- Between the two write-backs of a RETRY a deferred HOLD or DROP waits (R189, R191). -/
theorem boundaryStop_between {s : State} {q : Placement} (placement : s.csu.placement = some q)
    (left : q.writeBacks ≠ []) (restarted : s.csu.restarted = false) (card : s.csu.card = .opened)
    (waits : (s.discarding = false ∧ (s.hasKind .storeHold = false ∨ q.deferred = .hold)) ∨ q.deferred = .drop) :
    s.boundaryStop = none := by
  have defers (k : Continuation) : s.defers k = (q.deferred == k) := by simp [State.defers, placement, left]
  obtain ⟨kept, noHold | deferred⟩ | deferred := waits
  · simp [State.boundaryStop, State.holdWaits, restarted, card, kept, noHold]
  · simp [State.boundaryStop, defers, restarted, card, kept, deferred]
  · simp [State.boundaryStop, defers, restarted, card, deferred]

/-- Settles O54: responses, the end and the timeout of a stop command's busy, tokens, and the busy after a block by the
place of the block in its cluster. -/
theorem writeExchange : Obligations.WriteExchange := by
  refine ⟨fun token s none => ?_, fun s none quiet => ⟨?_, ?_⟩, fun s opening => ⟨?_, ?_, ?_, ?_, ?_⟩,
    fun s stopBusy => ⟨fun store => ?_, fun placement => ?_, fun p b n placement place => ⟨?_, ?_⟩⟩,
    fun s e p id r exchange placement current found store awaiting quiet => ⟨fun idle more => ⟨?_, fun few => ?_,
      fun last => ?_, ?_⟩, fun busy => ⟨?_, fun within => ?_, fun boundary => ⟨?_, ?_⟩⟩⟩⟩
  · show Host.Outcome.next (s.takeToken token) = _
    rw [State.takeToken, none]
  · show Host.Outcome.next s.busyEnd = _
    rw [State.busyEnd, if_neg (by rw [quiet]; decide), none]
  · show Host.Outcome.next s.busyTimeout = _
    rw [State.busyTimeout, if_neg (by rw [quiet]; decide), none]
  · intro n e p b m awaiting exchange placement place
    refine congrArg Host.Outcome.next ((cardAnswers_write opening awaiting .accepted).trans ?_)
    have block : s.clusterBlock e.first = b :=
      (clusterBlock_eq placement e.first).trans (firstBlock_of_place place)
    simp [State.writeResponse, State.onCsu, exchange, block]
  · intro b awaiting
    exact congrArg Host.Outcome.next (cardAnswers_write opening awaiting .accepted)
  · intro awaiting
    exact congrArg Host.Outcome.next (cardAnswers_write opening awaiting .accepted)
  · intro c awaiting placement
    exact congrArg Host.Outcome.next ((cardSilent_write opening awaiting).trans
      (commandFault_none (s := { s with csu := { s.csu with awaiting := .none } }) placement))
  · intro c p b n id r awaiting placement place store current found more
    have fault := commandFault_eq (s := { s with csu := { s.csu with awaiting := .none } }) current found placement place
      store more
    have block := firstBlock_of_place place
    refine ⟨?_, fun command => ?_⟩
    · refine congrArg Host.Outcome.next ((cardSilent_write opening awaiting).trans (fault.trans ?_))
      simp only [attention_eq, blockFaulted, block, if_false]
      rfl
    · refine congrArg Host.Outcome.next ((cardAnswers_write opening awaiting .refused).trans
        ((writeResponse_refused command).trans (fault.trans ?_)))
      simp only [attention_eq, blockFaulted, block, if_false]
      rfl
  · show Host.Outcome.next s.busyEnd = _
    rw [State.busyEnd, if_pos stopBusy]
    exact congrArg _ (if_neg store)
  · show Host.Outcome.next s.busyTimeout = _
    rw [State.busyTimeout, if_pos stopBusy]
    exact congrArg _ (commandFault_none (s := { s with csu := { s.csu with stopBusy := false } }) placement)
  · intro store awaiting
    show Host.Outcome.next s.busyEnd = _
    rw [State.busyEnd, if_pos stopBusy]
    refine congrArg _ ((if_pos store).trans ?_)
    exact startExchange_starts (s := { s with csu := { s.csu with stopBusy := false } }) placement rfl
      (by rw [awaiting]; decide) place
  · intro id r store current found kept noHold past exchange more
    have block := firstBlock_of_place place
    have fault := commandFault_eq (s := { s with csu := { s.csu with stopBusy := false } }) current found placement place
      store more
    show Host.Outcome.next s.busyTimeout = _
    rw [State.busyTimeout, if_pos stopBusy]
    refine congrArg _ (fault.trans ?_)
    simp only [State.hasKind] at noHold
    simp [attention_eq, blockFaulted, continuationFor, State.hasKind, kept, noHold, past, exchange, block]
  · exact congrArg Host.Outcome.next (takeToken_read exchange store awaiting idle more .accepted)
  · exact congrArg Host.Outcome.next ((takeToken_read exchange store awaiting idle more .crcError).trans
      (badToken_again placement few))
  · refine congrArg Host.Outcome.next ((takeToken_read exchange store awaiting idle more .crcError).trans
      ((badToken_fault placement fun _ => last).trans ?_))
    rw [blockFault_eq current found placement, Exchange.sent, idle, State.exchangeBlock,
      clusterBlock_eq placement]
    simp only [attention_eq, blockFaulted, countedOf, exchange]
    rfl
  · refine congrArg Host.Outcome.next ((takeToken_read exchange store awaiting idle more .writeError).trans
      ((badToken_fault (token := .writeError) placement fun crc => nomatch crc).trans ?_))
    rw [blockFault_eq current found placement, Exchange.sent, idle, State.exchangeBlock,
      clusterBlock_eq placement]
    simp only [attention_eq, blockFaulted, countedOf, exchange]
    rfl
  · refine congrArg Host.Outcome.next ((busyTimeout_fault exchange store quiet busy).trans ?_)
    rw [blockFault_eq current found placement, Exchange.sent, busy, State.exchangeBlock,
      clusterBlock_eq placement]
    simp only [attention_eq, blockFaulted, countedOf, exchange, awaiting]
    rfl
  · exact congrArg Host.Outcome.next ((busyEnd_block exchange store quiet busy).trans (if_neg within))
  · intro writeBacks ahead
    refine ⟨fun gone small noHold => ?_, fun kept => ⟨fun restarted noHold => ?_, fun running =>
      ⟨fun card noHold => ?_, fun h kind entry => ?_, fun card noHold => ?_⟩⟩⟩
    · have drops := busyEnd_drops exchange placement current found store quiet busy boundary writeBacks ahead gone small
      let dropped := droppedState (leftExchange s (lastWritten p)) id r p
      refine ⟨fun restarted => ?_, fun running card => ?_, fun running card queue => ?_⟩
      · rw [if_pos restarted] at drops
        exact congrArg Host.Outcome.next (drops.trans (enterDisabled_noHold (s := dropped) noHold))
      · rw [if_neg (Bool.eq_false_iff.mp running), boundaryChoice_stops (s := dropped) (.inr card) (.inr card)] at drops
        refine congrArg Host.Outcome.next (drops.trans ((enterPaused_noHold (s := dropped) noHold).trans ?_))
        rw [← running]
        rfl
      · rw [if_neg (Bool.eq_false_iff.mp running), boundaryChoice_open (s := dropped) card noHold] at drops
        refine congrArg Host.Outcome.next (drops.trans ((takeOrIdle_idle (s := dropped) queue).trans ?_))
        rw [← running]
        rfl
    · have keeps := busyEnd_keeps exchange placement current found store quiet busy boundary writeBacks ahead kept
      rw [if_pos restarted] at keeps
      exact congrArg Host.Outcome.next (keeps.trans
        (enterDisabled_noHold (s := leftExchange s (lastWritten p)) noHold))
    · have keeps := busyEnd_keeps exchange placement current found store quiet busy boundary writeBacks ahead kept
      rw [if_neg (Bool.eq_false_iff.mp running), if_pos (.inr card)] at keeps
      refine congrArg Host.Outcome.next (keeps.trans
        ((enterPaused_noHold (s := leftExchange s (lastWritten p)) noHold).trans ?_))
      rw [← running]
      rfl
    · have keeps := busyEnd_keeps exchange placement current found store quiet busy boundary writeBacks ahead kept
      rw [if_neg (Bool.eq_false_iff.mp running), if_pos (.inl (hasKind_of_entryOfKind kind)), State.enterPaused,
        endHold_paused (s := (leftExchange s (lastWritten p)).onCsu fun c => { c with store := .paused }) kind entry]
        at keeps
      refine congrArg Host.Outcome.next (keeps.trans ?_)
      have reports : holdCurrent ((leftExchange s (lastWritten p)).onCsu fun c => { c with store := .paused }) =
          some (id, (lastWritten p).written) := by
        simp only [holdCurrent, State.onCsu, leftExchange, current]
        rfl
      rw [reports, ← running]
      rfl
    · have keeps := busyEnd_keeps exchange placement current found store quiet busy boundary writeBacks ahead kept
      have goes : ¬ (s.hasKind .storeHold = true ∨ s.csu.card = .protect) := by simp [noHold, card]
      rw [if_neg (Bool.eq_false_iff.mp running), if_neg goes] at keeps
      refine ⟨fun last => ?_, fun more fragment => ?_, fun more inside => ?_⟩
      · rw [if_pos (show _ ≤ (lastWritten p).written from last), enterNotifying_eq (s := leftExchange s (lastWritten p)) current found rfl] at keeps
        refine congrArg Host.Outcome.next (keeps.trans ?_)
        rw [← running]
        rfl
      · rw [if_neg (Nat.not_le.mpr (show (lastWritten p).written < _ from more)), if_pos fragment, leftExchange_startExchange] at keeps
        refine congrArg Host.Outcome.next (keeps.trans ?_)
        rw [← running, ← store]
        rfl
      · rw [if_neg (Nat.not_le.mpr (show (lastWritten p).written < _ from more)), if_neg (by omega)] at keeps
        exact congrArg Host.Outcome.next keeps
  · intro writeBacks ahead restarted card more clusters waits
    have ends := busyEnd_boundary exchange placement store quiet busy boundary
    have written := clusterWritten_first writeBacks ahead
    have goes : (countedState s e p.clusterWritten).boundaryStop = .none := by
      refine boundaryStop_between (q := p.clusterWritten) rfl (by rw [written]; simp) restarted card ?_
      have dropped : (countedState s e p.clusterWritten).discarding = (r.state == .discarding) :=
        discarding_eq (s := s) current found
      rw [dropped, written]
      obtain ⟨kept, hold⟩ | ⟨-, drop⟩ := waits
      · exact .inl ⟨by rw [kept]; rfl, hold⟩
      · exact .inr drop
    rw [goes, leftExchange_startExchange, written] at ends
    refine congrArg Host.Outcome.next (ends.trans ?_)
    exact (if_neg (by simpa using more)).trans (if_pos (by omega))

end Sys2Proof.Proofs.WriteExchange
end

section
/-! PROOFS. FAULT-READ and FAULT-RETURN (R187, R189 to R192). -/

namespace Sys2Proof.Proofs.FaultRequests
open Sys2Proof Sys2Proof.Machine Sys2Proof.Proofs.CardFacts
open Sys2Proof.Proofs.Extents (apart any_overlaps_iff any_overlaps_false overlaps_iff)
open Sys2Proof.Proofs.WriteExchange (trimPool_small)

-- one declaration after another: each unfolds operations whose equations another would be waiting for
set_option Elab.async false

/-! ## FAULT-READ (R189) -/

/-- The bytes of a fault record with the fragments of the placement (section 12.7). -/
theorem putFault_faultOperands (t : State) (h : FaultRecord) :
    putFault (t.faultOperands h) =
      put1 h.format ++ put2 h.picture ++ put2 h.written ++ putOption2 (h.place.map (·.1)) ++
        putOption4 (h.place.map (·.2)) ++
        (match h.response with
         | some .crcError => [1#8]
         | some .writeError => [2#8]
         | some .timeout => [3#8]
         | none => [0xFF#8]) ++
        (match h.continuation with | .none => [0#8] | .hold => [1#8] | .drop => [2#8]) ++ put1 h.repeats ++
        put1 h.writeBacks.length ++
        h.writeBacks.flatMap (fun w =>
          put2 w.cluster ++ put4 w.block ++ [if w.valid then 1#8 else 0#8] ++ List.replicate 4 0xFF#8) ++
        put1 t.placed.length ++ t.placed.flatMap (fun x => put4 x.start ++ put2 x.clusters) := by
  have response : putOption1 (h.response.map faultResponseCode) =
      match h.response with
      | some .crcError => [1#8]
      | some .writeError => [2#8]
      | some .timeout => [3#8]
      | none => [0xFF#8] := by
    rcases h.response with _ | _ | _ | _ <;> rfl
  have continuation : put1 (continuationCode h.continuation) =
      match h.continuation with | .none => [0#8] | .hold => [1#8] | .drop => [2#8] := by
    cases h.continuation <;> rfl
  have writeBack (w : WriteBack) :
      putWriteBack { cluster := w.cluster, block := w.block, valid := flagCode w.valid, relocation := none } =
        put2 w.cluster ++ put4 w.block ++ [if w.valid then 1#8 else 0#8] ++ List.replicate 4 0xFF#8 := by
    cases w.valid <;> simp [putWriteBack, flagCode] <;> rfl
  rw [putFault, State.faultOperands]
  simp only [response, continuation, List.length_map, List.flatMap_map, writeBack]
  rfl

/-! ## The checks of an edited record (R190) -/

theorem continuationOf_eq_some (code : Nat) (k : Continuation) :
    continuationOf code = some k ↔ code = continuationCode k := by
  unfold continuationOf
  split <;> cases k <;> simp_all [continuationCode]

/-- The write-backs agree: as many, the same clusters, and none set that was not. -/
def Agree (h : FaultRecord) (f : FaultOperands) : Prop :=
  h.writeBacks.length = f.writeBacks.length ∧
    ∀ (k : Nat) (a : WriteBack) (b : WriteBackOperand), h.writeBacks[k]? = some a → f.writeBacks[k]? = some b →
      a.cluster = b.cluster ∧ (b.valid ≠ 0 → a.valid = true)

theorem writeBacksAgree_iff (h : FaultRecord) (f : FaultOperands) :
    writeBacksAgree h.writeBacks f.writeBacks = true ↔ Agree h f := by
  have pair (p : WriteBack × WriteBackOperand) :
      (p.1.cluster == p.2.cluster && (p.2.valid == 0 || p.1.valid)) = true ↔
        p.1.cluster = p.2.cluster ∧ (p.2.valid ≠ 0 → p.1.valid = true) := by
    simp only [Bool.and_eq_true, beq_iff_eq, Bool.or_eq_true]
    tauto
  rw [writeBacksAgree, Bool.and_eq_true, beq_iff_eq, List.all_eq_true, Agree]
  refine and_congr_right fun _ => ⟨fun all k a b first second => ?_, fun each p member => ?_⟩
  · have member : (a, b) ∈ h.writeBacks.zip f.writeBacks :=
      List.mem_of_getElem? (List.getElem?_zip_eq_some.mpr ⟨first, second⟩)
    exact (pair (a, b)).mp (all (a, b) member)
  · obtain ⟨k, at_⟩ := List.mem_iff_getElem?.mp member
    obtain ⟨first, second⟩ := List.getElem?_zip_eq_some.mp at_
    exact (pair p).mpr (each k p.1 p.2 first second)

/-- No extent of a list overlaps an earlier one, or one of those seen before. -/
theorem firstOverlap_none_iff (es seen : List Extent) (n : Nat) :
    firstOverlap n seen es = none ↔ (∀ e ∈ es, ∀ x ∈ seen, apart x e) ∧ es.Pairwise apart := by
  induction es generalizing n seen with
  | nil => simp [firstOverlap]
  | cons e rest ih =>
    rw [firstOverlap]
    by_cases overlap : seen.any (overlaps e) = true
    · obtain ⟨x, member, not⟩ := (any_overlaps_iff e seen).mp overlap
      simp only [overlap, if_true, reduceCtorEq, false_iff]
      exact fun both => not (both.1 e List.mem_cons_self x member)
    · have clear : ∀ x ∈ seen, apart x e := fun x member => by
        by_contra not
        exact overlap ((any_overlaps_iff e seen).mpr ⟨x, member, not⟩)
      rw [if_neg overlap, ih, List.pairwise_cons]
      simp only [List.mem_cons, forall_eq_or_imp, imp_and, forall_and]
      tauto

/-- The relocations stand on set write-backs, lie in the pool, and lie apart. -/
def Fits (cluster : Nat) (pool : List Extent) (w : List WriteBackOperand) : Prop :=
  ∀ (k : Nat) (x : WriteBackOperand) (b : Nat), w[k]? = some x → x.relocation = some b →
    x.valid ≠ 0 ∧
      (∃ e ∈ pool, e.start ≤ b ∧ b + cluster ≤ e.start + e.len ∧ (b - e.start) % cluster = 0) ∧
      ∀ (j : Nat) (v : WriteBackOperand) (a : Nat), j < k → w[j]? = some v → v.relocation = some a →
        a + cluster ≤ b ∨ b + cluster ≤ a

theorem clusterInside_iff (cluster block : Nat) (e : Extent) :
    clusterInside cluster block e = true ↔
      e.start ≤ block ∧ block + cluster ≤ e.start + e.len ∧ (block - e.start) % cluster = 0 := by
  simp only [clusterInside, Bool.and_eq_true, decide_eq_true_eq, beq_iff_eq, and_assoc]

theorem mem_relocations {w : List WriteBackOperand} {m : Nat × Nat} :
    m ∈ relocations w ↔ ∃ x ∈ w, x.relocation = some m.2 ∧ x.cluster = m.1 := by
  simp only [relocations, List.mem_filterMap, Option.map_eq_some_iff]
  refine exists_congr fun x => and_congr_right fun _ => ⟨?_, ?_⟩
  · rintro ⟨b, relocation, rfl⟩
    exact ⟨relocation, rfl⟩
  · rintro ⟨relocation, same⟩
    exact ⟨m.2, relocation, by rw [same]⟩

/-- The relocations lie apart exactly when each lies apart from the earlier ones. -/
theorem relocations_pairwise (cluster : Nat) (w : List WriteBackOperand) :
    ((relocations w).map fun m => ({ start := m.2, len := cluster } : Extent)).Pairwise apart ↔
      ∀ (k : Nat) (x : WriteBackOperand) (b : Nat), w[k]? = some x → x.relocation = some b →
        ∀ (j : Nat) (v : WriteBackOperand) (a : Nat), j < k → w[j]? = some v → v.relocation = some a →
          a + cluster ≤ b ∨ b + cluster ≤ a := by
  rw [List.pairwise_map, relocations, List.pairwise_filterMap, List.pairwise_iff_getElem]
  refine ⟨fun pairs k x b at_k relocation j v a lt at_j earlier => ?_, fun each j k lj lk lt m first q second => ?_⟩
  · obtain ⟨lk, rfl⟩ := List.getElem?_eq_some_iff.mp at_k
    obtain ⟨lj, rfl⟩ := List.getElem?_eq_some_iff.mp at_j
    exact pairs j k lj lk lt (_, a) (by rw [earlier]; rfl) (_, b) (by rw [relocation]; rfl)
  · obtain ⟨a, earlier, rfl⟩ := Option.map_eq_some_iff.mp first
    obtain ⟨b, relocation, rfl⟩ := Option.map_eq_some_iff.mp second
    exact each k _ b (List.getElem?_eq_getElem lk) relocation j _ a lt (List.getElem?_eq_getElem lj) earlier

theorem relocationsFit_iff (cluster : Nat) (pool : List Extent) (w : List WriteBackOperand) :
    relocationsFit cluster pool w = true ↔ Fits cluster pool w := by
  have valid : (w.all fun x => x.relocation.isNone || x.valid != 0) = true ↔
      ∀ (k : Nat) (x : WriteBackOperand) (b : Nat), w[k]? = some x → x.relocation = some b → x.valid ≠ 0 := by
    simp only [List.all_eq_true, Bool.or_eq_true, Option.isNone_iff_eq_none, bne_iff_ne]
    refine ⟨fun all k x b at_ relocation => ?_, fun each x member => ?_⟩
    · exact (all x (List.mem_of_getElem? at_)).resolve_left (by rw [relocation]; simp)
    · obtain ⟨k, at_⟩ := List.mem_iff_getElem?.mp member
      cases relocation : x.relocation with
      | none => exact .inl rfl
      | some b => exact .inr (each k x b at_ relocation)
  have inside : ((relocations w).all fun m => pool.any (clusterInside cluster m.2)) = true ↔
      ∀ (k : Nat) (x : WriteBackOperand) (b : Nat), w[k]? = some x → x.relocation = some b →
        ∃ e ∈ pool, e.start ≤ b ∧ b + cluster ≤ e.start + e.len ∧ (b - e.start) % cluster = 0 := by
    simp only [List.all_eq_true, List.any_eq_true, clusterInside_iff]
    refine ⟨fun all k x b at_ relocation => ?_, fun each m member => ?_⟩
    · exact all (x.cluster, b) (mem_relocations.mpr ⟨x, List.mem_of_getElem? at_, relocation, rfl⟩)
    · obtain ⟨x, member, relocation, -⟩ := mem_relocations.mp member
      obtain ⟨k, at_⟩ := List.mem_iff_getElem?.mp member
      exact each k x m.2 at_ relocation
  have pairs := relocations_pairwise cluster w
  rw [relocationsFit, Bool.and_eq_true, Bool.and_eq_true, valid, inside, Option.isNone_iff_eq_none,
    firstOverlap_none_iff, pairs, Fits]
  refine ⟨?_, fun fits => ⟨⟨fun k x b at_ relocation => (fits k x b at_ relocation).1,
    fun k x b at_ relocation => (fits k x b at_ relocation).2.1⟩, fun _ _ _ none => (List.not_mem_nil none).elim,
    fun k x b at_ relocation => (fits k x b at_ relocation).2.2⟩⟩
  rintro ⟨⟨set, lies⟩, -, clear⟩ k x b at_ relocation
  exact ⟨set k x b at_ relocation, lies k x b at_ relocation, clear k x b at_ relocation⟩

/-! ## FAULT-RETURN, refused or disposed (R190) -/

theorem faultReturn_refused {t : State} {disposition : Nat} {f : FaultOperands} {code : Code} {detail : Nat}
    (refused : t.returnFault disposition f = .inl (code, detail)) (tag : Nat) :
    t.faultReturn tag disposition f = t.reply tag (.refused code detail) := by
  rw [State.faultReturn, refused]
  rfl

section
variable {t : State} {h : FaultRecord} {disposition : Nat} {f : FaultOperands} (fault : t.csu.fault = some h)
include fault

theorem returnFault_eq (known : disposition ≤ 2) :
    t.returnFault disposition f =
      match t.formatFault h disposition f with
      | some k => .inl (.format, k)
      | none =>
        if disposition = 0 ∧ t.csu.card ≠ .opened then .inl (.noCard, if t.csu.card = .protect then 1 else 0)
        else .inr h := by
  rw [State.returnFault, fault]
  exact if_neg (by omega)

theorem returnFault_format (known : disposition ≤ 2) {k : Nat} (bad : t.formatFault h disposition f = some k) :
    t.returnFault disposition f = .inl (.format, k) := by
  rw [returnFault_eq fault known, bad]

variable (known : disposition ≤ 2) (format : f.format = h.format) (picture : f.picture = h.picture)
include known format picture

omit fault known in
/-- The checks 3 to 7, the format and the picture being those of the record. -/
theorem formatFault_eq :
    t.formatFault h disposition f =
      if continuationOf f.continuation ≠ some h.continuation ∧ continuationOf f.continuation ≠ some .none then some 3
      else if writeBacksAgree h.writeBacks f.writeBacks = false then some 4
      else if disposition = 0 ∧ h.format = 2 then some 5
      else if disposition = 0 ∧ relocationsFit t.csu.cluster t.csu.pool f.writeBacks = false then some 6
      else if disposition = 0 ∧ 16 < (recut t.csu.cluster t.placed (relocations f.writeBacks)).length then some 7
      else none := by
  rw [State.formatFault, if_neg (by simpa using format), if_neg (by simpa using picture)]

variable (continuation : f.continuation = 0 ∨ f.continuation = continuationCode h.continuation)
include continuation

omit fault known in
/-- The checks 4 to 7, the continuation being NONE or the record's. -/
theorem formatFault_continued :
    t.formatFault h disposition f =
      if writeBacksAgree h.writeBacks f.writeBacks = false then some 4
      else if disposition = 0 ∧ h.format = 2 then some 5
      else if disposition = 0 ∧ relocationsFit t.csu.cluster t.csu.pool f.writeBacks = false then some 6
      else if disposition = 0 ∧ 16 < (recut t.csu.cluster t.placed (relocations f.writeBacks)).length then some 7
      else none := by
  rw [formatFault_eq format picture, if_neg]
  rintro ⟨record, none⟩
  obtain zero | same := continuation
  · exact none ((continuationOf_eq_some _ _).mpr zero)
  · exact record ((continuationOf_eq_some _ _).mpr same)

variable (agree : Agree h f)
include agree

omit fault known in
/-- The checks 5 to 7, the write-backs agreeing. -/
theorem formatFault_agreed :
    t.formatFault h disposition f =
      if disposition = 0 ∧ h.format = 2 then some 5
      else if disposition = 0 ∧ relocationsFit t.csu.cluster t.csu.pool f.writeBacks = false then some 6
      else if disposition = 0 ∧ 16 < (recut t.csu.cluster t.placed (relocations f.writeBacks)).length then some 7
      else none := by
  rw [formatFault_continued format picture continuation,
    if_neg (by rw [(writeBacksAgree_iff h f).mpr agree]; decide)]

omit known in
/-- Another disposition than RETRY needs no further check. -/
theorem returnFault_other (other : disposition = 1 ∨ disposition = 2) : t.returnFault disposition f = .inr h := by
  have retry : disposition ≠ 0 := by omega
  rw [returnFault_eq fault (by omega), formatFault_agreed format picture continuation agree]
  simp [retry]

variable (retry : disposition = 0) (block : h.format ≠ 2)
include retry block

omit known fault in
theorem formatFault_unfit (unfit : ¬ Fits t.csu.cluster t.csu.pool f.writeBacks) :
    t.formatFault h disposition f = some 6 := by
  have fit : relocationsFit t.csu.cluster t.csu.pool f.writeBacks = false :=
    Bool.eq_false_iff.mpr fun fit => unfit ((relocationsFit_iff _ _ _).mp fit)
  rw [formatFault_agreed format picture continuation agree, if_neg fun both => block both.2, if_pos ⟨retry, fit⟩]

variable (fits : Fits t.csu.cluster t.csu.pool f.writeBacks)
include fits

omit known fault in
theorem formatFault_fit :
    t.formatFault h disposition f =
      if 16 < (recut t.csu.cluster t.placed (relocations f.writeBacks)).length then some 7 else none := by
  have fit : relocationsFit t.csu.cluster t.csu.pool f.writeBacks = true := (relocationsFit_iff _ _ _).mpr fits
  rw [formatFault_agreed format picture continuation agree, if_neg fun both => block both.2,
    if_neg fun both => Bool.eq_false_iff.mp both.2 fit]
  simp only [retry, true_and]

variable (few : (recut t.csu.cluster t.placed (relocations f.writeBacks)).length ≤ 16)
include few

omit known in
theorem returnFault_retry :
    t.returnFault disposition f =
      if t.csu.card ≠ .opened then .inl (.noCard, if t.csu.card = .protect then 1 else 0) else .inr h := by
  rw [returnFault_eq fault (by omega), formatFault_fit format picture continuation agree retry block fits,
    if_neg (by omega)]
  simp only [retry, true_and]

end

/-! ## RETRY (R191) -/

/-- The continuation an edited record asks for. -/
def asked (f : FaultOperands) : Continuation := (continuationOf f.continuation).getD .none

/-- The state after an accepted FAULT-RETURN. -/
def answered (u : State) (tag : Nat) : State := u.reply tag (.done [])

theorem faultReturn_disposes {t : State} {h : FaultRecord} {disposition : Nat} {f : FaultOperands}
    (accepted : t.returnFault disposition f = .inr h) (tag : Nat) :
    t.faultReturn tag disposition f = answered (t.dispose h disposition f) tag := by
  rw [State.faultReturn, accepted]
  rfl

/-- The records with the picture of the fault STORING again. -/
def storingAgain (t : State) (picture : Nat) : Pbf :=
  { t.pbf with
      records := updateFirst (fun q => q.id == picture) (fun q => { q with state := .storing }) t.pbf.records }

/-- The pool without the relocation clusters. -/
def poolTaken (t : State) (f : FaultOperands) : List Extent :=
  (relocations f.writeBacks).foldl (fun l m => takeCluster t.csu.cluster m.2 l) t.csu.pool

/-- The placement of a RETRY. -/
def retryPlacement (t : State) (p : Placement) (f : FaultOperands) : Placement :=
  let next := passAhead p.written (countedAhead p.ahead f.writeBacks)
  { fragments := recut t.csu.cluster p.fragments (relocations f.writeBacks), written := next.1, ahead := next.2,
    retries := 0, writeBacks := (f.writeBacks.filter fun w => w.valid != 0).map (·.cluster), deferred := asked f,
    repeats := min 255 (f.repeats + 1) }

/-- The state in which a RETRY goes on. -/
def retried (t : State) (picture : Nat) (p : Placement) (f : FaultOperands) : State :=
  { t with
      pbf := storingAgain t picture,
      csu := { t.csu with
        fault := none, pool := poolTaken t f, placement := some (retryPlacement t p f), store := .writing,
        restarted := false } }

/-- A RETRY whose continuation is no DROP. -/
theorem dispose_retry {t : State} {h : FaultRecord} {p : Placement} {f : FaultOperands}
    (placement : t.csu.placement = some p) (keeps : asked f ≠ .drop) (small : (poolTaken t f).length ≤ 64) :
    t.dispose h 0 f =
      if (f.writeBacks.filter fun w => w.valid != 0).map (·.cluster) = [] then
        (if asked f = .hold then (retried t h.picture p f).enterPaused else (retried t h.picture p f).resumeWriting)
      else (retried t h.picture p f).resumeWriting := by
  have trims : State.trimPool { t with csu := { t.csu with fault := none, pool := poolTaken t f } } =
      { t with csu := { t.csu with fault := none, pool := poolTaken t f } } := trimPool_small small
  have pool : ((t.onCsu fun c => { c with fault := none }).onCsu fun c =>
      { c with pool := (relocations f.writeBacks).foldl (fun l m => takeCluster c.cluster m.2 l) c.pool }) =
      { t with csu := { t.csu with fault := none, pool := poolTaken t f } } := rfl
  show State.retry (t.onCsu fun c => { c with fault := none }) h.picture (asked f) f = _
  rw [State.retry, show (t.onCsu fun c => { c with fault := none }).csu.placement = some p from placement]
  simp only [if_neg keeps, pool, trims]
  rfl

/-- A cluster of a placement has a place. -/
theorem clusterPlace_exists (cluster : Nat) : ∀ {fragments : List Fragment} {k : Nat}, k < clustersOf fragments →
    ∃ place, clusterPlace cluster fragments k = some place
  | [], _, lt => absurd lt (Nat.not_lt_zero _)
  | f :: rest, k, lt => by
    rw [clusterPlace]
    by_cases here : k < f.clusters
    · exact ⟨_, if_pos here⟩
    · rw [if_neg here]
      refine clusterPlace_exists cluster ?_
      simp only [clustersOf, List.map_cons, List.sum_cons] at lt ⊢
      omega

/-- Writing goes on from the first cluster not yet written of the new placement. -/
theorem retried_resumes {t : State} {picture : Nat} {p : Placement} {f : FaultOperands} {place : Nat × Nat}
    (busy : t.csu.stopBusy = false) (awaiting : t.csu.awaiting ≠ some .stop)
    (more : (retryPlacement t p f).written < clustersOf (retryPlacement t p f).fragments)
    (at_ : clusterPlace t.csu.cluster (retryPlacement t p f).fragments (retryPlacement t p f).written = some place) :
    (retried t picture p f).resumeWriting =
      let m := if (retryPlacement t p f).writeBacks = [] then place.2 else 1
      { retried t picture p f with csu := { (retried t picture p f).csu with
          exchange := some { first := (retryPlacement t p f).written, clusters := m, accepted := 0, busy := false,
                             counted := 0 },
          awaiting := some (.blockCount (m * t.csu.cluster)) } } := by
  refine (resumeWriting_write (s := retried t picture p f) rfl more).trans ?_
  exact startExchange_starts (s := retried t picture p f) (n := place.2) rfl busy awaiting at_

/-! ### One write-back, or two -/

section
variable {t : State} {p : Placement} {f : FaultOperands} {w : WriteBackOperand} (one : f.writeBacks = [w])
  (cluster : w.cluster = p.written) (ahead : p.ahead = [] ∨ p.ahead = [p.written + 1])
include one cluster ahead

/-- One set write-back is written again. -/
theorem retryPlacement_set (set : w.valid ≠ 0) :
    retryPlacement t p f =
      { fragments := recut t.csu.cluster p.fragments (relocations f.writeBacks), written := p.written,
        ahead := p.ahead, retries := 0, writeBacks := [w.cluster], deferred := asked f,
        repeats := min 255 (f.repeats + 1) } := by
  obtain ahead | ahead := ahead <;>
    simp [retryPlacement, countedAhead, passAhead, one, cluster, set, ahead]

/-- One cleared write-back counts as written. -/
theorem retryPlacement_cleared (cleared : w.valid = 0) (plain : w.relocation = none) :
    retryPlacement t p f =
      { fragments := p.fragments, written := if p.ahead = [] then p.written + 1 else p.written + 2, ahead := [],
        retries := 0, writeBacks := [], deferred := asked f, repeats := min 255 (f.repeats + 1) } := by
  obtain ahead | ahead := ahead <;>
    simp [retryPlacement, countedAhead, passAhead, one, cluster, cleared, ahead, relocations, plain, recut]

end

/-- Of two write-backs the second, cleared, counts as written at once. -/
theorem retryPlacement_two {t : State} {p : Placement} {f : FaultOperands} {w w' : WriteBackOperand}
    (two : f.writeBacks = [w, w']) (first : w.cluster = p.written) (second : w'.cluster = p.written + 1)
    (ahead : p.ahead = []) (set : w.valid ≠ 0) (cleared : w'.valid = 0) (plain : w.relocation = none)
    (fits : Fits t.csu.cluster t.csu.pool f.writeBacks) :
    retryPlacement t p f =
      { fragments := p.fragments, written := p.written, ahead := [p.written + 1], retries := 0,
        writeBacks := [p.written], deferred := asked f, repeats := min 255 (f.repeats + 1) } := by
  have plain' : w'.relocation = none := by
    cases relocation : w'.relocation with
    | none => rfl
    | some b => exact absurd cleared (fits 1 w' b (by rw [two]; rfl) relocation).1
  simp [retryPlacement, countedAhead, passAhead, two, first, second, set, cleared, ahead, relocations, plain, plain',
    recut]

/-- The extent that holds a relocation gives up one cluster. -/
theorem takeCluster_eq {cluster b : Nat} {x : Extent} (some : 0 < cluster) (start : x.start ≤ b)
    (stop : b + cluster ≤ x.start + x.len) (whole : (b - x.start) % cluster = 0) (rest : List Extent) :
    ∀ {front : List Extent}, (∀ y ∈ front, y.start + y.len ≤ b) →
      takeCluster cluster b (front ++ x :: rest) =
        front ++
          ((if b = x.start then [] else [{ start := x.start, len := b - x.start }]) ++
            (if b + cluster = x.start + x.len then []
             else [{ start := b + cluster, len := x.start + x.len - (b + cluster) }]) ++ rest)
  | [], _ => by
    rw [List.nil_append, takeCluster, if_pos ((clusterInside_iff _ _ _).mpr ⟨start, stop, whole⟩)]
    by_cases ends : b + cluster = x.start + x.len
    · simp [ends]
    · simp [ends]
  | y :: front, before => by
    have outside : ¬ clusterInside cluster b y = true := by
      rw [clusterInside_iff]
      have := before y List.mem_cons_self
      omega
    rw [List.cons_append, takeCluster, if_neg outside,
      takeCluster_eq some start stop whole rest fun z member => before z (List.mem_cons_of_mem y member)]
    rfl

/-- The pool without the one relocation. -/
theorem poolTaken_one {t : State} {f : FaultOperands} {w : WriteBackOperand} (one : f.writeBacks = [w]) :
    poolTaken t f =
      match w.relocation with
      | none => t.csu.pool
      | some b => takeCluster t.csu.cluster b t.csu.pool := by
  cases relocation : w.relocation <;> simp [poolTaken, relocations, one, relocation]

/-- One relocated cluster is cut out of the fragment that holds it (R191, step 2). -/
theorem recutOne_eq (cluster b start n : Nat) (rest : List Fragment) : ∀ {front : List Fragment} {k : Nat},
    clustersOf front ≤ k → k < clustersOf front + n →
      recutOne cluster k b (front ++ { start := start, clusters := n } :: rest) =
        front ++
          ((if k - clustersOf front = 0 then [] else [{ start := start, clusters := k - clustersOf front }]) ++
            { start := b, clusters := 1 } ::
              ((if k - clustersOf front + 1 = n then []
                else [{ start := start + (k - clustersOf front + 1) * cluster,
                        clusters := n - (k - clustersOf front + 1) }]) ++ rest))
  | [], k, _, lt => by
    have inside : k < n := by simpa [clustersOf] using lt
    by_cases last : k + 1 = n
    · subst last
      simp [recutOne, clustersOf]
    · simp [recutOne, clustersOf, inside, last]
  | f :: front, k, le, lt => by
    have sum : clustersOf (f :: front) = f.clusters + clustersOf front := by simp [clustersOf]
    rw [sum] at le lt ⊢
    rw [List.cons_append, recutOne, if_neg (by omega),
      recutOne_eq cluster b start n rest (front := front) (k := k - f.clusters) (by omega) (by omega),
      show k - f.clusters - clustersOf front = k - (f.clusters + clustersOf front) by omega]
    rfl

/-! ## DROP and RESTART (R192) -/

/-- The store pauses and the waiting STORE-HOLD ends. -/
theorem enterPaused_hold {s : State} {e : OpEntry} (kind : s.entryOfKind .storeHold = some e)
    (found : s.entry e.tag = some e) :
    s.enterPaused =
      { s with
          csu := { s.csu with
            store := .paused,
            placement := s.csu.placement.map fun p =>
              if p.deferred = .hold then { p with deferred := .none } else p },
          opt :=
            { table := s.opt.table.filter fun g => g.tag != e.tag,
              outbox := s.opt.outbox ++
                [.ending { tag := e.tag, kind := e.kind, cls := .complete, cause := .none,
                           done := min 65535 (e.done + 1), resume := .absent, result := some 0,
                           fields := .storeHold .paused (holdCurrent s) s.csu.queue.length }] } } := by
  rw [State.enterPaused, endHold_paused (s := s.onCsu fun c => { c with store := .paused }) kind found]
  rfl

/-- The state with the picture of the fault freed. -/
def faultDropped (t : State) (picture : Nat) (r : PicRecord) : State :=
  { t with
      pbf := { t.pbf with freePages := t.pbf.freePages ++ (r.pages ++ r.reserved),
                          records := t.pbf.records.erase r },
      csu := { t.csu with fault := none, queue := t.csu.queue.filter (fun p => p != picture), current := none,
                          placement := none } }

/-- The state with the picture of the fault at the head of the queue again. -/
def faultQueued (t : State) (picture : Nat) : State :=
  { t with
      pbf := { t.pbf with
        records := updateFirst (fun q => q.id == picture) (fun q => { q with state := .complete }) t.pbf.records },
      csu := { t.csu with fault := none, queue := picture :: t.csu.queue, current := none, placement := none } }

theorem dispose_drop {t : State} {h : FaultRecord} {disposition : Nat} {f : FaultOperands} {r : PicRecord}
    (found : t.record h.picture = some r) (drops : disposition = 2 ∨ (disposition = 1 ∧ asked f = .drop)) :
    t.dispose h disposition f =
      if asked f = .hold then (faultDropped t h.picture r).enterPaused
      else (faultDropped t h.picture r).boundaryChoice := by
  have gone := freeRecord_found (s := t.onCsu fun c => { c with fault := none }) found
  have other : ¬ disposition = 0 := by omega
  have noRestart : ¬ (disposition = 1 ∧ asked f ≠ .drop) := by
    rintro ⟨rfl, keeps⟩
    obtain two | ⟨-, drop⟩ := drops
    · omega
    · exact keeps drop
  rw [State.dispose, if_neg other]
  refine (if_neg noRestart).trans ?_
  rw [gone]
  rfl

theorem dispose_restart {t : State} {h : FaultRecord} {f : FaultOperands} (keeps : asked f ≠ .drop) :
    t.dispose h 1 f =
      if asked f = .hold then (faultQueued t h.picture).enterPaused else (faultQueued t h.picture).boundaryChoice := by
  rw [State.dispose, if_neg (by decide)]
  exact if_pos ⟨rfl, keeps⟩

theorem asked_none {f : FaultOperands} (zero : f.continuation = 0) : asked f = .none := by rw [asked, zero]; rfl
theorem asked_hold {f : FaultOperands} (one : f.continuation = 1) : asked f = .hold := by rw [asked, one]; rfl
theorem asked_drop {f : FaultOperands} (two : f.continuation = 2) : asked f = .drop := by rw [asked, two]; rfl

/-- An edited continuation that stands is one of the three. -/
theorem asked_cases {h : FaultRecord} {f : FaultOperands}
    (continuation : f.continuation = 0 ∨ f.continuation = continuationCode h.continuation) :
    f.continuation = 0 ∨ f.continuation = 1 ∨ f.continuation = 2 := by
  obtain zero | same := continuation
  · exact .inl zero
  · rw [same]
    cases h.continuation <;> simp [continuationCode]

/-- A RETRY that goes on writing, at the cluster that is first not yet written. -/
theorem dispose_writes {t : State} {h : FaultRecord} {p : Placement} {f : FaultOperands} {place : Nat × Nat}
    (placement : t.csu.placement = some p) (keeps : asked f ≠ .drop) (small : (poolTaken t f).length ≤ 64)
    (goesOn : (f.writeBacks.filter fun w => w.valid != 0) = [] → asked f ≠ .hold) (busy : t.csu.stopBusy = false)
    (awaiting : t.csu.awaiting ≠ some .stop)
    (more : (retryPlacement t p f).written < clustersOf (retryPlacement t p f).fragments)
    (at_ : clusterPlace t.csu.cluster (retryPlacement t p f).fragments (retryPlacement t p f).written = some place) :
    t.dispose h 0 f =
      let m := if (retryPlacement t p f).writeBacks = [] then place.2 else 1
      { retried t h.picture p f with csu := { (retried t h.picture p f).csu with
          exchange := some { first := (retryPlacement t p f).written, clusters := m, accepted := 0, busy := false,
                             counted := 0 },
          awaiting := some (.blockCount (m * t.csu.cluster)) } } := by
  rw [dispose_retry placement keeps small, ← retried_resumes busy awaiting more at_]
  split
  · rename_i none
    exact if_neg (goesOn (List.map_eq_nil_iff.mp none))
  · rfl

/-- The continuation of an edited record that asks for no DROP. -/
theorem asked_eq {h : FaultRecord} {f : FaultOperands}
    (continuation : f.continuation = 0 ∨ f.continuation = continuationCode h.continuation)
    (keeps : f.continuation ≠ 2) : asked f = if f.continuation = 1 then .hold else .none := by
  obtain zero | one | two := asked_cases continuation
  · rw [asked_none zero, zero]
    rfl
  · rw [asked_hold one, if_pos one]
  · exact absurd two keeps

theorem asked_keeps {h : FaultRecord} {f : FaultOperands}
    (continuation : f.continuation = 0 ∨ f.continuation = continuationCode h.continuation)
    (keeps : f.continuation ≠ 2) : asked f ≠ .drop := by
  rw [asked_eq continuation keeps]
  split <;> simp

theorem asked_noHold {h : FaultRecord} {f : FaultOperands}
    (continuation : f.continuation = 0 ∨ f.continuation = continuationCode h.continuation)
    (other : f.continuation ≠ 1) : asked f ≠ .hold := by
  obtain zero | one | two := asked_cases continuation
  · rw [asked_none zero]
    decide
  · exact absurd one other
  · rw [asked_drop two]
    decide

/-- A RETRY of one set write-back writes its cluster again. -/
theorem dispose_set {t : State} {h : FaultRecord} {p : Placement} {f : FaultOperands} {w : WriteBackOperand}
    (continuation : f.continuation = 0 ∨ f.continuation = continuationCode h.continuation)
    (keeps : f.continuation ≠ 2) (placement : t.csu.placement = some p) (one : f.writeBacks = [w])
    (cluster : w.cluster = p.written) (ahead : p.ahead = [] ∨ p.ahead = [p.written + 1]) (set : w.valid ≠ 0)
    (small : (poolTaken t f).length ≤ 64) (busy : t.csu.stopBusy = false) (awaiting : t.csu.awaiting ≠ some .stop)
    (more : p.written < clustersOf (recut t.csu.cluster p.fragments (relocations f.writeBacks))) :
    t.dispose h 0 f =
      { t with
          pbf := storingAgain t h.picture,
          csu := { t.csu with
            fault := none, pool := poolTaken t f, store := .writing, restarted := false,
            placement := some
              { fragments := recut t.csu.cluster p.fragments (relocations f.writeBacks), written := p.written,
                ahead := p.ahead, retries := 0, writeBacks := [w.cluster],
                deferred := if f.continuation = 1 then .hold else .none, repeats := min 255 (f.repeats + 1) },
            exchange := some { first := p.written, clusters := 1, accepted := 0, busy := false, counted := 0 },
            awaiting := some (.blockCount t.csu.cluster) } } := by
  have placed := retryPlacement_set (t := t) one cluster ahead set
  obtain ⟨place, at_⟩ := clusterPlace_exists t.csu.cluster more
  have left : (f.writeBacks.filter fun w => w.valid != 0) ≠ [] := by simp [one, set]
  rw [dispose_writes (place := place) placement (asked_keeps continuation keeps) small (fun none => absurd none left) busy
    awaiting (by rw [placed]; exact more) (by rw [placed]; exact at_)]
  simp only [retried, placed, reduceCtorEq, if_false, Nat.one_mul, asked_eq continuation keeps]

/-- A RETRY of one cleared write-back goes on behind the cluster it counts. -/
theorem dispose_cleared {t : State} {h : FaultRecord} {p : Placement} {f : FaultOperands} {w : WriteBackOperand}
    {place : Nat × Nat} (zero : f.continuation = 0) (placement : t.csu.placement = some p) (one : f.writeBacks = [w])
    (cluster : w.cluster = p.written) (ahead : p.ahead = [] ∨ p.ahead = [p.written + 1]) (cleared : w.valid = 0)
    (plain : w.relocation = none) (small : t.csu.pool.length ≤ 64) (busy : t.csu.stopBusy = false)
    (awaiting : t.csu.awaiting ≠ some .stop)
    (more : (if p.ahead = [] then p.written + 1 else p.written + 2) < clustersOf p.fragments)
    (at_ : clusterPlace t.csu.cluster p.fragments (if p.ahead = [] then p.written + 1 else p.written + 2) =
      some place) :
    t.dispose h 0 f =
      { t with
          pbf := storingAgain t h.picture,
          csu := { t.csu with
            fault := none, store := .writing, restarted := false,
            placement := some
              { fragments := p.fragments, written := if p.ahead = [] then p.written + 1 else p.written + 2, ahead := [],
                retries := 0, writeBacks := [], deferred := .none, repeats := min 255 (f.repeats + 1) },
            exchange := some
              { first := if p.ahead = [] then p.written + 1 else p.written + 2, clusters := place.2, accepted := 0,
                busy := false, counted := 0 },
            awaiting := some (.blockCount (place.2 * t.csu.cluster)) } } := by
  have placed := retryPlacement_cleared (t := t) one cluster ahead cleared plain
  have pool : poolTaken t f = t.csu.pool := by rw [poolTaken_one one, plain]
  have asks := asked_none zero
  rw [dispose_writes (place := place) placement (by rw [asks]; decide) (by rw [pool]; exact small)
    (fun _ => by rw [asks]; decide) busy awaiting (by rw [placed]; exact more) (by rw [placed]; exact at_)]
  simp only [retried, placed, pool, asks, if_true]

/-- A RETRY of one cleared write-back with a continuation HOLD pauses the store. -/
theorem dispose_cleared_hold {t : State} {h : FaultRecord} {p : Placement} {f : FaultOperands} {w : WriteBackOperand}
    {e : OpEntry} (hold : f.continuation = 1) (kind : t.entryOfKind .storeHold = some e)
    (found : t.entry e.tag = some e) (current : t.csu.current = some h.picture) (placement : t.csu.placement = some p)
    (one : f.writeBacks = [w]) (cluster : w.cluster = p.written) (ahead : p.ahead = [] ∨ p.ahead = [p.written + 1])
    (cleared : w.valid = 0) (plain : w.relocation = none) (small : t.csu.pool.length ≤ 64) :
    t.dispose h 0 f =
      { t with
          pbf := storingAgain t h.picture,
          csu := { t.csu with
            fault := none, store := .paused, restarted := false,
            placement := some
              { fragments := p.fragments, written := if p.ahead = [] then p.written + 1 else p.written + 2, ahead := [],
                retries := 0, writeBacks := [], deferred := .none, repeats := min 255 (f.repeats + 1) } },
          opt :=
            { table := t.opt.table.filter fun g => g.tag != e.tag,
              outbox := t.opt.outbox ++
                [.ending { tag := e.tag, kind := e.kind, cls := .complete, cause := .none,
                           done := min 65535 (e.done + 1), resume := .absent, result := some 0,
                           fields := .storeHold .paused
                             (some (h.picture, if p.ahead = [] then p.written + 1 else p.written + 2))
                             t.csu.queue.length }] } } := by
  have placed := retryPlacement_cleared (t := t) one cluster ahead cleared plain
  have pool : poolTaken t f = t.csu.pool := by rw [poolTaken_one one, plain]
  have asks := asked_hold hold
  have none : (f.writeBacks.filter fun w => w.valid != 0).map (·.cluster) = [] := by simp [one, cleared]
  rw [dispose_retry placement (by rw [asks]; decide) (by rw [pool]; exact small), if_pos none, if_pos asks,
    enterPaused_hold (s := retried t h.picture p f) kind found]
  simp [retried, placed, pool, asks, holdCurrent, current]

/-- A RETRY of two write-backs, the second cleared: the first is written, the second counts as written at once. -/
theorem dispose_two {t : State} {h : FaultRecord} {p : Placement} {f : FaultOperands} {w w' : WriteBackOperand}
    (zero : f.continuation = 0) (placement : t.csu.placement = some p) (two : f.writeBacks = [w, w'])
    (first : w.cluster = p.written) (second : w'.cluster = p.written + 1) (ahead : p.ahead = []) (set : w.valid ≠ 0)
    (cleared : w'.valid = 0) (plain : w.relocation = none) (fits : Fits t.csu.cluster t.csu.pool f.writeBacks)
    (small : t.csu.pool.length ≤ 64) (busy : t.csu.stopBusy = false) (awaiting : t.csu.awaiting ≠ some .stop)
    (more : p.written < clustersOf p.fragments) :
    t.dispose h 0 f =
      { t with
          pbf := storingAgain t h.picture,
          csu := { t.csu with
            fault := none, store := .writing, restarted := false,
            placement := some
              { fragments := p.fragments, written := p.written, ahead := [p.written + 1], retries := 0,
                writeBacks := [p.written], deferred := .none, repeats := min 255 (f.repeats + 1) },
            exchange := some { first := p.written, clusters := 1, accepted := 0, busy := false, counted := 0 },
            awaiting := some (.blockCount t.csu.cluster) } } := by
  have placed := retryPlacement_two two first second ahead set cleared plain fits
  have plain' : w'.relocation = none := by
    cases relocation : w'.relocation with
    | none => rfl
    | some b => exact absurd cleared (fits 1 w' b (by rw [two]; rfl) relocation).1
  have pool : poolTaken t f = t.csu.pool := by simp [poolTaken, relocations, two, plain, plain']
  have asks := asked_none zero
  obtain ⟨place, at_⟩ := clusterPlace_exists t.csu.cluster more
  rw [dispose_writes (place := place) placement (by rw [asks]; decide) (by rw [pool]; exact small)
    (fun _ => by rw [asks]; decide) busy awaiting (by rw [placed]; exact more) (by rw [placed]; exact at_)]
  simp only [retried, placed, pool, asks, reduceCtorEq, if_false, Nat.one_mul]

/-- Settles O55: FAULT-READ, the checks of FAULT-RETURN in their order, and its three dispositions. -/
theorem faultRequests : Obligations.FaultRequests := by
  refine ⟨fun tag s t reaches => ⟨fun none => ?_, fun h fault => ?_⟩, fun tag disposition f s t reaches => ?_,
    fun cluster k b start n front rest le lt => recutOne_eq cluster b start n rest le lt⟩
  · refine (congrArg Host.Outcome.next (State.onRequest_reaches reaches _)).trans ?_
    rw [State.faultRead, none]
    rfl
  · refine (congrArg Host.Outcome.next (State.onRequest_reaches reaches _)).trans ?_
    simp only [State.faultRead, fault, putFault_faultOperands]
    rfl
  · have returned : exec (.faultReturn tag disposition f) s = .next (t.faultReturn tag disposition f) :=
      congrArg Host.Outcome.next (State.onRequest_reaches reaches _)
    rw [returned]
    refine ⟨fun none => ?_, fun h fault => ⟨fun unknown => ?_, fun known format => ?_, fun known format picture => ?_,
      fun known format picture => ⟨fun set other => ?_, fun continuation => ⟨fun disagree => ?_, fun agree => ?_⟩⟩⟩⟩
    · exact congrArg _ (faultReturn_refused (by rw [State.returnFault, none]) tag)
    · exact congrArg _ (faultReturn_refused (by rw [State.returnFault, fault]; exact if_pos unknown) tag)
    · exact congrArg _ (faultReturn_refused (returnFault_format fault known (if_pos format)) tag)
    · exact congrArg _ (faultReturn_refused (returnFault_format fault known
        ((if_neg (by simpa using format)).trans (if_pos picture))) tag)
    · refine congrArg _ (faultReturn_refused (returnFault_format fault known
        ((formatFault_eq format picture).trans (if_pos ⟨fun same => ?_, fun zero => ?_⟩))) tag)
      · exact other ((continuationOf_eq_some _ _).mp same)
      · exact set ((continuationOf_eq_some _ _).mp zero)
    · refine congrArg _ (faultReturn_refused (returnFault_format fault known
        ((formatFault_continued format picture continuation).trans (if_pos ?_))) tag)
      exact Bool.eq_false_iff.mpr fun agrees => disagree ((writeBacksAgree_iff h f).mp agrees)
    · refine ⟨fun retry two => ?_, fun retry block => ⟨fun unfit => ?_, fun fits many => ?_, fun fits few =>
        ⟨fun card => ?_, fun card => ?_⟩⟩, fun r p w retry block fits card found current placement one cluster ahead =>
        ⟨fun set few keeps busy awaiting more => ⟨fun plain small => ?_,
          fun b front x rest moved pool before start stop whole some small => ?_⟩,
          fun cleared plain few small => ⟨fun place zero busy awaiting more at_ => ?_, fun e holds => ?_⟩⟩,
        fun r p w w' retry block fits card found current placement two first second ahead set cleared plain few small
          zero busy awaiting more => ?_, fun r found => ⟨fun drops => ⟨fun other noHold => ⟨fun card queue => ?_,
            fun card => ?_⟩, fun e holds => ?_⟩, fun restarts keeps => ⟨fun zero noHold card => ?_, fun e holds => ?_⟩⟩⟩
      · exact congrArg _ (faultReturn_refused (returnFault_format fault known
          ((formatFault_agreed format picture continuation agree).trans (if_pos ⟨retry, two⟩))) tag)
      · exact congrArg _ (faultReturn_refused (returnFault_format fault known
          (formatFault_unfit format picture continuation agree retry block unfit)) tag)
      · exact congrArg _ (faultReturn_refused (returnFault_format fault known
          ((formatFault_fit format picture continuation agree retry block fits).trans (if_pos many))) tag)
      · refine congrArg _ (faultReturn_refused
          ((returnFault_retry fault format picture continuation agree retry block fits few).trans ?_) tag)
        simp only [card, ne_eq, reduceCtorEq, not_false_eq_true, if_true]
      · refine congrArg _ (faultReturn_refused
          ((returnFault_retry fault format picture continuation agree retry block fits few).trans ?_) tag)
        obtain card | card := card <;> simp [card]
      · have placed : t.placed = p.fragments := by rw [State.placed, placement]
        have accepted : t.returnFault disposition f = .inr h :=
          (returnFault_retry fault format picture continuation agree retry block fits (by rw [placed]; exact few)).trans
            (if_neg (by simp [card]))
        have pool : poolTaken t f = t.csu.pool := by rw [poolTaken_one one, plain]
        rw [faultReturn_disposes accepted, retry, dispose_set continuation keeps placement one cluster ahead set
          (by rw [pool]; exact small) busy awaiting more, pool]
        rfl
      · have placed : t.placed = p.fragments := by rw [State.placed, placement]
        have accepted : t.returnFault disposition f = .inr h :=
          (returnFault_retry fault format picture continuation agree retry block fits (by rw [placed]; exact few)).trans
            (if_neg (by simp [card]))
        have taken : poolTaken t f = takeCluster t.csu.cluster b t.csu.pool := by rw [poolTaken_one one, moved]
        rw [pool, takeCluster_eq some start stop whole rest before] at taken
        rw [faultReturn_disposes accepted, retry, dispose_set continuation keeps placement one cluster ahead set
          (by rw [taken]; exact small) busy awaiting more, taken]
        rfl
      · have placed : t.placed = p.fragments := by rw [State.placed, placement]
        have plainCut : recut t.csu.cluster t.placed (relocations f.writeBacks) = p.fragments := by
          simp [placed, relocations, one, plain, recut]
        have accepted : t.returnFault disposition f = .inr h :=
          (returnFault_retry fault format picture continuation agree retry block fits
            (by rw [plainCut]; exact few)).trans (if_neg (by simp [card]))
        rw [faultReturn_disposes accepted, retry, dispose_cleared zero placement one cluster ahead cleared plain small
          busy awaiting more at_]
        rfl
      · obtain ⟨hold, kind, entry⟩ := holds
        have placed : t.placed = p.fragments := by rw [State.placed, placement]
        have plainCut : recut t.csu.cluster t.placed (relocations f.writeBacks) = p.fragments := by
          simp [placed, relocations, one, plain, recut]
        have accepted : t.returnFault disposition f = .inr h :=
          (returnFault_retry fault format picture continuation agree retry block fits
            (by rw [plainCut]; exact few)).trans (if_neg (by simp [card]))
        rw [faultReturn_disposes accepted, retry, dispose_cleared_hold hold kind entry current placement one cluster ahead
          cleared plain small]
        rfl
      · have placed : t.placed = p.fragments := by rw [State.placed, placement]
        have plain' : w'.relocation = none := by
          cases relocation : w'.relocation with
          | none => rfl
          | some b => exact absurd cleared (fits 1 w' b (by rw [two]; rfl) relocation).1
        have plainCut : recut t.csu.cluster t.placed (relocations f.writeBacks) = p.fragments := by
          simp [placed, relocations, two, plain, plain', recut]
        have accepted : t.returnFault disposition f = .inr h :=
          (returnFault_retry fault format picture continuation agree retry block fits
            (by rw [plainCut]; exact few)).trans (if_neg (by simp [card]))
        rw [faultReturn_disposes accepted, retry, dispose_two zero placement two first second ahead set cleared plain fits
          small busy awaiting more]
        rfl
      · have accepted := returnFault_other fault format picture continuation agree
          (show disposition = 1 ∨ disposition = 2 by omega)
        have dropsAsked : disposition = 2 ∨ (disposition = 1 ∧ asked f = .drop) :=
          drops.imp_right fun both => ⟨both.1, asked_drop both.2⟩
        rw [faultReturn_disposes accepted, dispose_drop found dropsAsked, if_neg (asked_noHold continuation other),
          boundaryChoice_open (s := faultDropped t h.picture r) card noHold,
          takeOrIdle_idle (s := faultDropped t h.picture r) queue]
        rfl
      · have accepted := returnFault_other fault format picture continuation agree
          (show disposition = 1 ∨ disposition = 2 by omega)
        have dropsAsked : disposition = 2 ∨ (disposition = 1 ∧ asked f = .drop) :=
          drops.imp_right fun both => ⟨both.1, asked_drop both.2⟩
        rw [faultReturn_disposes accepted, dispose_drop found dropsAsked, if_neg (asked_noHold continuation other),
          boundaryChoice_closed (s := faultDropped t h.picture r) card,
          enterDisabled_noHold (s := faultDropped t h.picture r) noHold]
        rfl
      · obtain ⟨hold, kind, entry⟩ := holds
        have accepted := returnFault_other fault format picture continuation agree
          (show disposition = 1 ∨ disposition = 2 by omega)
        have dropsAsked : disposition = 2 ∨ (disposition = 1 ∧ asked f = .drop) :=
          drops.imp_right fun both => ⟨both.1, asked_drop both.2⟩
        rw [faultReturn_disposes accepted, dispose_drop found dropsAsked, if_pos (asked_hold hold),
          enterPaused_hold (s := faultDropped t h.picture r) kind entry]
        rfl
      · have accepted := returnFault_other fault format picture continuation agree (.inl restarts)
        rw [faultReturn_disposes accepted, restarts, dispose_restart (asked_keeps continuation keeps),
          if_neg (by rw [asked_none zero]; decide), boundaryChoice_closed (s := faultQueued t h.picture) card,
          enterDisabled_noHold (s := faultQueued t h.picture) noHold]
        rfl
      · obtain ⟨hold, kind, entry⟩ := holds
        have accepted := returnFault_other fault format picture continuation agree (.inl restarts)
        rw [faultReturn_disposes accepted, restarts, dispose_restart (asked_keeps continuation keeps),
          if_pos (asked_hold hold), enterPaused_hold (s := faultQueued t h.picture) kind entry]
        rfl

end Sys2Proof.Proofs.FaultRequests
end

section
/-! PROOFS. The host's requests on pictures (R168, R169, R186). -/

namespace Sys2Proof.Proofs.PictureRequests
open Sys2Proof Sys2Proof.Machine Sys2Proof.Proofs.CardFacts Sys2Proof.Proofs.WriteExchange

-- one declaration after another: each unfolds operations whose equations another would be waiting for
set_option Elab.async false

/-- The code of a record's state is sent as one byte. -/
theorem put1_recordStateCode (k : RecordState) :
    put1 (recordStateCode k) =
      match k with
      | .reserved => [0#8]
      | .filling => [1#8]
      | .complete => [2#8]
      | .storing => [3#8]
      | .discarding => [4#8] := by
  cases k <;> rfl

/-- The bytes of a shot record, absent ones all ones. -/
theorem putShot_eq (shot : Option ShotRecord) :
    putShot shot =
      match shot with
      | some h =>
        putSigned h.tv ++ putSigned h.av ++ putSigned h.gv ++ put2 h.focal ++ put2 h.d ++
          put1 (stuStateCode h.stu) ++ [if h.late then 1#8 else 0#8] ++ put2 h.frame
      | none => List.replicate 14 0xFF#8 := by
  cases shot with
  | none => rfl
  | some h => cases late : h.late <;> simp only [putShot, late] <;> rfl

/-- The record of an id, DISCARDING. -/
def discarded (t : State) (picture : Nat) : List PicRecord :=
  updateFirst (fun q => q.id == picture) (fun q => { q with state := .discarding }) t.pbf.records

/-- A PICTURE-DROP of a record that may be dropped, STORING and its STORED notice not on its way. -/
theorem pictureDrop_discards {t : State} {picture : Nat} {r : PicRecord} (found : t.record picture = some r)
    (state : r.state = .storing) (quiet : t.storedInFlight picture = false) (tag : Nat) :
    t.pictureDrop tag picture =
      (State.dropCurrent { t with pbf := { t.pbf with records := discarded t picture } }).reply tag (.done [1#8]) := by
  simp only [State.pictureDrop, found, state, quiet]
  rfl

/-- The drop of the current record in a store that is stopped: pages and fragments return (R186). -/
theorem dropCurrent_stopped {s : State} {picture : Nat} {r : PicRecord} (current : s.csu.current = some picture)
    (found : s.record picture = some r) (store : s.csu.store = .paused ∨ s.csu.store = .disabled)
    (small : (addExtents s.csu.pool
      (s.placed.map fun f => { start := f.start, len := f.clusters * s.csu.cluster })).length ≤ 64) :
    s.dropCurrent =
      { s with
          pbf := { s.pbf with freePages := s.pbf.freePages ++ (r.pages ++ r.reserved), records := s.pbf.records.erase r },
          csu := { s.csu with
            pool := addExtents s.csu.pool
              (s.placed.map fun f => { start := f.start, len := f.clusters * s.csu.cluster }),
            current := none, placement := none, queue := s.csu.queue.filter fun p => p != picture } } := by
  have drops : s.dropCurrent = s.returnDropped picture := by
    obtain store | store := store <;> simp only [State.dropCurrent, State.completeDrop, store, current]
  let back : State := { s with csu := { s.csu with
    pool := addExtents s.csu.pool (s.placed.map fun f => { start := f.start, len := f.clusters * s.csu.cluster }) } }
  have trimmed : back.trimPool = back := trimPool_small small
  have returned : s.returnDropped picture = (back.trimPool.freeRecord picture).forgetCurrent := rfl
  rw [drops, returned, trimmed, freeRecord_found (s := back) found]
  rfl

/-- The drop of the current record in a FAULTED store is its continuation (R189). -/
theorem dropCurrent_faulted {s : State} (faulted : s.csu.store = .faulted) :
    s.dropCurrent = s.setContinuation fun _ => .drop := by
  simp only [State.dropCurrent, faulted]

/-- Settles O49: a PICTURE-READ by the record's fields, a PICTURE-DROP by the state of the record. -/
theorem pictureRequests : Obligations.PictureRequests := by
  refine ⟨fun tag picture s t reaches => ?_, fun tag picture s t reaches => ?_⟩
  · have asked : exec (.pictureRead tag picture) s = .next (t.pictureRead tag picture) :=
      congrArg _ (State.onRequest_reaches reaches _)
    rw [asked]
    refine ⟨fun absent => ?_, fun r found => ?_⟩
    · simp only [State.pictureRead, absent, State.refuse]
    · have read : t.pictureRead tag picture = t.reply tag (.done (pictureBytes r)) := by
        simp only [State.pictureRead, found, State.done]
      rw [read, pictureBytes, put1_recordStateCode, putShot_eq] <;> rfl
  · have asked : exec (.pictureDrop tag picture) s = .next (t.pictureDrop tag picture) :=
      congrArg _ (State.onRequest_reaches reaches _)
    rw [asked]
    refine ⟨fun absent => ?_, fun r found => ⟨fun state => ?_, fun state => ?_, fun state => ?_, fun state flies => ?_,
      fun state quiet writing => ?_, fun state quiet current => ⟨fun faulted => ?_, fun stopped small => ?_⟩,
      fun state => ?_⟩⟩
    · simp only [State.pictureDrop, absent, State.refuse]
    · simp only [State.pictureDrop, found, state, State.refuse]
    · simp only [State.pictureDrop, found, state, State.refuse]
    · simp only [State.pictureDrop, found, state, freeRecord_found found]
      rfl
    · simp only [State.pictureDrop, found, state, flies, State.refuse, if_true]
    · rw [pictureDrop_discards found state quiet]
      simp only [State.dropCurrent, writing]
      rfl
    · rw [pictureDrop_discards found state quiet]
      exact congrArg (fun u : State => Host.Outcome.next (u.reply tag (.done [1#8])))
        (dropCurrent_faulted (s := { t with pbf := { t.pbf with records := discarded t picture } }) faulted)
    · rw [pictureDrop_discards found state quiet]
      have gone : State.record { t with pbf := { t.pbf with records := discarded t picture } } picture =
          some { r with state := .discarding } :=
        record_setRecord_map found (f := fun q => { q with state := .discarding }) rfl
      exact congrArg (fun u : State => Host.Outcome.next (u.reply tag (.done [1#8])))
        (dropCurrent_stopped (s := { t with pbf := { t.pbf with records := discarded t picture } }) current gone stopped
          small)
    · simp only [State.pictureDrop, found, state]
      rfl

end Sys2Proof.Proofs.PictureRequests
end

section
/-! PROOFS. What the capture sequencer's shared operations do, said once (R150, R152 to R156). -/

namespace Sys2Proof.Proofs.CaptureFacts
open Sys2Proof Sys2Proof.Machine Sys2Proof.Proofs.CardFacts

-- one declaration after another: each unfolds operations whose equations another would be waiting for
set_option Elab.async false

/-! ## The capture record -/

/-- The capture record changed, where there is one. -/
theorem onCapture_eq {s : State} {c : Capture} (capture : s.csq.capture = some c) (f : Capture → Capture) :
    s.onCapture f = { s with csq := { s.csq with capture := some (f c) } } := by
  rw [State.onCapture, capture]
  rfl

/-- The pictures of a capture with one given its outcome. -/
def outcomeSet (c : Capture) (id : Nat) (o : PictureOutcome) : List Picture :=
  c.pictures.map fun p => if p.id = id ∧ p.outcome = none then { p with outcome := some o } else p

/-- The first failure taken is kept (R154). -/
def failureKept (c : Capture) (f : EndClass × Cause) : Option (EndClass × Cause) := some (c.failure.getD f)

theorem failureKept_eq (c : Capture) (f : EndClass × Cause) :
    (match c.failure with | some g => some g | none => some f) = failureKept c f := by
  cases failure : c.failure <;> simp [failureKept, failure]

theorem setOutcome_eq {s : State} {c : Capture} (capture : s.csq.capture = some c) (id : Nat) (o : PictureOutcome) :
    s.setOutcome id o =
      { s with csq := { s.csq with capture := some { c with pictures := outcomeSet c id o } } } :=
  onCapture_eq capture _

theorem recordFailure_eq {s : State} {c : Capture} (capture : s.csq.capture = some c) (cls : EndClass) (cause : Cause) :
    s.recordFailure cls cause =
      { s with csq := { s.csq with capture := some { c with failure := failureKept c (cls, cause) } } } := by
  rw [← failureKept_eq]
  exact onCapture_eq capture _

theorem checkFinish_runs {s : State} (state : s.csq.state ≠ .finishing) : s.checkFinish = s := by
  unfold State.checkFinish
  split
  · rfl
  · exact if_neg fun ends => state ends.1

/-- FINISHING goes on while a picture is in intake (R156). -/
theorem checkFinish_waits {s : State} {id : Nat} {ids : List Nat} (pending : s.csq.pendingIntake = id :: ids) :
    s.checkFinish = s := by
  unfold State.checkFinish
  split
  · rfl
  · exact if_neg fun ends => by rw [pending] at ends; exact absurd ends.2.1 (List.cons_ne_nil _ _)

/-- CSQ enters FINISHING with a picture in intake. -/
theorem enterFinishing_waits {s : State} {id : Nat} {ids : List Nat} (pending : s.csq.pendingIntake = id :: ids) :
    s.enterFinishing =
      { s with csq := { s.csq with state := .finishing }, pbf := { s.pbf with request := false } } :=
  checkFinish_waits (s := (s.setRequest false).setCsq .finishing) pending

/-! ## The intake-pending list (R152) -/

/-- A picture gets its outcome and its failure is kept. -/
theorem pictureFails_eq {s : State} {c : Capture} (capture : s.csq.capture = some c) (id : Nat) (o : PictureOutcome)
    (cls : EndClass) (cause : Cause) :
    (s.setOutcome id o).recordFailure cls cause =
      { s with csq := { s.csq with
          capture := some { c with pictures := outcomeSet c id o, failure := failureKept c (cls, cause) } } } := by
  rw [setOutcome_eq capture]
  exact recordFailure_eq
    (s := { s with csq := { s.csq with capture := some { c with pictures := outcomeSet c id o } } }) rfl cls cause

/-- A picture that leaves the list with a failure while an exposure runs. -/
theorem leaveIntake_failure {s t : State} {id : Nat} {o : PictureOutcome} {cause : Cause}
    (leaves : (State.setOutcome { s with csq := { s.csq with pendingIntake := s.csq.pendingIntake.drop 1 } } id
      o).recordFailure .terminated cause = t)
    (state : t.csq.state = .exposing) : s.leaveIntake id o (some cause) = t := by
  calc s.leaveIntake id o (some cause)
      = (if t.csq.state = .waitIntake then t.splitPicture else t).afterFailure := by rw [← leaves]; rfl
    _ = t.checkFinish := by rw [if_neg (by rw [state]; decide), State.afterFailure, state]
    _ = t := checkFinish_runs (by rw [state]; decide)

/-- A picture that leaves the list ingested while an exposure runs. -/
theorem leaveIntake_counts {s t : State} {id : Nat} {c : Capture}
    (leaves : State.setOutcome { s with csq := { s.csq with pendingIntake := s.csq.pendingIntake.drop 1 } } id
      .ingested = t)
    (capture : t.csq.capture = some c) (state : t.csq.state = .exposing) :
    s.leaveIntake id .ingested none = t.countUnit c.tag := by
  have counted : (t.countUnit c.tag).csq.state = .exposing := state
  have units : (match t.csq.capture with | some c => t.countUnit c.tag | none => t) = t.countUnit c.tag := by
    rw [capture]
  calc s.leaveIntake id .ingested none
      = (if (t.countUnit c.tag).csq.state = .waitIntake then (t.countUnit c.tag).splitPicture
          else t.countUnit c.tag).checkFinish := by rw [← units, ← leaves]; rfl
    _ = (t.countUnit c.tag).checkFinish := by rw [if_neg (by rw [counted]; decide)]
    _ = t.countUnit c.tag := checkFinish_runs (by rw [counted]; decide)

section
variable {s : State} {id : Nat} {ids : List Nat} {c : Capture} (pending : s.csq.pendingIntake = id :: ids)
  (capture : s.csq.capture = some c) (state : s.csq.state = .exposing)
include pending capture state

/-- The head picture leaves the list dropped while an exposure runs. -/
theorem leaveIntake_fails (o : PictureOutcome) (cause : Cause) :
    s.leaveIntake id o (some cause) =
      { s with csq := { s.csq with
          pendingIntake := ids,
          capture := some
            { c with pictures := outcomeSet c id o, failure := failureKept c (.terminated, cause) } } } := by
  refine leaveIntake_failure ?_ state
  rw [pending]
  exact pictureFails_eq (s := { s with csq := { s.csq with pendingIntake := ids } }) capture _ _ _ _

/-- The head picture leaves the list ingested while an exposure runs. -/
theorem leaveIntake_ingested :
    s.leaveIntake id .ingested none =
      { s with
          opt := { s.opt with table := s.opt.table.map fun e =>
            if e.tag = c.tag then { e with done := min 65535 (e.done + 1) } else e },
          csq := { s.csq with
            pendingIntake := ids, capture := some { c with pictures := outcomeSet c id .ingested } } } := by
  refine leaveIntake_counts (c := { c with pictures := outcomeSet c id .ingested })
    (t := { s with csq := { s.csq with
      pendingIntake := ids, capture := some { c with pictures := outcomeSet c id .ingested } } }) ?_ rfl state
  rw [pending]
  exact setOutcome_eq (s := { s with csq := { s.csq with pendingIntake := ids } }) capture _ _

end

end Sys2Proof.Proofs.CaptureFacts
end

section
/-! PROOFS. The intake port: strobes, header, data, drains and gap marks (R164 to R167, R152). -/

namespace Sys2Proof.Proofs.Intake
open Sys2Proof Sys2Proof.Machine Sys2Proof.Proofs.CardFacts Sys2Proof.Proofs.CaptureFacts

-- one declaration after another: each unfolds operations whose equations another would be waiting for
set_option Elab.async false

/-! ## The FIFO (R164) -/

theorem exec_intakeStrobe (b : Byte) (s : State) : exec (.intakeStrobe b) s = .next (s.strobe b) := rfl

/-- A byte lost behind a gap mark counts in it. -/
theorem loseByte_gap (front : List FifoItem) (n : Nat) :
    loseByte (front ++ [.gap n]) = front ++ [.gap (n + 1)] := by
  simp [loseByte]

/-- A byte lost behind a byte begins a gap mark. -/
theorem loseByte_byte (front : List FifoItem) (c : Byte) :
    loseByte (front ++ [.byte c]) = front ++ [.byte c] ++ [.gap 1] := by
  simp [loseByte]

/-- The state with the head of the FIFO taken. -/
def popped (s : State) (rest : List FifoItem) : State := { s with pbf := { s.pbf with fifo := rest } }

theorem intakeReported_none (s : State) : s.intakeReported .none = s := by
  unfold State.intakeReported
  split <;> rfl

section
variable {s : State} {rest : List FifoItem}

/-- A byte at the head, taken without a report to CSQ. -/
theorem exec_byte_quiet {b : Byte} {u : State} (fifo : s.pbf.fifo = .byte b :: rest)
    (takes : (popped s rest).engineByte b = .inr (u, .none)) : exec .intakeEngineByte s = .next u := by
  have head : s.engineTake = .inr (u, .none) := by rw [State.engineTake, fifo]; exact takes
  have asked : exec .intakeEngineByte s = execIntakeEngineByte s := rfl
  simp only [asked, execIntakeEngineByte, head, intakeReported_none]

/-- A byte at the head whose taking ends the intake of the picture at the head of CSQ's list. -/
theorem exec_byte_reports {b : Byte} {u : State} {report : IntakeReport} (fifo : s.pbf.fifo = .byte b :: rest)
    (takes : (popped s rest).engineByte b = .inr (u, report)) :
    exec .intakeEngineByte s = .next (u.intakeReported report) := by
  have head : s.engineTake = .inr (u, report) := by rw [State.engineTake, fifo]; exact takes
  have asked : exec .intakeEngineByte s = execIntakeEngineByte s := rfl
  simp only [asked, execIntakeEngineByte, head]

/-- A gap mark at the head. -/
theorem exec_gap {n : Nat} (fifo : s.pbf.fifo = .gap n :: rest) :
    exec .intakeEngineByte s =
      .next (((popped s rest).engineGap n).1.intakeReported ((popped s rest).engineGap n).2) := by
  have head : s.engineTake = .inr ((popped s rest).engineGap n) := by rw [State.engineTake, fifo]; rfl
  have asked : exec .intakeEngineByte s = execIntakeEngineByte s := rfl
  simp only [asked, execIntakeEngineByte, head]

end

/-- The engine writes picture memory in DATA alone (R165). -/
theorem engineTake_leavesMemory {s t : State} {report : IntakeReport} (other : ∀ id, s.pbf.engine ≠ .data id)
    (taken : s.engineTake = .inr (t, report)) : t.pbf.memory = s.pbf.memory := by
  unfold State.engineTake at taken
  split at taken
  · cases taken
    rfl
  · unfold State.engineByte at taken
    split at taken
    · cases taken
      simp
    · dsimp only at taken
      split at taken
      · cases taken
        simp
      · have judged := congrArg Prod.fst (Sum.inr.inj taken)
        exact (congrArg (fun u : State => u.pbf.memory) judged).symm.trans (State.judgeHeader_memory _ _)
    · exact absurd (by assumption) (other _)
    · cases taken
      simp
  · have reached := congrArg Prod.fst (Sum.inr.inj taken)
    exact (congrArg (fun u : State => u.pbf.memory) reached).symm.trans (State.engineGap_memory _ _)

/-! ## Notices of the intake -/

/-- An ATTENTION of the intake, the notice that waits renewed or a new one at the tail (R14). -/
theorem attention_intake (s : State) (condition : Condition) (detail : Nat) :
    s.attention .intake condition detail =
      { s with opt := { s.opt with
          outbox :=
            if s.opt.outbox.any (fun n =>
              match n with
              | .attention source _ _ _ => source == .intake
              | _ => false) then
              s.opt.outbox.map fun n =>
                match n with
                | .attention source c d count =>
                  if source = .intake then .attention .intake condition detail (min 255 (count + 1))
                  else .attention source c d count
                | m => m
            else s.opt.outbox ++ [.attention .intake condition detail 1] } } := by
  have renewed : renewAttention .intake condition detail = fun n =>
      match n with
      | .attention source c d count =>
        if source = .intake then .attention .intake condition detail (min 255 (count + 1))
        else .attention source c d count
      | m => m := by
    funext n
    cases n with
    | attention source c d count => by_cases own : source = .intake <;> simp [renewAttention, own]
    | _ => rfl
  have ours : isAttention .intake = fun n =>
      match n with
      | .attention source _ _ _ => source == .intake
      | _ => false := by
    funext n
    cases n <;> rfl
  rw [State.attention, renewed, ours]
  split <;> rfl

/-! ## Header bytes (R164) -/

/-- The picture id a header carries. -/
theorem header_id (i0 i1 l0 l1 l2 b : Byte) : get2 [i0, i1, l0, l1, l2, b] 0 = 256 * i0.toNat + i1.toNat := rfl

/-- The length a header carries. -/
theorem header_length (i0 i1 l0 l1 l2 b : Byte) :
    get4 [i0, i1, l0, l1, l2, b] 2 = 16777216 * l0.toNat + 65536 * l1.toNat + 256 * l2.toNat + b.toNat := by
  have bytes : get4 [i0, i1, l0, l1, l2, b] 2 =
      65536 * (256 * l0.toNat + l1.toNat) + (256 * l2.toNat + b.toNat) := rfl
  omega

section
variable {s : State} {h : List Byte} {id len : Nat} (picture : get2 h 0 = id) (length : get4 h 2 = len)
include picture length

theorem judgeHeader_empty (none : len = 0) :
    s.judgeHeader h = ((s.attention .intake .badLength id).setEngine (.seek false false), .none) := by
  simp only [State.judgeHeader, picture, length, none, if_true]

theorem judgeHeader_order (some : len ≠ 0) (other : s.csq.pendingIntake.head? ≠ .some id) :
    s.judgeHeader h = ((s.attention .intake .order id).setEngine (.drain len), .none) := by
  simp only [State.judgeHeader, picture, length, if_neg some, if_pos other]

/-- A picture longer than its reserved pages is dropped (R164). -/
theorem judgeHeader_long (some : len ≠ 0) (first : s.csq.pendingIntake.head? = .some id) {r : PicRecord}
    (found : s.record id = .some r) (long : 65536 * r.reserved.length < len) :
    s.judgeHeader h = ((s.freeRecord id).setEngine (.drain len), .overflow) := by
  have excess : r.reserved.length * pageBytes < len := by rw [Nat.mul_comm]; exact long
  simp only [State.judgeHeader, picture, length, if_neg some, first, found, if_pos excess, ne_eq, not_true_eq_false,
    if_false]

theorem judgeHeader_fits (some : len ≠ 0) (first : s.csq.pendingIntake.head? = .some id) {r : PicRecord}
    (found : s.record id = .some r) (fits : len ≤ 65536 * r.reserved.length) :
    s.judgeHeader h =
      ((s.setRecord id fun q => { q with state := .filling, length := .some len, received := 0 }).setEngine (.data id),
        .none) := by
  have within : ¬ r.reserved.length * pageBytes < len := by rw [Nat.mul_comm]; exact Nat.not_lt.mpr fits
  simp only [State.judgeHeader, picture, length, if_neg some, first, found, if_neg within, ne_eq, not_true_eq_false,
    if_false]

end

/-! ## Data bytes (R165) -/

/-- The state with a byte of a picture stored and its record changed. -/
def stored (s : State) (id : Nat) (q : PicRecord) (place : Nat) (b : Byte) : State :=
  { s with pbf := { s.pbf with
      memory := writeCell s.pbf.memory place b,
      records := updateFirst (fun x => x.id == id) (fun _ => q) s.pbf.records } }

/-- A byte that does not end its picture. -/
theorem dataByte_stores {s : State} {id page : Nat} {b : Byte} {r q : PicRecord} (found : s.record id = some r)
    (draws : r.draw = some q) (place : q.pages[r.received / 65536]? = some page) (inside : page < 2048)
    (more : q.received ≠ r.length.getD 0) :
    s.dataByte id b = .inr (stored s id q (page * 65536 + r.received % 65536) b, .none) := by
  have place : q.pages[r.received / pageBytes]? = some page := place
  simp only [State.dataByte, found, draws, place, if_neg (Nat.not_le.mpr inside), if_neg more]
  rfl

/-- The byte that ends its picture. -/
theorem dataByte_ends {s : State} {id page : Nat} {b : Byte} {r q : PicRecord} (found : s.record id = some r)
    (draws : r.draw = some q) (place : q.pages[r.received / 65536]? = some page) (inside : page < 2048)
    (last : q.received = r.length.getD 0) :
    s.dataByte id b = .inr ((stored s id q (page * 65536 + r.received % 65536) b).completePicture id q, .ended) := by
  have place : q.pages[r.received / pageBytes]? = some page := place
  simp only [State.dataByte, found, draws, place, if_neg (Nat.not_le.mpr inside), if_pos last]
  rfl

/-- A byte inside a page. -/
theorem draw_inside {r : PicRecord} (inside : r.received % 65536 ≠ 0) :
    r.draw = some { r with received := r.received + 1 } := if_neg inside

/-- A byte that begins a page draws a reserved one. -/
theorem draw_page {r : PicRecord} {page : Nat} {pages : List Nat} (begins : r.received % 65536 = 0)
    (reserved : r.reserved = page :: pages) :
    r.draw = some { r with received := r.received + 1, pages := r.pages ++ [page], reserved := pages } := by
  have begins : r.received % pageBytes = 0 := begins
  rw [PicRecord.draw, if_pos begins, reserved]

/-- Changing twice the first element that satisfies a test changes it once by both. -/
theorem updateFirst_updateFirst {α : Type} {test : α → Bool} {a : α} (satisfies : test a = true) (f : α → α)
    (l : List α) : updateFirst test f (updateFirst test (fun _ => a) l) = updateFirst test (fun _ => f a) l := by
  induction l with
  | nil => rfl
  | cons x rest ih =>
    by_cases here : test x = true
    · simp only [updateFirst, here, satisfies, if_true]
    · simp only [updateFirst, here, Bool.false_eq_true, if_false, ih]

/-- The picture's last byte: the record COMPLETE in the store queue, its unused pages back (R165). -/
theorem completePicture_stored {s : State} {id place : Nat} {b : Byte} {q : PicRecord} (same : q.id = id) :
    (stored s id q place b).completePicture id q =
      { s with
          pbf := { s.pbf with
            memory := writeCell s.pbf.memory place b, engine := .seek false false,
            freePages := s.pbf.freePages ++ q.reserved,
            records := updateFirst (fun x => x.id == id) (fun _ => { q with state := .complete, reserved := [] })
              s.pbf.records },
          csu := { s.csu with queue := s.csu.queue ++ [id] } } := by
  have twice := updateFirst_updateFirst (test := fun x : PicRecord => x.id == id) (a := q) (by simpa using same)
    (fun q => { q with state := .complete, reserved := [] }) s.pbf.records
  rw [← twice]
  rfl

/-- What a byte stored leaves in picture memory. -/
theorem readCell_stored {s : State} (sound : s.memorySound) (place : Nat) (b : Byte) (a : Nat) :
    readCell (writeCell s.pbf.memory place b) a = if a = place then b else readCell s.pbf.memory a := by
  by_cases here : a = place
  · rw [if_pos here, here, readCell_writeCell_same _ _ _ sound]
  · rw [if_neg here, readCell_writeCell_ne _ _ _ _ here]

/-! ## Overflows (R152, R166) -/

/-- CSQ takes the report of an overflow while an exposure runs. -/
theorem overflow_reported {s : State} {id : Nat} {ids : List Nat} {c : Capture}
    (pending : s.csq.pendingIntake = id :: ids) (capture : s.csq.capture = some c)
    (state : s.csq.state = .exposing) :
    s.intakeReported .overflow =
      { s with csq := { s.csq with
          pendingIntake := ids,
          capture := some
            { c with pictures := outcomeSet c id .dropped,
                     failure := some (c.failure.getD (.terminated, .intakeOverflow)) } } } := by
  have leaves : s.intakeReported .overflow = s.leaveIntake id .dropped (some .intakeOverflow) := by
    rw [State.intakeReported, pending]
  exact leaves.trans (leaveIntake_fails pending capture state _ _)

/-- CSQ takes the report of a picture whose intake has ended while an exposure runs. -/
theorem ended_reported {s : State} {id : Nat} {ids : List Nat} {c : Capture}
    (pending : s.csq.pendingIntake = id :: ids) (capture : s.csq.capture = some c)
    (state : s.csq.state = .exposing) :
    s.intakeReported .ended =
      { s with
          opt := { s.opt with table := s.opt.table.map fun e =>
            if e.tag = c.tag then { e with done := min 65535 (e.done + 1) } else e },
          csq := { s.csq with
            pendingIntake := ids, capture := some { c with pictures := outcomeSet c id .ingested } } } := by
  have leaves : s.intakeReported .ended = s.leaveIntake id .ingested none := by rw [State.intakeReported, pending]
  exact leaves.trans (leaveIntake_ingested pending capture state)

/-! ## The engine's states -/

section
variable {s : State} {rest : List FifoItem} {b : Byte} (fifo : s.pbf.fifo = .byte b :: rest)
include fifo

theorem exec_seek {a raised : Bool} (seeks : s.pbf.engine = .seek a raised) :
    exec .intakeEngineByte s = .next ((popped s rest).seekByte a raised b) := by
  have engine : (popped s rest).pbf.engine = .seek a raised := seeks
  exact exec_byte_quiet fifo (by rw [State.engineByte, engine])

theorem exec_header_gathers {bytes : List Byte} (header : s.pbf.engine = .header bytes) (short : bytes.length < 5) :
    exec .intakeEngineByte s = .next ((popped s rest).setEngine (.header (bytes ++ [b]))) := by
  have engine : (popped s rest).pbf.engine = .header bytes := header
  have short : (bytes ++ [b]).length < 6 := by
    rw [List.length_append]
    exact Nat.succ_lt_succ short
  exact exec_byte_quiet fifo (by simp only [State.engineByte, engine, if_pos short])

theorem exec_header_judged {bytes : List Byte} (header : s.pbf.engine = .header bytes) (full : bytes.length = 5)
    {u : State} {report : IntakeReport} (judged : (popped s rest).judgeHeader (bytes ++ [b]) = (u, report)) :
    exec .intakeEngineByte s = .next (u.intakeReported report) := by
  have engine : (popped s rest).pbf.engine = .header bytes := header
  have full : ¬ (bytes ++ [b]).length < 6 := by simp [full]
  exact exec_byte_reports fifo (by simp only [State.engineByte, engine, if_neg full, judged])

theorem exec_drain {n : Nat} (drains : s.pbf.engine = .drain n) :
    exec .intakeEngineByte s = .next ((popped s rest).setEngine (drainFor (n - 1))) := by
  have engine : (popped s rest).pbf.engine = .drain n := drains
  exact exec_byte_quiet fifo (by rw [State.engineByte, engine])

theorem exec_data {id : Nat} (data : s.pbf.engine = .data id) {u : State} {report : IntakeReport}
    (takes : (popped s rest).dataByte id b = .inr (u, report)) :
    exec .intakeEngineByte s = .next (u.intakeReported report) := by
  have engine : (popped s rest).pbf.engine = .data id := data
  exact exec_byte_reports fifo (by rw [State.engineByte, engine]; exact takes)

end

/-- The first byte of a run that is no marker raises STRAY (R164). -/
theorem stray_first (s : State) : s.stray false = s.attention .intake .stray 0 := rfl

/-- A later byte of the run raises none. -/
theorem stray_again (s : State) : s.stray true = s := rfl

/-- The bytes of a gap mark in DATA drop the picture (R166). -/
theorem dataGap_eq {s : State} {id : Nat} {r : PicRecord} (found : s.record id = some r) (lost : Nat) :
    s.dataGap id lost = (s.freeRecord id).setEngine (drainFor (r.length.getD 0 - r.received - lost)) := by
  rw [State.dataGap, found]

/-! ## The obligation -/

/-- Settles O48: a strobe by the room in the FIFO, the engine by its state and the head of the FIFO. -/
theorem intakeBytes : Obligations.IntakeBytes := by
  refine ⟨fun b s => ⟨fun room => ?_, fun full => ⟨fun front n tail => ?_, fun front c tail => ?_⟩⟩, fun s empty => ?_,
    fun s u other taken => ?_, fun s item rest fifo => ⟨fun b byte => ?_, fun lost gap => ?_⟩⟩
  · simp only [exec_intakeStrobe, State.strobe, if_pos room]
  · simp only [exec_intakeStrobe, State.strobe, if_neg (Nat.not_lt.mpr full), tail, loseByte_gap]
  · simp only [exec_intakeStrobe, State.strobe, if_neg (Nat.not_lt.mpr full), tail, loseByte_byte]
  · have asked : exec .intakeEngineByte s = execIntakeEngineByte s := rfl
    simp only [asked, execIntakeEngineByte, State.engineTake, empty, intakeReported_none]
  · have asked : exec .intakeEngineByte s = execIntakeEngineByte s := rfl
    rw [asked, execIntakeEngineByte] at taken
    split at taken
    · cases taken
    · rename_i t report reached
      cases taken
      rw [State.intakeReported_memory, engineTake_leavesMemory other reached]
  · subst byte
    refine ⟨fun raised seeks => ⟨fun marker => ?_, fun stray => ⟨fun again => ?_, fun first => ?_⟩⟩,
      fun raised seeks => ⟨fun marker => ?_, fun stray => ⟨fun again => ?_, fun first => ?_⟩⟩,
      fun bytes header short => ?_, fun n drains => ?_,
      fun i0 i1 l0 l1 l2 header => ⟨fun none => ?_, fun some other => ?_,
        fun r some first found => ⟨fun long => ?_, fun fits => ?_⟩⟩,
      fun id r n sound data found length => ⟨fun page more inside place small => ?_,
        fun page pages more begins full reserved small => ?_,
        fun page c ids last inside place small pending capture exposes => ?_⟩⟩
    · rw [exec_seek fifo seeks, State.seekByte, if_neg Bool.false_ne_true, if_pos marker]
      rfl
    · rw [exec_seek fifo seeks, State.seekByte, if_neg Bool.false_ne_true, if_neg stray, again, stray_again]
      rfl
    · rw [exec_seek fifo seeks, State.seekByte, if_neg Bool.false_ne_true, if_neg stray, first, stray_first,
        attention_intake]
      rfl
    · rw [exec_seek fifo seeks, State.seekByte, if_pos rfl, if_pos marker]
      rfl
    · rw [exec_seek fifo seeks, State.seekByte, if_pos rfl, if_neg stray, again, stray_again]
      rfl
    · rw [exec_seek fifo seeks, State.seekByte, if_pos rfl, if_neg stray, first, stray_first, attention_intake]
      rfl
    · exact exec_header_gathers fifo header short
    · exact exec_drain fifo drains
    · refine (exec_header_judged fifo header rfl
        (judgeHeader_empty (header_id ..) (header_length ..) none)).trans ?_
      rw [intakeReported_none, attention_intake]
      rfl
    · refine (exec_header_judged fifo header rfl
        (judgeHeader_order (header_id ..) (header_length ..) some other)).trans ?_
      rw [intakeReported_none, attention_intake]
      rfl
    · intro c ids pending capture exposes
      refine (exec_header_judged fifo header rfl
        (judgeHeader_long (header_id ..) (header_length ..) some first found long)).trans ?_
      rw [freeRecord_found (s := popped s rest) found]
      exact congrArg Host.Outcome.next (overflow_reported pending capture exposes)
    · refine (exec_header_judged fifo header rfl
        (judgeHeader_fits (header_id ..) (header_length ..) some first found fits)).trans ?_
      rw [intakeReported_none]
      rfl
    · have differs : r.received + 1 ≠ r.length.getD 0 := by rw [length]; exact Nat.ne_of_lt more
      refine ⟨_, readCell_stored sound _ _, (exec_data fifo data
        (dataByte_stores (s := popped s rest) found (draw_inside inside) place small differs)).trans ?_⟩
      rw [intakeReported_none]
      rfl
    · have differs : r.received + 1 ≠ r.length.getD 0 := by rw [length]; exact Nat.ne_of_lt more
      have place : (r.pages ++ [page])[r.received / 65536]? = some page := by
        rw [← full]
        exact List.getElem?_concat_length ..
      refine ⟨_, readCell_stored sound _ _, (exec_data fifo data
        (dataByte_stores (s := popped s rest) found (draw_page begins reserved) place small differs)).trans ?_⟩
      rw [intakeReported_none]
      rfl
    · have ends : r.received + 1 = r.length.getD 0 := by rw [length]; exact last
      have same : r.id = id := by simpa using List.find?_some found
      refine ⟨_, readCell_stored sound _ _, (exec_data fifo data
        (dataByte_ends (s := popped s rest) found (draw_inside inside) place small ends)).trans ?_⟩
      rw [completePicture_stored (s := popped s rest) (q := { r with received := r.received + 1 }) same, last]
      exact congrArg Host.Outcome.next (ended_reported pending capture exposes)
  · subst gap
    refine ⟨fun a raised seeks => ?_, fun bytes header => ?_, fun n drains => ?_,
      fun id r n data found length c ids pending capture exposes => ?_⟩
    · have engine : (popped s rest).pbf.engine = .seek a raised := seeks
      rw [exec_gap fifo]
      simp only [State.engineGap, engine, intakeReported_none]
      rw [← seeks]
      rfl
    · have engine : (popped s rest).pbf.engine = .header bytes := header
      rw [exec_gap fifo]
      simp only [State.engineGap, engine, intakeReported_none]
      rw [attention_intake]
      rfl
    · have engine : (popped s rest).pbf.engine = .drain n := drains
      rw [exec_gap fifo]
      simp only [State.engineGap, engine, intakeReported_none]
      rfl
    · have engine : (popped s rest).pbf.engine = .data id := data
      rw [exec_gap fifo]
      simp only [State.engineGap, engine]
      rw [dataGap_eq (s := popped s rest) found, freeRecord_found (s := popped s rest) found, length]
      exact congrArg Host.Outcome.next (overflow_reported pending capture exposes)

end Sys2Proof.Proofs.Intake
end

section
/-! PROOFS. One picture: how its exposure ends (R151 to R153). -/

namespace Sys2Proof.Proofs.Exposures
open Sys2Proof Sys2Proof.Machine Sys2Proof.Proofs.CardFacts Sys2Proof.Proofs.CaptureFacts

-- one declaration after another: each unfolds operations whose equations another would be waiting for
set_option Elab.async false

/-! ## Events out of their states -/

theorem exec_exposureTimeEnd_other {s : State} (other : s.csq.state ≠ .exposing) :
    exec .exposureTimeEnd s = .next s := by
  refine congrArg Host.Outcome.next ?_
  split
  · exact absurd (by assumption) other
  · rfl

theorem exec_exposureTimeEnd {s : State} {c : Capture} {h : Hand} (state : s.csq.state = .exposing)
    (capture : s.csq.capture = some c) (hand : c.hand = some h) :
    exec .exposureTimeEnd s = .next (s.exposureTimeOut c h) := by
  have asked : exec .exposureTimeEnd s = execExposureTimeEnd s := rfl
  simp only [asked, execExposureTimeEnd, state, capture, hand]

theorem exec_bladeClosed_other {s : State} (other : s.csq.state ≠ .closing) : exec .bladeClosed s = .next s := by
  refine congrArg Host.Outcome.next ?_
  split
  · exact absurd (by assumption) other
  · rfl

theorem exec_bladeClosed {s : State} {c : Capture} {h : Hand} (state : s.csq.state = .closing)
    (capture : s.csq.capture = some c) (hand : c.hand = some h) :
    exec .bladeClosed s = .next ((s.startRecharge.joinIntake h.id).setCsq .recharge) := by
  have asked : exec .bladeClosed s = execBladeClosed s := rfl
  simp only [asked, execBladeClosed, state, capture, Option.bind_some, hand]

theorem exec_bladeTimeout {s : State} {c : Capture} {h : Hand} (closing : s.csq.closeTimer = true)
    (state : s.csq.state = .closing) (capture : s.csq.capture = some c) (hand : c.hand = some h) :
    exec .bladeTimeout s = .next (s.bladeFault h.id) := by
  have asked : exec .bladeTimeout s = execBladeTimeout s := rfl
  simp only [asked, execBladeTimeout, closing, state, capture, Option.bind_some, hand, if_true]

theorem recharged_ends {s : State} (state : s.csq.state = .recharge) : s.recharged = s.afterExposure := by
  simp only [State.recharged, state]

theorem exec_rechargeTimeout {s : State} (recharge : s.csq.recharge = true) (state : s.csq.state = .recharge) :
    exec .rechargeTimeout s = .next (State.afterExposure { s with csq := { s.csq with recharge := false } }) := by
  have asked : exec .rechargeTimeout s = execRechargeTimeout s := rfl
  simp only [asked, execRechargeTimeout, if_pos recharge]
  exact congrArg Host.Outcome.next (recharged_ends (s := { s with csq := { s.csq with recharge := false } }) state)

/-! ## The picture in hand -/

/-- The picture in hand leaves with an outcome and a failure, its record freed (R150, R151). -/
theorem failHand_eq {s : State} {c : Capture} {id : Nat} {r : PicRecord} (capture : s.csq.capture = some c)
    (found : s.record id = some r) (o : PictureOutcome) (cls : EndClass) (cause : Cause) :
    s.failHand id o cls cause =
      { s with
          pbf := { s.pbf with freePages := s.pbf.freePages ++ (r.pages ++ r.reserved),
                              records := s.pbf.records.erase r },
          csu := { s.csu with queue := s.csu.queue.filter fun p => p != id },
          csq := { s.csq with
            capture := some
              { c with hand := none, pictures := outcomeSet c id o, failure := failureKept c (cls, cause) } } } := by
  rw [State.failHand, freeRecord_found found]
  let freed : State :=
    { s with
      pbf := { s.pbf with freePages := s.pbf.freePages ++ (r.pages ++ r.reserved),
                          records := s.pbf.records.erase r },
      csu := { s.csu with queue := s.csu.queue.filter fun p => p != id } }
  let failed : State :=
    { freed with csq := { s.csq with
        capture := some { c with pictures := outcomeSet c id o, failure := failureKept c (cls, cause) } } }
  have fails : (freed.setOutcome id o).recordFailure cls cause = failed :=
    pictureFails_eq (s := freed) capture id o cls cause
  exact (congrArg (fun u : State => u.onCapture fun c => { c with hand := none }) fails).trans
    (onCapture_eq (s := failed) rfl _)

/-! ## After the exposure (R153) -/

/-- Another picture follows: no failure and no stop is on record, and the last is not reached. -/
def further (s : State) (c : Capture) : Prop := c.pos < c.last ∧ c.failure = none ∧ s.stopping c.tag = false

theorem further_iff (s : State) (c : Capture) : further s c ↔ c.pos < c.last ∧ s.noFurther c = false := by
  cases failure : c.failure <;> simp [further, State.noFurther, failure]

/-- A picture of the sequence begins: its pages are asked for (R147). -/
theorem beginPicture_eq {s : State} {c : Capture} (capture : s.csq.capture = some c) (pos : Nat) :
    s.beginPicture pos =
      { s with
          csq := { s.csq with
            state := .waitBuffer, capture := some { c with pos := pos, hand := none, frames := 0, refine := .none } },
          pbf := { s.pbf with request := true } } := by
  rw [State.beginPicture, onCapture_eq capture]
  rfl

theorem checkInterval_ends {s : State} {c : Capture} (capture : s.csq.capture = some c)
    (state : s.csq.state = .interval) (ends : c.intervalOver = true) : s.checkInterval = s.beginPicture (c.pos + 1) := by
  rw [State.checkInterval, capture]
  exact if_pos ⟨state, ends⟩

theorem checkInterval_goesOn {s : State} {c : Capture} (capture : s.csq.capture = some c)
    (goesOn : c.intervalOver = false) : s.checkInterval = s := by
  rw [State.checkInterval, capture]
  exact if_neg fun ends => by rw [goesOn] at ends; exact Bool.false_ne_true ends.2

/-- An interval of a program without a refine. -/
theorem enterInterval_plain {s : State} {c : Capture} {p : Program} (capture : s.csq.capture = some c)
    (plain : p.refine = false) :
    s.enterInterval p =
      State.checkInterval
        { s with csq := { s.csq with
            state := .interval, capture := some { c with frames := 0, refine := .none } } } := by
  simp only [State.enterInterval, onCapture_eq capture, plain, Bool.false_eq_true, if_false]
  rfl

section
variable {s : State} {c : Capture} {p : Program} (capture : s.csq.capture = some c) (program : c.program = some p)
include capture program

/-- The picture is no longer in hand, and the capture goes on or finishes. -/
theorem afterExposure_eq :
    s.afterExposure =
      if c.pos < c.last ∧ s.noFurther c = false then
        State.enterInterval { s with csq := { s.csq with capture := some { c with hand := none } } } p
      else State.enterFinishing { s with csq := { s.csq with capture := some { c with hand := none } } } := by
  rw [State.afterExposure, State.dropHand, onCapture_eq capture, State.goOnShooting]
  simp only [program]
  rfl

/-- With no picture left the capture finishes, and waits for the pictures in intake. -/
theorem afterExposure_finishes (last : ¬ further s c) {id : Nat} {ids : List Nat}
    (pending : s.csq.pendingIntake = id :: ids) :
    s.afterExposure =
      { s with csq := { s.csq with state := .finishing, capture := some { c with hand := none } },
               pbf := { s.pbf with request := false } } := by
  rw [afterExposure_eq capture program, if_neg ((further_iff s c).not.mp last)]
  exact enterFinishing_waits (s := { s with csq := { s.csq with capture := some { c with hand := none } } }) pending

/-- An interval with frames to count and no refine. -/
theorem afterExposure_interval (more : further s c) (counts : p.interval ≠ 0) (plain : p.refine = false) :
    s.afterExposure =
      { s with csq := { s.csq with
          state := .interval, capture := some { c with hand := none, frames := 0, refine := .none } } } := by
  rw [afterExposure_eq capture program, if_pos ((further_iff s c).mp more)]
  refine (enterInterval_plain (s := { s with csq := { s.csq with capture := some { c with hand := none } } }) rfl
    plain).trans (checkInterval_goesOn (c := { c with hand := none, frames := 0, refine := .none }) rfl ?_)
  simp [Capture.intervalOver, program, counts]

/-- No frames to count: the next picture begins at once. -/
theorem afterExposure_next (more : further s c) (none : p.interval = 0) (plain : p.refine = false) :
    s.afterExposure =
      { s with
          csq := { s.csq with
            state := .waitBuffer,
            capture := some { c with pos := c.pos + 1, hand := .none, frames := 0, refine := .none } },
          pbf := { s.pbf with request := true } } := by
  rw [afterExposure_eq capture program, if_pos ((further_iff s c).mp more)]
  refine (enterInterval_plain (s := { s with csq := { s.csq with capture := some { c with hand := .none } } }) rfl
    plain).trans ((checkInterval_ends (c := { c with hand := .none, frames := 0, refine := .none }) rfl rfl ?_).trans
      (beginPicture_eq (c := { c with hand := .none, frames := 0, refine := .none }) rfl _))
  simp [Capture.intervalOver, program, none, plain]

end

theorem exposureTimeOut_electronic {c : Capture} (kind : c.shutter = .electronic) (s : State) (h : Hand) :
    s.exposureTimeOut c h =
      State.afterExposure
        { s with csq := { s.csq with xstart := false, pendingIntake := s.csq.pendingIntake ++ [h.id] } } := by
  rw [State.exposureTimeOut, kind]
  rfl

/-- Settles O46: the end of an exposure's time, of a closing and of a recharge. -/
theorem exposureEnds : Obligations.ExposureEnds := by
  intro s
  refine ⟨exec_exposureTimeEnd_other, exec_bladeClosed_other, fun still => ?_, fun still => ?_,
    fun c p capture program => ⟨fun h hand state => ⟨fun kind => ?_, fun kind last => ?_⟩,
      fun h hand state => ⟨?_, fun r closing found => ?_⟩,
      fun state recharge => ⟨fun more none plain => ?_, fun more counts plain => ?_, fun last pending => ?_⟩⟩⟩
  · exact congrArg Host.Outcome.next (if_neg (by rw [still]; decide))
  · exact congrArg Host.Outcome.next (if_neg (by rw [still]; decide))
  · rw [exec_exposureTimeEnd state capture hand, State.exposureTimeOut, kind]
  · rw [exec_exposureTimeEnd state capture hand, exposureTimeOut_electronic kind]
    have last : ¬ further { s with csq := { s.csq with
        xstart := false, pendingIntake := s.csq.pendingIntake ++ [h.id] } } c :=
      fun more => Nat.not_lt.mpr last more.1
    obtain ⟨id, ids, waiting⟩ := List.exists_cons_of_ne_nil
      (List.append_ne_nil_of_right_ne_nil s.csq.pendingIntake (List.cons_ne_nil h.id []))
    exact congrArg Host.Outcome.next (afterExposure_finishes
      (s := { s with csq := { s.csq with xstart := false, pendingIntake := s.csq.pendingIntake ++ [h.id] } })
      capture program last waiting)
  · rw [exec_bladeClosed state capture hand]
    rfl
  · rw [exec_bladeTimeout closing state capture hand, State.bladeFault,
      failHand_eq (s := s.startRecharge) capture found, attention_eq]
    simp only [attention_eq]
    rfl
  · rw [exec_rechargeTimeout recharge state]
    exact congrArg Host.Outcome.next
      (afterExposure_next (s := { s with csq := { s.csq with recharge := false } }) capture program more none plain)
  · rw [exec_rechargeTimeout recharge state]
    exact congrArg Host.Outcome.next
      (afterExposure_interval (s := { s with csq := { s.csq with recharge := false } }) capture program more counts
        plain)
  · rw [exec_rechargeTimeout recharge state]
    obtain ⟨id, ids, waiting⟩ := List.exists_cons_of_ne_nil pending
    exact congrArg Host.Outcome.next
      (afterExposure_finishes (s := { s with csq := { s.csq with recharge := false } }) capture program last waiting)

end Sys2Proof.Proofs.Exposures
end

section
/-! PROOFS. What the lens drive's shared operations do in the cases the statements ask for, said once (R21, R25 to R27). -/

namespace Sys2Proof.Proofs.LensFacts
open Sys2Proof Sys2Proof.Machine

-- one declaration after another: each unfolds operations whose equations another would be waiting for
set_option Elab.async false

/-- An iris target written while the iris rests without current and nothing waits: it energizes toward it (R21, R27). -/
theorem writeIris_energizes {s : State} {v i : Nat} (writer : Writer) (pp : s.ldu.iris.pp = some i)
    (free : s.ldu.iris.owner = none) (released : s.ldu.iris.state = .released)
    (slow : s.ldu.iris.setup.energize ≠ 0) (idle : s.ldu.waitList = []) (elsewhere : min 96 v ≠ i) :
    s.writeIris v writer =
      ({ s with ldu := { s.ldu with
          pendingIris := some { value := min 96 v, writer := writer }, irisWriter := some writer,
          iris := { s.ldu.iris with
            target := some (min 96 v), state := .energizing, timer := some s.ldu.iris.setup.energize } } },
        .underway) := by
  let pending : State := { s with ldu := { s.ldu with pendingIris := some { value := min 96 v, writer := writer } } }
  have given := State.giveTarget_released pending .iris (min 96 v) i pp elsewhere released slow
  have acted : pending.actIris =
      ({ s with ldu := { s.ldu with
          pendingIris := some { value := min 96 v, writer := writer }, irisWriter := some writer,
          iris := { s.ldu.iris with
            target := some (min 96 v), state := .energizing, timer := some s.ldu.iris.setup.energize } } },
        .underway) := by
    have owner : pending.ldu.iris.owner = none := free
    have due : pending.ldu.pendingIris = some { value := min 96 v, writer := writer } := rfl
    simp only [State.actIris, due, owner, given]
    rfl
  have writes : s.writeIris v writer = (pending.actIris.1.arbitrate, pending.actIris.2) := rfl
  rw [writes, acted]
  exact congrArg (fun u : State => (u, Reach.underway)) (State.arbitrate_nil _ idle)

/-- The iris stands where the writer asked for: the target is taken out and its writer is told (R27). -/
theorem irisReached_csq {s : State} {v : Nat} (pending : s.ldu.pendingIris = some { value := v, writer := .csq })
    (pp : s.ldu.iris.pp = some v) :
    s.irisReached = State.irisArrived { s with ldu := { s.ldu with pendingIris := none } } := by
  simp only [State.irisReached, pending, pp, if_true]

end Sys2Proof.Proofs.LensFacts
end

section
/-! PROOFS. One picture: its reservation, the iris's arrival and recentring, ARMED and the arm timeout (R147 to R151). -/

namespace Sys2Proof.Proofs.Pictures
open Sys2Proof Sys2Proof.Machine Sys2Proof.Proofs.CardFacts Sys2Proof.Proofs.CaptureFacts Sys2Proof.Proofs.LensFacts
open Sys2Proof.Proofs.Exposures

-- one declaration after another: each unfolds operations whose equations another would be waiting for
set_option Elab.async false

/-! ## The grant (R147, R148, R161) -/

theorem canGrant_iff (s : State) :
    s.canGrant = true ↔
      s.pbf.request = true ∧ s.pbf.records.length < 32 ∧ s.pbf.reserve ≤ s.pbf.freePages.length := by
  simp only [State.canGrant, Bool.and_eq_true, decide_eq_true_eq, and_assoc]

theorem exec_reservationGrant {s : State} {c : Capture} (capture : s.csq.capture = some c) :
    exec .reservationGrant s = .next (if s.csq.state = .waitBuffer ∧ s.canGrant = true then s.grantPicture c else s) := by
  have asked : exec .reservationGrant s = execReservationGrant s := rfl
  simp only [asked, execReservationGrant, capture]

/-- The hand of a picture just granted. -/
def newHand (id : Nat) (sp : Option Split) : Hand :=
  { id := id, split := sp, late := false, arming := false, armed := false }

/-- The state after the grant, before the picture goes on. -/
def granted (s : State) (c : Capture) : State :=
  { s with
      pbf := { s.pbf with
        request := false, freePages := s.pbf.freePages.drop s.pbf.reserve,
        records := s.pbf.records ++
          [{ id := s.csq.nextId, tag := c.tag, pos := c.pos, state := .reserved,
             reserved := s.pbf.freePages.take s.pbf.reserve, pages := [], length := none, received := 0,
             shot := none }] },
      opt := { s.opt with table := s.opt.table.map fun e =>
        if e.tag = c.tag then (if e.state = .waiting then { e with state := .running } else e) else e },
      csq := { s.csq with
        nextId := nextNumber s.csq.nextId, capture := some { c with hand := some (newHand s.csq.nextId none) } } }

theorem grantPicture_eq {s : State} {c : Capture} (capture : s.csq.capture = some c) :
    s.grantPicture c =
      if 4 ≤ s.csq.pendingIntake.length then (granted s c).setCsq .waitIntake else (granted s c).splitPicture := by
  have hand := onCapture_eq (s := { granted s c with csq := { s.csq with nextId := nextNumber s.csq.nextId } }) capture
    fun c => { c with hand := some (newHand s.csq.nextId none) }
  exact congrArg (fun v : State => if 4 ≤ v.csq.pendingIntake.length then v.setCsq .waitIntake else v.splitPicture) hand

/-- The exposure is split and a resting iris sets out for its aperture (R148, R149). -/
theorem splitPicture_energizes {s : State} {c : Capture} {h : Hand} {p : Program} {i : Nat} {sp : Split}
    (capture : s.csq.capture = some c) (hand : c.hand = some h) (program : c.program = some p)
    (split : s.split (if c.shutter = .mechanical then s.otb.glob.tvMaxMechanical else s.otb.glob.tvMaxElectronic)
      (pictureX p (s.xLocked.getD 0) c.pos) = sp)
    (pp : s.ldu.iris.pp = some i) (free : s.ldu.iris.owner = none) (released : s.ldu.iris.state = .released)
    (slow : s.ldu.iris.setup.energize ≠ 0) (idle : s.ldu.waitList = [])
    (elsewhere : min 96 (sp.av - s.avLow).toNat ≠ i) :
    s.splitPicture =
      { s with
          csq := { s.csq with
            state := .waitIris, capture := some { c with hand := some { h with split := some sp } } },
          ldu := { s.ldu with
            pendingIris := some { value := min 96 (sp.av - s.avLow).toNat, writer := .csq }, irisWriter := some .csq,
            iris := { s.ldu.iris with
              target := some (min 96 (sp.av - s.avLow).toNat), state := .energizing,
              timer := some s.ldu.iris.setup.energize } } } := by
  obtain ⟨kind, tag, prog, index, first, last, pos, shutter, own, plan, asked, scanEnd, preempting, inHand, pictures,
    failure, frames, refine⟩ := c
  cases hand
  cases program
  let waits : State :=
    { s with csq := { s.csq with
        state := .waitIris,
        capture := some
          { kind, tag, program := some p, programIndex := index, first, last, pos, shutter, ownPreparation := own, plan,
            scanAsked := asked, scanEnd, preempting, hand := some { h with split := some sp }, pictures, failure,
            frames, refine } } }
  have written := writeIris_energizes (s := waits) (v := (sp.av - s.avLow).toNat) .csq pp free released slow idle
    elsewhere
  have changed : (s.onCapture fun c => { c with hand := some { h with split := some sp } }).setCsq .waitIris = waits := by
    rw [onCapture_eq capture]
    rfl
  simp only [State.splitPicture, capture, split, changed, written]
  rfl

/-- Settles O44: no grant without its conditions, WAIT_INTAKE with four pictures in intake, and the iris asked for. -/
theorem reservationGranted : Obligations.ReservationGranted := by
  intro s c capture
  refine ⟨fun lacks => ?_, fun state request entries pages => ⟨fun four => ?_,
    fun p i few program pp free released slow idle elsewhere => ?_⟩⟩
  · rw [exec_reservationGrant capture, if_neg]
    rintro ⟨state, grants⟩
    obtain ⟨request, entries, pages⟩ := (canGrant_iff s).mp grants
    obtain other | none | many | short := lacks
    · exact other state
    · rw [request] at none; exact absurd none (by decide)
    · omega
    · omega
  · have grants : s.csq.state = .waitBuffer ∧ s.canGrant = true := ⟨state, (canGrant_iff s).mpr ⟨request, entries, pages⟩⟩
    rw [exec_reservationGrant capture, if_pos grants, grantPicture_eq capture, if_pos four]
    rfl
  · have grants : s.csq.state = .waitBuffer ∧ s.canGrant = true := ⟨state, (canGrant_iff s).mpr ⟨request, entries, pages⟩⟩
    rw [exec_reservationGrant capture, if_pos grants, grantPicture_eq capture, if_neg (Nat.not_le.mpr few)]
    exact congrArg Host.Outcome.next (splitPicture_energizes (s := granted s c)
      (c := { c with hand := some (newHand s.csq.nextId none) }) rfl rfl program rfl pp free released slow idle elsewhere)

/-! ## Recentring (R123, R149, R150) -/

/-- The EXPOSE is placed and the picture joins the list (R150). -/
theorem centred_eq {s : State} {c : Capture} {h : Hand} {sp : Split} (state : s.csq.state = .recentring)
    (capture : s.csq.capture = some c) (hand : c.hand = some h) (split : h.split = some sp) (late : Bool) :
    s.centred late =
      { s with
          csq := { s.csq with
            state := .arming,
            capture := some
              { c with
                  hand := some { id := h.id, split := some sp, late := late, arming := false, armed := false },
                  pictures := c.pictures ++
                    [{ id := h.id, pos := c.pos, x := sp.x, clamp := sp.clamp, outcome := none }] } },
          opt := { s.opt with outbox := s.opt.outbox ++
            [.expose h.id sp.tv sp.av sp.gv (exposureTime sp.tv.toNat) c.shutter] } } := by
  obtain ⟨id, split', late', arming, armed⟩ := h
  cases split
  simp only [State.centred, state, capture, hand, onCapture_eq capture]
  rfl

/-- The targets of both steadying axes lie within half the stroke. -/
def nearCentre (s : State) : Prop :=
  s.stu.yaw.target.natAbs ≤ s.otb.glob.stroke / 2 ∧ s.stu.pitch.target.natAbs ≤ s.otb.glob.stroke / 2

theorem runs_iff (state : StuState) : state.runs = true ↔ state = .active ∨ state = .panning := by
  cases state <;> decide

/-- STU answers "centred" at once. -/
theorem recentre_atOnce {s : State} (still : s.stu.state ≠ .recentering)
    (near : ¬ (s.stu.state = .active ∨ s.stu.state = .panning) ∨ nearCentre s) : s.recentre = (s, true) := by
  by_cases runs : s.stu.state = .active ∨ s.stu.state = .panning
  · have near : nearCentre s := near.resolve_left (not_not.mpr runs)
    simp only [State.recentre, (runs_iff _).mpr runs, if_true]
    exact if_pos near
  · have stands : s.stu.state.runs = false := by simpa using (runs_iff _).not.mpr runs
    simp only [State.recentre, stands, if_neg still, Bool.false_eq_true, if_false]

/-- STU begins a recentre. -/
theorem recentre_begins {s : State} (runs : s.stu.state = .active ∨ s.stu.state = .panning) (far : ¬ nearCentre s) :
    s.recentre =
      (State.onSteady { s with stu := { s.stu with state := .recentering } } (SteadyAxis.rest false), false) := by
  simp only [State.recentre, (runs_iff _).mpr runs, if_true]
  exact if_neg far

/-- A recentre runs already. -/
theorem recentre_running {s : State} (runs : s.stu.state = .recentering) : s.recentre = (s, false) := by
  simp only [State.recentre, runs, StuState.runs, Bool.false_eq_true, if_false, if_true]

/-- CSQ hears that the iris has arrived, and STU answers. -/
theorem irisArrived_eq {s : State} (state : s.csq.state = .waitIris) :
    s.irisArrived =
      if (s.setCsq .recentring).recentre.2 then (s.setCsq .recentring).recentre.1.centred false
      else (s.setCsq .recentring).recentre.1 := by
  rw [State.irisArrived, if_pos state]
  split
  · rename_i answered
    rw [answered]
    rfl
  · rename_i answered
    rw [answered]
    rfl

/-- The iris HELD where a capture asked for it. -/
def irisHeld (s : State) : State :=
  { s with ldu := { s.ldu with iris := s.ldu.iris.hold, pendingIris := none } }

/-- The settle time of an iris that stands at the capture's target (R21, R27). -/
theorem exec_settle_iris {s : State} {v : Nat} (free : s.ldu.iris.owner = none) (settling : s.ldu.iris.state = .settling)
    (timer : s.ldu.iris.timer.isSome = true) (pp : s.ldu.iris.pp = some v) (target : s.ldu.iris.target = some v)
    (pending : s.ldu.pendingIris = some { value := v, writer := .csq }) :
    exec (.settleTimeout .iris) s = .next (irisHeld s).irisArrived := by
  have settles : exec (.settleTimeout .iris) s = .next (s.settled .iris) :=
    congrArg Host.Outcome.next (if_pos ⟨settling, timer⟩)
  let held : State := s.setAxis .iris s.ldu.iris.hold
  have arrived : (held.axis .iris).arrived = true := by
    show s.ldu.iris.hold.arrived = true
    simp [AxisRec.arrived, AxisRec.hold, pp, target]
  have unowned : (held.axis .iris).owner = none := free
  have tells : s.settled .iris = held.irisReached := by
    show held.axisHeld .iris = _
    simp only [State.axisHeld, unowned, arrived, and_self, if_true]
  rw [settles, tells]
  exact congrArg Host.Outcome.next (irisReached_csq (s := held) pending pp)

/-! ## ARMED (R150, R151) -/

theorem exec_armed {picture : Nat} {s t : State} (handed : s.takeHanded (.armed picture) = some t) :
    exec (.armed picture) s = .next (t.takeArmed picture) :=
  congrArg Host.Outcome.next (State.onFeed_taken handed _)

theorem takeArmed_other {t : State} (other : t.csq.state ≠ .arming) (picture : Nat) : t.takeArmed picture = t := by
  unfold State.takeArmed
  split
  · exact absurd (by assumption) other
  · rfl

theorem takeArmed_eq {t : State} {c : Capture} {h : Hand} (state : t.csq.state = .arming)
    (capture : t.csq.capture = some c) (hand : c.hand = some h) (picture : Nat) :
    t.takeArmed picture = if h.id = picture ∧ h.arming = true then t.exposeOrWait c h else t := by
  simp only [State.takeArmed, state, capture, hand]

/-- An exposure begins and its shot record is filled (R151). -/
theorem beginExposure_eq {t : State} {c : Capture} {h : Hand} {sp : Split} (capture : t.csq.capture = some c)
    (split : h.split = some sp) :
    t.beginExposure h =
      { t with
          pbf := { t.pbf with
            records := updateFirst (fun r => r.id == h.id) (fun r => { r with shot := some (t.shotRecord sp h.late) })
              t.pbf.records },
          csq := { t.csq with
            state := .exposing, xstart := true,
            capture := some { c with hand := some { h with arming := false, armed := false } } } } := by
  simp only [State.beginExposure, split, State.setRecord]
  rw [onCapture_eq (s := { t with pbf := { t.pbf with
    records := updateFirst (fun r => r.id == h.id) (fun r => { r with shot := some (t.shotRecord sp h.late) })
      t.pbf.records } }) capture]

theorem mustRecharge_iff (t : State) (c : Capture) :
    t.mustRecharge c = true ↔ c.shutter = .mechanical ∧ (t.csq.recharge = true ∨ t.csq.closeTimer = true) := by
  simp only [State.mustRecharge, Bool.and_eq_true, Bool.or_eq_true, beq_iff_eq]

/-! ## The arm timeout (R150) -/

theorem exec_armTimeout_other {s : State} (other : s.csq.state ≠ .arming) : exec .armTimeout s = .next s := by
  refine congrArg Host.Outcome.next ?_
  split
  · exact absurd (by assumption) other
  · rfl

theorem exec_armTimeout {s : State} {c : Capture} {h : Hand} (state : s.csq.state = .arming)
    (capture : s.csq.capture = some c) (hand : c.hand = some h) :
    exec .armTimeout s =
      .next (if h.arming then (s.failHand h.id .withdrawn .nullified .armTimeout).enterFinishing else s) := by
  have asked : exec .armTimeout s = execArmTimeout s := rfl
  simp only [asked, execArmTimeout, state, capture, Option.bind_some, hand]

/-- Settles O45: the iris's arrival by what STU answers, a recentring too late, an ARMED and the arm timeout. -/
theorem armedPicture : Obligations.ArmedPicture := by
  refine ⟨fun s c h sp v r iris free settling timer pp target pending state capture hand split => ?_, fun s other => ?_,
    fun s c h sp runs state capture hand split => ?_, fun picture s t handed => ⟨fun other => ?_,
      fun c h sp state capture hand split => ⟨fun dropped => ?_, fun same arming => ⟨fun kind waits => ?_,
        fun free => ?_⟩⟩⟩,
    fun s => ⟨exec_armTimeout_other, fun c h r state capture hand => ⟨fun quiet => ?_,
      fun arming pending clean found => ?_⟩⟩⟩
  · subst iris
    rw [exec_settle_iris free settling timer pp target pending, irisArrived_eq (s := irisHeld s) state]
    refine ⟨fun still near => ?_, fun steers far => ?_, fun runs => ?_⟩
    · rw [recentre_atOnce (s := (irisHeld s).setCsq .recentring) still near]
      exact congrArg Host.Outcome.next
        (centred_eq (s := (irisHeld s).setCsq .recentring) rfl capture hand split false)
    · rw [recentre_begins (s := (irisHeld s).setCsq .recentring) steers far]
      rfl
    · rw [recentre_running (s := (irisHeld s).setCsq .recentring) runs]
      rfl
  · exact congrArg Host.Outcome.next (if_neg other)
  · refine congrArg Host.Outcome.next ((if_pos runs).trans ?_)
    exact centred_eq (s := s.enterStu .active) state capture hand split true
  · rw [exec_armed handed, takeArmed_other other]
  · rw [exec_armed handed, takeArmed_eq state capture hand, if_neg]
    rintro ⟨same, arming⟩
    obtain other | quiet := dropped
    · exact other same
    · rw [quiet] at arming; exact Bool.false_ne_true arming
  · rw [exec_armed handed, takeArmed_eq state capture hand, if_pos ⟨same, arming⟩, State.exposeOrWait,
      if_pos ((mustRecharge_iff t c).mpr ⟨kind, waits⟩), onCapture_eq capture]
  · have goes : ¬ t.mustRecharge c = true := by
      rw [mustRecharge_iff]
      rintro ⟨mechanical, waits⟩
      obtain electronic | ⟨quiet, closed⟩ := free
      · rw [electronic] at mechanical; exact absurd mechanical (by decide)
      · rw [quiet, closed] at waits; exact absurd waits (by decide)
    subst same
    rw [exec_armed handed, takeArmed_eq state capture hand, if_pos ⟨rfl, arming⟩, State.exposeOrWait, if_neg goes,
      beginExposure_eq capture split]
    rfl
  · rw [exec_armTimeout state capture hand, quiet]
    rfl
  · obtain ⟨id, ids, waiting⟩ := List.exists_cons_of_ne_nil pending
    rw [exec_armTimeout state capture hand, if_pos arming, failHand_eq capture found, failureKept, clean]
    exact congrArg Host.Outcome.next (enterFinishing_waits waiting)

end Sys2Proof.Proofs.Pictures
end

section
/-! PROOFS. The settings a request sets: axis setups, metering, focus search (R19, R24, R70, R71, R92, R93). -/

namespace Sys2Proof.Proofs.Settings
open Sys2Proof Sys2Proof.Machine

-- one declaration after another: each unfolds operations whose equations another would be waiting for
set_option Elab.async false

/-! ## The nearest allowed value (R19, R24) -/

/-- How far apart two values are. -/
def apartBy (a b : Nat) : Nat := (a - b) + (b - a)

/-- A value nearer to `v` than no other allowed one, and the larger of two equally near. -/
def Nearest (allowed : Nat → Prop) (v r : Nat) : Prop :=
  allowed r ∧ ∀ w, allowed w → apartBy v r ≤ apartBy v w ∧ (apartBy v r = apartBy v w → w ≤ r)

/-- Above `v`, the lower of two values is the nearer. -/
theorem nearer_of_above {v r w : Nat} (above : v < r) (order : r ≤ w) :
    apartBy v r ≤ apartBy v w ∧ (apartBy v r = apartBy v w → w ≤ r) := by
  unfold apartBy
  omega

/-- Up to `v`, the higher of two values is the nearer. -/
theorem nearer_of_below {v r w : Nat} (below : r ≤ v) (order : w ≤ r) :
    apartBy v r ≤ apartBy v w ∧ (apartBy v r = apartBy v w → w ≤ r) :=
  ⟨by unfold apartBy; omega, fun _ => order⟩

/-- A value that is not nearer than a lower one has it below `v`. -/
theorem below_of_not_nearer {v lo hi : Nat} (order : lo < hi) (near : apartBy v hi ≤ apartBy v lo) : lo ≤ v := by
  unfold apartBy at near
  omega

/-- A value that is nearer than a higher one has it above `v`. -/
theorem above_of_nearer {v lo hi : Nat} (order : lo < hi) (near : apartBy v lo < apartBy v hi) : v < hi := by
  unfold apartBy at near
  omega

/-- The multiple that is nearest, of all multiples. -/
theorem nearestMultiple_nearest {unit : Nat} (some : 0 < unit) (v : Nat) :
    Nearest (fun w => unit ∣ w) v (nearestMultiple unit v) := by
  refine ⟨⟨_, rfl⟩, ?_⟩
  rintro _ ⟨k, rfl⟩
  rw [nearestMultiple]
  generalize quotient : (2 * v + unit) / (2 * unit) = m
  have below : 2 * unit * m ≤ 2 * v + unit := quotient ▸ Nat.mul_div_le _ _
  have above : 2 * v + unit < 2 * unit * m + 2 * unit := by
    have next := Nat.lt_mul_div_succ (2 * v + unit) (show 0 < 2 * unit by omega)
    rw [quotient, Nat.mul_add, Nat.mul_one] at next
    exact next
  rw [Nat.mul_assoc] at below above
  have half : 2 * apartBy v (unit * m) ≤ unit := by
    unfold apartBy
    omega
  rcases Nat.lt_trichotomy k m with less | rfl | more
  · have step : unit * k + unit ≤ unit * m := Nat.mul_le_mul_left unit less
    have far : unit ≤ 2 * apartBy v (unit * k) := by
      unfold apartBy
      omega
    exact ⟨by omega, fun _ => by omega⟩
  · exact ⟨le_refl _, fun _ => le_refl _⟩
  · have step : unit * m + unit ≤ unit * k := Nat.mul_le_mul_left unit more
    have far : unit < 2 * apartBy v (unit * k) := by
      unfold apartBy
      omega
    exact ⟨by omega, fun same => absurd same (by omega)⟩

/-- The nearest multiple brought between two multiples is the nearest of those between. -/
theorem bring_nearest {unit lo hi r v : Nat} (nearest : Nearest (fun w => unit ∣ w) v r) (low : unit ∣ lo)
    (high : unit ∣ hi) (order : lo ≤ hi) : Nearest (fun w => unit ∣ w ∧ lo ≤ w ∧ w ≤ hi) v (bring lo hi r) := by
  obtain ⟨multiple, least⟩ := nearest
  rcases Nat.lt_or_ge hi r with more | upTo
  · have brought : bring lo hi r = hi := by unfold bring; omega
    rw [brought]
    exact ⟨⟨high, order, le_refl hi⟩, fun w allowed =>
      nearer_of_below (below_of_not_nearer more (least hi high).1) allowed.2.2⟩
  rcases Nat.lt_or_ge r lo with less | atLeast
  · have brought : bring lo hi r = lo := by unfold bring; omega
    have nearer : apartBy v r < apartBy v lo :=
      lt_of_le_of_ne (least lo low).1 fun same => absurd ((least lo low).2 same) (Nat.not_le_of_lt less)
    rw [brought]
    exact ⟨⟨low, le_refl lo, order⟩, fun w allowed => nearer_of_above (above_of_nearer less nearer) allowed.2.1⟩
  · have brought : bring lo hi r = r := by unfold bring; omega
    rw [brought]
    exact ⟨⟨multiple, atLeast, upTo⟩, fun w allowed => least w allowed.1⟩

/-- The nearest multiple of a unit between two multiples. -/
theorem bring_nearestMultiple {unit lo hi : Nat} (some : 0 < unit) (low : unit ∣ lo) (high : unit ∣ hi)
    (order : lo ≤ hi) (v : Nat) :
    Nearest (fun w => unit ∣ w ∧ lo ≤ w ∧ w ≤ hi) v (bring lo hi (nearestMultiple unit v)) :=
  bring_nearest (nearestMultiple_nearest some v) low high order

/-- What is nearest depends on the allowed values alone. -/
theorem Nearest.congr {p q : Nat → Prop} {v r : Nat} (same : ∀ w, p w ↔ q w) (nearest : Nearest p v r) :
    Nearest q v r :=
  (funext fun w => propext (same w) : p = q) ▸ nearest

theorem axisOf_axisCode (a : Axis) : axisOf (axisCode a) = some a := by cases a <;> rfl

theorem axisOf_none {code : Nat} (beyond : 2 < code) : axisOf code = none := by
  unfold axisOf
  split <;> first | omega | rfl

/-- Settles O13: the nearest multiples brought into their ranges, and the setup an AXIS-SET writes. -/
theorem axisSetTaken : Obligations.AxisSetTaken := by
  have interval (a : Axis) (v lo hi : Nat) (range : intervalRange a = (lo, hi)) (low : 50 ∣ lo) (high : 50 ∣ hi)
      (order : lo ≤ hi) : Nearest (fun w => w % 50 = 0 ∧ lo ≤ w ∧ w ≤ hi) v (bringInterval a v) := by
    rw [bringInterval, range]
    exact (bring_nearestMultiple (by decide) low high order v).congr fun w => by rw [Nat.dvd_iff_mod_eq_zero]
  refine ⟨fun v => interval .zoom v 250 4000 rfl (by decide) (by decide) (by decide),
    fun v => interval .focus v 100 2000 rfl (by decide) (by decide) (by decide),
    fun v => interval .iris v 500 4000 rfl (by decide) (by decide) (by decide), fun v => ?_, fun v => ?_,
    fun tag axis interval energize settle hold s t reaches => ?_⟩
  · exact (bring_nearestMultiple (unit := 2) (lo := 0) (hi := 30) (by decide) (by decide) (by decide) (by decide)
      v).congr fun w => show 2 ∣ w ∧ 0 ≤ w ∧ w ≤ 30 ↔ w % 2 = 0 ∧ w ≤ 30 by omega
  · exact (bring_nearestMultiple (unit := 16) (lo := 0) (hi := 240) (by decide) (by decide) (by decide) (by decide)
      v).congr fun w => show 16 ∣ w ∧ 0 ≤ w ∧ w ≤ 240 ↔ w % 16 = 0 ∧ w ≤ 240 by omega
  · have asked : exec (.axisSet tag axis interval energize settle hold) s =
        .next (t.axisSet tag axis interval energize settle hold) :=
      congrArg Host.Outcome.next (State.onRequest_reaches reaches _)
    rw [asked]
    refine ⟨fun beyond => ?_, fun a code => ?_⟩
    · rw [State.axisSet, axisOf_none beyond]
      rfl
    · subst code
      rw [State.axisSet, axisOf_axisCode]
      rfl

/-! ## Metering and AF settings (R71, R93) -/

theorem meterModeOf_none {code : Nat} (beyond : 3 < code) : meterModeOf code = none := by
  unfold meterModeOf
  split <;> first | omega | rfl

theorem meterModeOf_code (m : MeterMode) : meterModeOf (meterModeCode m) = some m := by cases m <;> rfl

theorem meterModeOf_exists {code : Nat} (within : code ≤ 3) : ∃ m, meterModeOf code = some m := by
  interval_cases code <;> exact ⟨_, rfl⟩

theorem roundingOf_none {code : Nat} (beyond : 3 < code) : roundingOf code = none := by
  unfold roundingOf
  split <;> first | omega | rfl

theorem roundingOf_code (r : Rounding) : roundingOf (roundingCode r) = some r := by cases r <;> rfl

theorem focusConditionOf_none {code : Nat} (beyond : 1 < code) : focusConditionOf code = none := by
  unfold focusConditionOf
  split <;> first | omega | rfl

theorem focusConditionOf_code (c : FocusCondition) : focusConditionOf (focusConditionCode c) = some c := by
  cases c <;> rfl

theorem focusConditionOf_exists {code : Nat} (within : code ≤ 1) : ∃ c, focusConditionOf code = some c := by
  interval_cases code <;> exact ⟨_, rfl⟩

theorem spanOf_none {code : Nat} (beyond : 1 < code) : spanOf code = none := by
  unfold spanOf
  split <;> first | omega | rfl

theorem spanOf_code (s : Span) : spanOf (spanCode s) = some s := by cases s <;> rfl

theorem spanOf_exists {code : Nat} (within : code ≤ 1) : ∃ s, spanOf code = some s := by
  interval_cases code <;> exact ⟨_, rfl⟩

theorem holdModeOf_none {code : Nat} (beyond : 1 < code) : holdModeOf code = none := by
  unfold holdModeOf
  split <;> first | omega | rfl

theorem holdModeOf_code (h : HoldMode) : holdModeOf (holdModeCode h) = some h := by cases h <;> rfl

theorem meterSet_refused {t : State} {m : MeterOperands} {field : Nat}
    (bad : takeMeter m t.otb.glob.tvMaxElectronic = .inl field) (tag : Nat) :
    t.meterSet tag m = t.reply tag (.refused .field field) := by
  rw [State.meterSet, bad]
  rfl

theorem afSet_refused {t : State} {a : AfOperands} {field : Nat} (bad : takeAf a = .inl field) (tag : Nat) :
    t.afSet tag a = t.reply tag (.refused .field field) := by
  rw [State.afSet, bad]
  rfl

/-- Settles O29: the first bad code refused, every value otherwise brought into its range. -/
theorem meterAndAfSet : Obligations.MeterAndAfSet := by
  refine ⟨fun tag m s t reaches => ?_, fun tag a s t reaches => ?_⟩
  · have asked : exec (.meterSet tag m) s = .next (t.meterSet tag m) :=
      congrArg Host.Outcome.next (State.onRequest_reaches reaches _)
    rw [asked]
    refine ⟨fun beyond => ?_, fun within beyond => ?_, fun mode rounding modeCode roundingCode => ?_⟩
    · exact congrArg Host.Outcome.next (meterSet_refused (by rw [takeMeter, meterModeOf_none beyond]) tag)
    · obtain ⟨mode, known⟩ := meterModeOf_exists within
      exact congrArg Host.Outcome.next
        (meterSet_refused (by simp only [takeMeter, known, roundingOf_none beyond]) tag)
    · have taken : takeMeter m t.otb.glob.tvMaxElectronic =
          .inr (bringMeter m mode rounding t.otb.glob.tvMaxElectronic) := by
        simp only [takeMeter, ← modeCode, ← roundingCode, meterModeOf_code, roundingOf_code]
      rw [State.meterSet, taken]
      rfl
  · have asked : exec (.afSet tag a) s = .next (t.afSet tag a) :=
      congrArg Host.Outcome.next (State.onRequest_reaches reaches _)
    rw [asked]
    refine ⟨fun beyond => ?_, fun condition beyond => ?_, fun condition span beyond => ?_,
      fun condition span hold conditionCode spanCode holdCode => ?_⟩
    · exact congrArg Host.Outcome.next (afSet_refused (by rw [takeAf, focusConditionOf_none beyond]) tag)
    · obtain ⟨c, known⟩ := focusConditionOf_exists condition
      exact congrArg Host.Outcome.next (afSet_refused (by simp only [takeAf, known, spanOf_none beyond]) tag)
    · obtain ⟨c, condition⟩ := focusConditionOf_exists condition
      obtain ⟨p, span⟩ := spanOf_exists span
      exact congrArg Host.Outcome.next
        (afSet_refused (by simp only [takeAf, condition, span, holdModeOf_none beyond]) tag)
    · have taken : takeAf a = .inr (bringAf a condition span hold) := by
        simp only [takeAf, ← conditionCode, ← spanCode, ← holdCode, focusConditionOf_code, spanOf_code, holdModeOf_code]
      rw [State.afSet, taken]
      rfl

end Sys2Proof.Proofs.Settings
end

section
/-! PROOFS. The exposure computer's numbers: the convergence step and the program split (R78, R79, R81 to R83). -/

namespace Sys2Proof.Proofs.Numbers
open Sys2Proof Sys2Proof.Machine

-- one declaration after another: each unfolds operations whose equations another would be waiting for
set_option Elab.async false

/-! ## Roundings (R78) -/

/-- What rounding `n / 8` in a mode may make of it. -/
def RoundedEighths (mode : Rounding) (n q : Int) : Prop :=
  (8 * q - n).natAbs < 8 ∧
    match mode with
    | .nearest => (8 * q - n).natAbs ≤ 4 ∧ ((8 * q - n).natAbs = 4 → q % 2 = 0)
    | .towardZero => (8 * q).natAbs ≤ n.natAbs
    | .towardBrighter => 8 * q ≤ n
    | .towardDarker => n ≤ 8 * q

theorem fdiv_eight (n : Int) : n.fdiv 8 = n / 8 := Int.fdiv_eq_ediv_of_nonneg n (by decide)

theorem tdiv_eight (n : Int) : n.tdiv 8 = if 0 ≤ n then n / 8 else -(-n / 8) := by
  split
  · exact Int.tdiv_eq_ediv_of_nonneg (by assumption)
  · rw [← Int.tdiv_eq_ediv_of_nonneg (by omega), Int.neg_tdiv, Int.neg_neg]

theorem roundEighths_rounded (mode : Rounding) (n : Int) : RoundedEighths mode n (roundEighths mode n) := by
  cases mode with
  | nearest =>
    simp only [RoundedEighths, roundEighths, fdiv_eight]
    split
    · omega
    · split
      · omega
      · split <;> omega
  | towardZero =>
    simp only [RoundedEighths, roundEighths, tdiv_eight]
    split <;> omega
  | towardBrighter =>
    simp only [RoundedEighths, roundEighths, fdiv_eight]
    omega
  | towardDarker =>
    simp only [RoundedEighths, roundEighths, fdiv_eight]
    omega

/-- The step by the size of the difference. -/
theorem convergenceStep_rounded : Obligations.ConvergenceStep := by
  intro m delta
  dsimp only
  by_cases small : delta.natAbs ≤ 2
  · have none : convergenceStep m delta = 0 := if_pos small
    rw [none]
    exact ⟨fun _ => rfl, by decide, by decide, fun large => absurd small (by omega), fun large => absurd small (by omega),
      fun large => absurd small (by omega)⟩
  · have step : convergenceStep m delta = bringInt (-64) 64 (roundEighths m.rounding (delta * m.convergence)) :=
      if_neg small
    obtain ⟨near, mode⟩ := roundEighths_rounded m.rounding (delta * m.convergence)
    rw [step]
    generalize delta * (m.convergence : Int) = n at near mode ⊢
    generalize roundEighths m.rounding n = q at near mode ⊢
    refine ⟨fun tiny => absurd tiny small, ?_, ?_, fun _ above => ?_, fun _ below => ?_, fun _ within => ?_⟩
    · unfold bringInt; omega
    · unfold bringInt; omega
    · unfold bringInt; omega
    · unfold bringInt; omega
    · have inside : bringInt (-64) 64 q = q := by unfold bringInt; omega
      rw [inside]
      exact ⟨near, mode⟩

/-! ## The program split (R81 to R83) -/

/-- What rounding a gain in a mode may make of it. -/
def RoundedGain (mode : Rounding) (g q : Int) : Prop :=
  q % 4 = 0 ∧ (q - g).natAbs < 4 ∧
    match mode with
    | .nearest => (q - g).natAbs ≤ 2 ∧ ((q - g).natAbs = 2 → q % 8 = 0)
    | .towardZero => q ≤ g
    | .towardDarker => q ≤ g
    | .towardBrighter => g ≤ q

theorem fdiv_four (n : Int) : n.fdiv 4 = n / 4 := Int.fdiv_eq_ediv_of_nonneg n (by decide)

theorem roundGain_rounded (mode : Rounding) (g : Int) : RoundedGain mode g (roundGain mode g) := by
  cases mode with
  | nearest =>
    simp only [RoundedGain, roundGain, fdiv_four]
    split
    · omega
    · split
      · omega
      · split <;> omega
  | towardZero =>
    simp only [RoundedGain, roundGain, fdiv_four]
    omega
  | towardBrighter =>
    simp only [RoundedGain, roundGain, fdiv_four]
    split <;> omega
  | towardDarker =>
    simp only [RoundedGain, roundGain, fdiv_four]
    omega

section
variable {avLo avHi knee limit x : Int} (rounding : Rounding) (gvMax : Nat)

/-- Above the knee the aperture closes and no gain is added (R82, step 1). -/
theorem splitSteps_closes (above : knee < x - avLo) :
    splitSteps avLo avHi knee limit rounding gvMax x =
      (min avHi (avLo + (x - avLo - knee)), x - min avHi (avLo + (x - avLo - knee)), 0) :=
  if_pos above

/-- Between the hand-hold limit and the knee the time takes it all (R82, step 3). -/
theorem splitSteps_open (below : x - avLo ≤ knee) (enough : limit ≤ x - avLo) :
    splitSteps avLo avHi knee limit rounding gvMax x = (avLo, x - avLo, 0) :=
  (if_neg (not_lt.mpr below)).trans (if_neg (not_lt.mpr enough))

/-- Below the hand-hold limit gain is added (R82, step 2). -/
theorem splitSteps_gains (below : x - avLo ≤ knee) (short : x - avLo < limit) :
    splitSteps avLo avHi knee limit rounding gvMax x =
      (avLo, x - avLo + bringInt 0 gvMax (roundGain rounding (min gvMax (limit - (x - avLo)))),
        bringInt 0 gvMax (roundGain rounding (min gvMax (limit - (x - avLo))))) :=
  (if_neg (not_lt.mpr below)).trans (if_pos short)

end

/-- What the clamp report of a split says of the time asked for (R83). -/
def ClampTells (floor tvHi tv : Int) (sp : Split) : Prop :=
  match sp.clamp with
  | .none => sp.tv = tv
  | .over n => 0 < n ∧ sp.tv = tv - n ∧ sp.tv = tvHi
  | .under n => 0 < n ∧ sp.tv = tv + n ∧ sp.tv = floor

/-- The end of a split: the time brought between its bounds, the clamp the difference (R83). -/
theorem splitEnd_tells {floor tvHi : Int} (order : floor ≤ tvHi) (av tv gv : Int) :
    (splitEnd floor tvHi (av, tv, gv)).av = av ∧ (splitEnd floor tvHi (av, tv, gv)).gv = gv ∧
      (splitEnd floor tvHi (av, tv, gv)).tv = max floor (min tvHi tv) ∧
      (splitEnd floor tvHi (av, tv, gv)).x = av + (splitEnd floor tvHi (av, tv, gv)).tv - gv ∧
      ClampTells floor tvHi tv (splitEnd floor tvHi (av, tv, gv)) := by
  unfold splitEnd
  dsimp only
  split
  · refine ⟨rfl, rfl, ?_, rfl, ?_⟩
    · dsimp only; omega
    · show 0 < (tv - tvHi).toNat ∧ tvHi = tv - (tv - tvHi).toNat ∧ tvHi = tvHi
      omega
  · split
    · refine ⟨rfl, rfl, ?_, rfl, ?_⟩
      · dsimp only; omega
      · show 0 < (floor - tv).toNat ∧ floor = tv + (floor - tv).toNat ∧ floor = floor
        omega
    · refine ⟨rfl, rfl, ?_, rfl, ?_⟩
      · dsimp only; omega
      · simp only [ClampTells]

/-- The X of a split differs from the one asked for by the clamp (R83). -/
theorem clamp_accounts {floor tvHi av tv gv x : Int} {sp : Split} (asked : tv = x - av + gv)
    (sum : sp.x = av + sp.tv - gv) (tells : ClampTells floor tvHi tv sp) :
    match sp.clamp with
    | .none => sp.x = x
    | .over n => 0 < n ∧ sp.x = x - n ∧ sp.tv = tvHi
    | .under n => 0 < n ∧ sp.x = x + n ∧ sp.tv = floor := by
  unfold ClampTells at tells
  split at tells <;> omega

/-- What holds of every split whose time is what the aperture and the gain leave of the X (R82, R83). -/
theorem splitEnd_accounts {floor tvHi av tv gv avLo avHi gvMax x : Int} (order : floor ≤ tvHi)
    (asked : tv = x - av + gv) (avLow : avLo ≤ av) (avHigh : av ≤ avHi) (gvLow : 0 ≤ gv) (gvHigh : gv ≤ gvMax) :
    let sp := splitEnd floor tvHi (av, tv, gv)
    sp.x = sp.av + sp.tv - sp.gv ∧ sp.tv = max floor (min tvHi (x - sp.av + sp.gv)) ∧
    (match sp.clamp with
     | .none => sp.x = x
     | .over n => 0 < n ∧ sp.x = x - n ∧ sp.tv = tvHi
     | .under n => 0 < n ∧ sp.x = x + n ∧ sp.tv = floor) ∧
    floor ≤ sp.tv ∧ sp.tv ≤ tvHi ∧ avLo ≤ sp.av ∧ sp.av ≤ avHi ∧ 0 ≤ sp.gv ∧ sp.gv ≤ gvMax := by
  obtain ⟨avIs, gvIs, tvIs, sum, tells⟩ := splitEnd_tells order av tv gv
  dsimp only
  generalize splitEnd floor tvHi (av, tv, gv) = sp at avIs gvIs tvIs sum tells ⊢
  rw [avIs, gvIs]
  refine ⟨sum, by rw [tvIs, asked], clamp_accounts asked sum tells, ?_, ?_, avLow, avHigh, gvLow, gvHigh⟩
  · rw [tvIs]
    exact le_max_left _ _
  · rw [tvIs]
    exact max_le order (min_le_left _ _)

theorem relief_eq (s : State) :
    (s.relief : Int) = if s.stu.state = .active ∧ s.recentlyUnsteady = false then 96 else 0 := by
  rw [State.relief]
  split <;> rfl

/-- Settles O25: the three steps of R82 by where the X lies, and the clamp the difference. -/
theorem splitAccounts : Obligations.SplitAccounts := by
  intro s tvHi x lens
  have split : s.split tvHi x =
      splitEnd (min s.exc.live.tvFloor tvHi : Int) tvHi
        (splitSteps s.avLow s.avHigh (min s.exc.live.knee tvHi)
          (max (min s.exc.live.tvFloor tvHi : Int)
            (min (max 0 ((lg (s.reading (·.equiv) s.zoomStep).toNat : Int) -
              (if s.stu.state = .active ∧ s.recentlyUnsteady = false then 96 else 0))) (min s.exc.live.knee tvHi)))
          s.exc.live.rounding s.exc.live.gvMax x) := by
    rw [← relief_eq]
    rfl
  have order : (min s.exc.live.tvFloor tvHi : Int) ≤ tvHi := min_le_right _ _
  dsimp only
  rw [split]
  generalize knee : (min s.exc.live.knee tvHi : Int) = k
  generalize (max (min s.exc.live.tvFloor tvHi : Int)
    (min (max 0 ((lg (s.reading (·.equiv) s.zoomStep).toNat : Int) -
      (if s.stu.state = .active ∧ s.recentlyUnsteady = false then 96 else 0))) k)) = limit
  have gvMax : (0 : Int) ≤ s.exc.live.gvMax := Int.natCast_nonneg _
  refine ⟨rfl, rfl, ?_⟩
  by_cases above : k < x - s.avLow
  · rw [splitSteps_closes _ _ above]
    obtain ⟨avIs, gvIs, -⟩ := splitEnd_tells order (min s.avHigh (s.avLow + (x - s.avLow - k)))
      (x - min s.avHigh (s.avLow + (x - s.avLow - k))) 0
    refine ⟨fun _ => ⟨avIs, gvIs⟩, fun below => absurd above (not_lt.mpr below),
      fun below => absurd above (not_lt.mpr below), fun below => absurd above (not_lt.mpr below),
      splitEnd_accounts order (by omega) (by omega) (by omega) (le_refl 0) gvMax⟩
  · by_cases short : x - s.avLow < limit
    · rw [splitSteps_gains _ _ (not_lt.mp above) short]
      obtain ⟨multiple, near, mode⟩ :=
        roundGain_rounded s.exc.live.rounding (min s.exc.live.gvMax (limit - (x - s.avLow)))
      generalize roundGain s.exc.live.rounding (min s.exc.live.gvMax (limit - (x - s.avLow))) = g at multiple near mode ⊢
      obtain ⟨avIs, gvIs, -⟩ := splitEnd_tells order s.avLow (x - s.avLow + bringInt 0 s.exc.live.gvMax g)
        (bringInt 0 s.exc.live.gvMax g)
      refine ⟨fun closes => absurd closes above, fun _ => avIs, fun _ enough => absurd short (not_lt.mpr enough),
        fun _ _ => ⟨g, multiple, gvIs, near, ?_⟩,
        splitEnd_accounts order rfl (le_refl _) lens (by unfold bringInt; omega) (by unfold bringInt; omega)⟩
      cases rounding : s.exc.live.rounding <;> rw [rounding] at mode <;> exact mode
    · rw [splitSteps_open _ _ (not_lt.mp above) (not_lt.mp short)]
      obtain ⟨avIs, gvIs, -⟩ := splitEnd_tells order s.avLow (x - s.avLow) 0
      exact ⟨fun closes => absurd closes above, fun _ => avIs, fun _ _ => gvIs, fun _ less => absurd less short,
        splitEnd_accounts order (by omega) (le_refl _) lens (le_refl 0) gvMax⟩

/-- Settles O26: 0 for a small difference, and otherwise the rounded eighth brought into ±64. -/
theorem convergenceStep : Obligations.ConvergenceStep := convergenceStep_rounded

end Sys2Proof.Proofs.Numbers
end

section
/-! PROOFS. The plan of a scan (R97). -/

namespace Sys2Proof.Proofs.ScanPlans
open Sys2Proof Sys2Proof.Machine

-- one declaration after another: each unfolds operations whose equations another would be waiting for
set_option Elab.async false

/-- Units from one position to another, both ends included (R97). -/
def unitsBetween (step a b : Nat) : Nat := (if a ≤ b then b - a else a - b) / step + 1

/-- The plan of a scan between two positions. -/
def planBetween (settings : AfSettings) (a b : Nat) (clampFlag : Bool) : ScanPlan :=
  { settings := settings, start := a,
    stop :=
      if 256 < unitsBetween settings.step a b then (if a ≤ b then a + 255 * settings.step else a - 255 * settings.step)
      else b,
    up := decide (a ≤ b), planned := min 256 (unitsBetween settings.step a b), clampFlag := clampFlag,
    countFlag := decide (256 < unitsBetween settings.step a b) }

/-- The ends a scan is given, or those of its span. -/
def planEnds (s : State) (settings : AfSettings) (start stop : Option Nat) : Nat × Nat :=
  match start, stop with
  | some a, some b => (min 1600 a, min 1600 b)
  | _, _ =>
    match settings.span with
    | .full => ((s.reading (·.fInf) s.zoomStep).toNat, (s.reading (·.fNear) s.zoomStep).toNat)
    | .near => (s.ldu.focus.pp.getD 0 - 64, min 1600 (s.ldu.focus.pp.getD 0 + 64))

theorem planScan_eq (s : State) (settings : AfSettings) (start stop : Option Nat) :
    s.planScan settings start stop =
      planBetween settings (planEnds s settings start stop).1 (planEnds s settings start stop).2
        (decide (1600 < start.getD 0) || decide (1600 < stop.getD 0)) := by
  have unfolded : s.planScan settings start stop =
      (fun ends : Nat × Nat =>
        let up := decide (ends.1 ≤ ends.2)
        let count := (if up then ends.2 - ends.1 else ends.1 - ends.2) / settings.step + 1
        let pulled := decide (256 < count)
        { settings := settings, start := ends.1,
          stop := if pulled then (if up then ends.1 + 255 * settings.step else ends.1 - 255 * settings.step) else ends.2,
          up := up, planned := min 256 count,
          clampFlag := decide (1600 < start.getD 0) || decide (1600 < stop.getD 0), countFlag := pulled })
        (planEnds s settings start stop) := by
    cases start <;> cases stop <;> rfl
  rw [unfolded]
  simp only [planBetween, unitsBetween, decide_eq_true_eq]
  rfl

/-- No position of a plan lies beyond its end. -/
theorem planBetween_inside (settings : AfSettings) (some : 1 ≤ settings.step) (a b : Nat) (flag : Bool) {i : Nat}
    (within : i < (planBetween settings a b flag).planned) :
    ((planBetween settings a b flag).up = true →
      (planBetween settings a b flag).start ≤ (planBetween settings a b flag).start + i * settings.step ∧
        (planBetween settings a b flag).start + i * settings.step ≤ (planBetween settings a b flag).stop) ∧
    ((planBetween settings a b flag).up = false →
      (planBetween settings a b flag).stop ≤ (planBetween settings a b flag).start - i * settings.step ∧
        i * settings.step ≤ (planBetween settings a b flag).start) := by
  have within : i < 256 ∧ i < unitsBetween settings.step a b := lt_min_iff.mp within
  simp only [planBetween, decide_eq_true_eq, decide_eq_false_iff_not]
  obtain ⟨few, planned⟩ := within
  generalize distance : (if a ≤ b then b - a else a - b) = d
  have units : unitsBetween settings.step a b = d / settings.step + 1 := by rw [unitsBetween, distance]
  rw [units] at planned ⊢
  have reach : i * settings.step ≤ d :=
    (Nat.le_div_iff_mul_le some).mp (Nat.le_of_lt_succ planned)
  have short : i * settings.step ≤ 255 * settings.step := Nat.mul_le_mul_right _ (by omega)
  by_cases many : 256 < d / settings.step + 1
  · have far : 256 * settings.step ≤ d := (Nat.le_div_iff_mul_le some).mp (by omega)
    rw [if_pos many]
    refine ⟨fun up => ?_, fun down => ?_⟩
    · rw [if_pos up]
      omega
    · rw [if_neg down] at distance ⊢
      omega
  · rw [if_neg many]
    refine ⟨fun up => ?_, fun down => ?_⟩
    · rw [if_pos up] at distance
      omega
    · rw [if_neg down] at distance
      omega

/-- Settles O31: the plan between the ends given or those of the span, and its positions. -/
theorem scanPlanBounded : Obligations.ScanPlanBounded := by
  intro s settings start stop some
  dsimp only
  rw [planScan_eq]
  refine ⟨rfl, fun a b given end_ => ?_, fun noStart noStop => ⟨?_, fun full => ?_, fun near pp known => ?_⟩, ?_,
    min_le_left _ _, fun i within => planBetween_inside settings some _ _ _ within⟩
  · subst given end_
    exact ⟨⟨rfl, rfl, rfl, rfl, rfl⟩, rfl⟩
  · subst noStart noStop
    rfl
  · subst noStart noStop
    simp only [planEnds, full]
    exact ⟨rfl, rfl, rfl, rfl, rfl⟩
  · subst noStart noStop
    simp only [planEnds, near, known]
    exact ⟨rfl, rfl, rfl, rfl, rfl⟩
  · exact le_min (by decide) (Nat.le_add_left 1 _)

end Sys2Proof.Proofs.ScanPlans
end

section
/-! PROOFS. Programs and the context slots (R128, R129, R133, R134). -/

namespace Sys2Proof.Proofs.Programs
open Sys2Proof Sys2Proof.Machine Sys2Proof.Proofs.Settings

-- one declaration after another: each unfolds operations whose equations another would be waiting for
set_option Elab.async false

/-! ## The first of several bad fields -/

/-- A number is the least that satisfies a test. -/
def IsFirst (bad : Nat → Prop) (k : Nat) : Prop := bad k ∧ ∀ j, j < k → ¬ bad j

theorem isFirst_unique {bad : Nat → Prop} {k j : Nat} (one : IsFirst bad k) (other : IsFirst bad j) : k = j := by
  rcases Nat.lt_trichotomy k j with less | same | more
  · exact absurd one.1 (other.2 k less)
  · exact same
  · exact absurd other.1 (one.2 j more)

theorem none_below_succ {bad : Nat → Prop} {n : Nat} (below : ∀ j, j < n → ¬ bad j) (good : ¬ bad n) :
    ∀ j, j < n + 1 → ¬ bad j := fun j less => by
  rcases Nat.lt_succ_iff_lt_or_eq.mp less with less | rfl
  · exact below j less
  · exact good

/-! ## PROGRAM-SET (R128, R129) -/

/-- A field of a descriptor lies outside its set, by its number. -/
def BadProgram (o : ProgramOperands) (k : Nat) : Prop :=
  (k = 2 ∧ 2 < o.kind) ∨ (k = 3 ∧ (o.mask < 1 ∨ 3 < o.mask)) ∨
  (k = 4 ∧
    ((o.kind = 0 ∧ o.count ≠ 1) ∨ (o.kind = 1 ∧ (o.count < 2 ∨ 30 < o.count)) ∨
      (o.kind = 2 ∧ o.count ≠ 3 ∧ o.count ≠ 5 ∧ o.count ≠ 7))) ∨
  (k = 5 ∧ o.kind = 2 ∧ (o.step < 8 ∨ 96 < o.step)) ∨ (k = 6 ∧ 30 < o.interval) ∨ (k = 7 ∧ 1 < o.between) ∨
  (k = 8 ∧ 1 < o.focusFirst)

/-- The descriptor that good operands of a kind carry. -/
def programOf (o : ProgramOperands) (kind : ProgramKind) : Program :=
  { kind := kind, mask := o.mask, count := o.count, step := if kind = .bracket then some o.step else none,
    interval := o.interval, refine := o.between == 1, focusFirst := o.focusFirst == 1 }

theorem programKindOf_code (k : ProgramKind) : programKindOf (programKindCode k) = some k := by cases k <;> rfl

theorem programKindOf_none {code : Nat} (unknown : programKindOf code = none) : 2 < code := by
  by_contra within
  interval_cases code <;> exact absurd unknown (Option.some_ne_none _)

theorem programKindOf_some {code : Nat} {k : ProgramKind} (known : programKindOf code = some k) :
    programKindCode k = code := by
  unfold programKindOf at known
  split at known <;> cases known <;> rfl

/-- The count of a kind is not allowed. -/
theorem countAllowed_false (k : ProgramKind) (n : Nat) :
    countAllowed k n = false ↔
      (programKindCode k = 0 ∧ n ≠ 1) ∨ (programKindCode k = 1 ∧ (n < 2 ∨ 30 < n)) ∨
        (programKindCode k = 2 ∧ n ≠ 3 ∧ n ≠ 5 ∧ n ≠ 7) := by
  cases k with
  | single => simp [countAllowed, programKindCode]
  | burst => simp [countAllowed, programKindCode]; omega
  | bracket => simp [countAllowed, programKindCode, and_assoc]

theorem programKindCode_two (k : ProgramKind) : programKindCode k = 2 ↔ k = .bracket := by cases k <;> decide

/-- What the checks of a descriptor find: the first bad field, or none and the descriptor. -/
def JudgedProgram (o : ProgramOperands) : Nat ⊕ Program → Prop
  | .inl k => IsFirst (BadProgram o) k
  | .inr p => (∀ k, ¬ BadProgram o k) ∧ ∃ kind, programKindCode kind = o.kind ∧ p = programOf o kind

theorem badProgram_range (o : ProgramOperands) {k : Nat} (bad : BadProgram o k) : 2 ≤ k ∧ k ≤ 8 := by
  rcases bad with ⟨rfl, -⟩ | ⟨rfl, -⟩ | ⟨rfl, -⟩ | ⟨rfl, -⟩ | ⟨rfl, -⟩ | ⟨rfl, -⟩ | ⟨rfl, -⟩ <;> decide

theorem takeProgram_judges (o : ProgramOperands) : JudgedProgram o (takeProgram o) := by
  unfold takeProgram
  have below : ∀ j, j < 2 → ¬ BadProgram o j := fun j less bad => absurd (badProgram_range o bad).1 (Nat.not_le_of_lt less)
  cases known : programKindOf o.kind with
  | none => exact ⟨.inl ⟨rfl, programKindOf_none known⟩, below⟩
  | some kind =>
    have code := programKindOf_some known
    have counts := countAllowed_false kind o.count
    have brackets := programKindCode_two kind
    rw [code] at counts brackets
    have small : ¬ 2 < o.kind := by rw [← code]; cases kind <;> decide
    have below := none_below_succ below (by simpa [BadProgram] using small)
    dsimp only
    split
    · next bad => exact ⟨by simpa [BadProgram] using bad, below⟩
    next mask =>
    have below := none_below_succ below (by simpa [BadProgram] using mask)
    split
    · next bad => exact ⟨.inr (.inr (.inl ⟨rfl, counts.mp bad⟩)), below⟩
    next count =>
    have below := none_below_succ below (by simpa [BadProgram] using counts.not.mp count)
    split
    · next bad => exact ⟨by simpa [BadProgram, brackets] using bad, below⟩
    next step =>
    have below := none_below_succ below (by simpa [BadProgram, brackets] using step)
    split
    · next bad => exact ⟨by simpa [BadProgram] using bad, below⟩
    next interval =>
    have below := none_below_succ below (by simpa [BadProgram] using interval)
    split
    · next bad => exact ⟨by simpa [BadProgram] using bad, below⟩
    next between =>
    have below := none_below_succ below (by simpa [BadProgram] using between)
    split
    · next bad => exact ⟨by simpa [BadProgram] using bad, below⟩
    next focusFirst =>
    have below := none_below_succ below (by simpa [BadProgram] using focusFirst)
    exact ⟨fun k bad => below k (Nat.lt_succ_of_le (badProgram_range o bad).2) bad, kind, code, rfl⟩

theorem takeProgram_bad {o : ProgramOperands} {k : Nat} (first : IsFirst (BadProgram o) k) : takeProgram o = .inl k := by
  have judged := takeProgram_judges o
  cases taken : takeProgram o with
  | inl j =>
    rw [taken] at judged
    rw [isFirst_unique first judged]
  | inr p =>
    rw [taken] at judged
    exact absurd first.1 (judged.1 k)

theorem takeProgram_good {o : ProgramOperands} {kind : ProgramKind} (good : ∀ k, ¬ BadProgram o k)
    (code : programKindCode kind = o.kind) : takeProgram o = .inr (programOf o kind) := by
  have judged := takeProgram_judges o
  cases taken : takeProgram o with
  | inl j =>
    rw [taken] at judged
    exact absurd judged.1 (good j)
  | inr p =>
    rw [taken] at judged
    obtain ⟨-, other, otherCode, rfl⟩ := judged
    have same : some other = some kind := by
      rw [← programKindOf_code other, ← programKindOf_code kind, otherCode, code]
    rw [Option.some.inj same]

/-- A flag operand that is 0 or 1 is sent as it came. -/
theorem putFlag_operand {n : Nat} (flag : n ≤ 1) : putFlag (n == 1) = [byteOf n] := by
  interval_cases n <;> rfl

/-- The bytes of a descriptor just taken. -/
theorem programBytes_taken {o : ProgramOperands} {kind : ProgramKind} (good : ∀ k, ¬ BadProgram o k)
    (code : programKindCode kind = o.kind) :
    programBytes o.index (some (programOf o kind)) =
      [byteOf o.index, 1#8, byteOf o.kind, byteOf o.mask, byteOf o.count,
        if kind = .bracket then byteOf o.step else 0xFF#8, byteOf o.interval, byteOf o.between,
        byteOf o.focusFirst] := by
  have between : o.between ≤ 1 := by
    by_contra more
    exact good 7 (.inr (.inr (.inr (.inr (.inr (.inl ⟨rfl, by omega⟩))))))
  have focusFirst : o.focusFirst ≤ 1 := by
    by_contra more
    exact good 8 (.inr (.inr (.inr (.inr (.inr (.inr ⟨rfl, by omega⟩))))))
  simp only [programBytes, programOf, putFlag_operand between, putFlag_operand focusFirst, code]
  split <;> rfl

/-- Settles O37: the index, the presence, the first bad field by its number, and the descriptor written. -/
theorem programSetTaken : Obligations.ProgramSetTaken := by
  intro tag o s t reaches
  have asked : exec (.programSet tag o) s = .next (t.programSet tag o) :=
    congrArg Host.Outcome.next (State.onRequest_reaches reaches _)
  dsimp only
  rw [asked]
  refine ⟨fun beyond => ?_, fun index odd => ?_, fun index absent => ?_, fun index present => ⟨fun k bad first => ?_,
    fun good kind code => ?_⟩⟩
  · rw [State.programSet, if_pos beyond]
    rfl
  · rw [State.programSet, if_neg (Nat.not_lt.mpr index), if_pos odd]
    rfl
  · rw [State.programSet, if_neg (Nat.not_lt.mpr index), absent]
    rfl
  · have taken := takeProgram_bad (o := o) ⟨bad, first⟩
    rw [State.programSet, if_neg (Nat.not_lt.mpr index), present]
    simp only [taken]
    rfl
  · have taken := takeProgram_good good code
    have bytes := programBytes_taken good code
    rw [State.programSet, if_neg (Nat.not_lt.mpr index), present]
    simp only [taken, State.writeProgram, bytes]
    rfl

/-! ## CONTEXT-SET and CONTEXT-READ (R133, R134) -/

theorem contextKindOf_none {code : Nat} (beyond : 2 < code) : contextKindOf code = none := by
  unfold contextKindOf
  split <;> first | omega | rfl

theorem contextKindOf_isNone (code : Nat) : (contextKindOf code).isNone = decide (2 < code) := by
  rcases Nat.lt_or_ge 2 code with beyond | within
  · simp [contextKindOf_none beyond, beyond]
  · interval_cases code <;> rfl

theorem meterModeOf_isNone (code : Nat) : (meterModeOf code).isNone = decide (3 < code) := by
  rcases Nat.lt_or_ge 3 code with beyond | within
  · simp [meterModeOf_none beyond, beyond]
  · interval_cases code <;> rfl

theorem roundingOf_isNone (code : Nat) : (roundingOf code).isNone = decide (3 < code) := by
  rcases Nat.lt_or_ge 3 code with beyond | within
  · simp [roundingOf_none beyond, beyond]
  · interval_cases code <;> rfl

theorem focusConditionOf_isNone (code : Nat) : (focusConditionOf code).isNone = decide (1 < code) := by
  rcases Nat.lt_or_ge 1 code with beyond | within
  · simp [focusConditionOf_none beyond, beyond]
  · interval_cases code <;> rfl

theorem spanOf_isNone (code : Nat) : (spanOf code).isNone = decide (1 < code) := by
  rcases Nat.lt_or_ge 1 code with beyond | within
  · simp [spanOf_none beyond, beyond]
  · interval_cases code <;> rfl

theorem holdModeOf_isNone (code : Nat) : (holdModeOf code).isNone = decide (1 < code) := by
  rcases Nat.lt_or_ge 1 code with beyond | within
  · simp [holdModeOf_none beyond, beyond]
  · interval_cases code <;> rfl

theorem steadyModeOf_none {code : Nat} (beyond : 2 < code) : steadyModeOf code = none := by
  unfold steadyModeOf
  split <;> first | omega | rfl

theorem steadyModeOf_isNone (code : Nat) : (steadyModeOf code).isNone = decide (2 < code) := by
  rcases Nat.lt_or_ge 2 code with beyond | within
  · simp [steadyModeOf_none beyond, beyond]
  · interval_cases code <;> rfl

theorem contextKindOf_code (k : ContextKind) : contextKindOf (contextKindCode k) = some k := by cases k <;> rfl

theorem steadyModeOf_code (m : SteadyMode) : steadyModeOf (steadyModeCode m) = some m := by cases m <;> rfl

/-- The first bad code of a CONTEXT-SET by its detail. -/
theorem contextCodeFault_eq (o : ContextOperands) :
    contextCodeFault o =
      if 2 < o.kind then some 16
      else if 3 < o.meter.mode then some 33
      else if 3 < o.meter.rounding then some 39
      else if 1 < o.af.condition then some 51
      else if 1 < o.af.span then some 56
      else if 1 < o.af.hold then some 57
      else if 2 < o.mode then some 65
      else none := by
  simp only [contextCodeFault, contextKindOf_isNone, meterModeOf_isNone, roundingOf_isNone, focusConditionOf_isNone,
    spanOf_isNone, holdModeOf_isNone, steadyModeOf_isNone, decide_eq_true_eq]

/-- A slot that may be written: EMPTY or AVAILABLE. -/
theorem slotFault_open {t : State} {o : ContextOperands} (slot : o.slot ≤ 3)
    (free : (t.slot o.slot).status = .empty ∨ (t.slot o.slot).status = .available) :
    t.slotFault o = (contextCodeFault o).map fun detail => (.field, detail) := by
  rw [State.slotFault, if_neg (Nat.not_lt.mpr slot)]
  obtain free | free := free <;> simp only [free]

theorem contextSet_refused {t : State} {o : ContextOperands} {code : Code} {detail : Nat}
    (fault : t.slotFault o = some (code, detail)) (tag : Nat) :
    t.contextSet tag o = t.reply tag (.refused code detail) := by
  rw [State.contextSet, fault]
  rfl

/-- A bad code of a slot that may be written. -/
theorem contextSet_badCode {t : State} {o : ContextOperands} {detail : Nat} (slot : o.slot ≤ 3)
    (free : (t.slot o.slot).status = .empty ∨ (t.slot o.slot).status = .available)
    (bad : contextCodeFault o = some detail) (tag : Nat) :
    t.contextSet tag o = t.reply tag (.refused .field detail) :=
  contextSet_refused (by rw [slotFault_open slot free, bad]; rfl) tag

theorem contextKindCode_le (k : ContextKind) : contextKindCode k ≤ 2 := by cases k <;> decide
theorem meterModeCode_le (m : MeterMode) : meterModeCode m ≤ 3 := by cases m <;> decide
theorem roundingCode_le (r : Rounding) : roundingCode r ≤ 3 := by cases r <;> decide
theorem focusConditionCode_le (c : FocusCondition) : focusConditionCode c ≤ 1 := by cases c <;> decide
theorem spanCode_le (s : Span) : spanCode s ≤ 1 := by cases s <;> decide
theorem holdModeCode_le (h : HoldMode) : holdModeCode h ≤ 1 := by cases h <;> decide
theorem steadyModeCode_le (m : SteadyMode) : steadyModeCode m ≤ 2 := by cases m <;> decide

/-- The head of a slot that is not EMPTY. -/
theorem putSlotHead_full {c : Slot} (full : c.status ≠ .empty) :
    putSlotHead c = put1 (slotStatusCode c.status) ++ put1 (contextKindCode c.kind) ++ putOption1 c.link := by
  rw [putSlotHead, if_neg full]

/-- Settles O39: the slot's state, the first bad code by its detail, the slot written; and the slot read. -/
theorem contextSlots : Obligations.ContextSlots := by
  refine ⟨fun tag o s t reaches => ?_, fun tag slot s t reaches => ?_⟩
  · have asked : exec (.contextSet tag o) s = .next (t.contextSet tag o) :=
      congrArg Host.Outcome.next (State.onRequest_reaches reaches _)
    dsimp only
    rw [asked]
    refine ⟨fun beyond => ?_, fun slot active => ?_, fun slot nested => ?_, fun slot free => ⟨fun kind => ?_,
      fun kind mode => ?_, fun kind mode rounding => ?_, fun kind mode rounding => ⟨fun condition => ?_,
        fun condition span => ?_, fun condition span hold => ?_⟩,
      fun kind mode rounding condition span hold isKind isMode isRounding isCondition isSpan isHold =>
        ⟨fun steady => ?_, fun steady isSteady => ?_⟩⟩⟩
    · exact congrArg Host.Outcome.next (contextSet_refused (if_pos beyond) tag)
    · refine congrArg Host.Outcome.next (contextSet_refused ?_ tag)
      rw [State.slotFault, if_neg (Nat.not_lt.mpr slot), active]
    · refine congrArg Host.Outcome.next (contextSet_refused ?_ tag)
      rw [State.slotFault, if_neg (Nat.not_lt.mpr slot), nested]
    · refine congrArg Host.Outcome.next (contextSet_badCode slot free ?_ tag)
      rw [contextCodeFault_eq, if_pos kind]
    · refine congrArg Host.Outcome.next (contextSet_badCode slot free ?_ tag)
      rw [contextCodeFault_eq, if_neg (Nat.not_lt.mpr kind), if_pos mode]
    · refine congrArg Host.Outcome.next (contextSet_badCode slot free ?_ tag)
      rw [contextCodeFault_eq, if_neg (Nat.not_lt.mpr kind), if_neg (Nat.not_lt.mpr mode), if_pos rounding]
    · refine congrArg Host.Outcome.next (contextSet_badCode slot free ?_ tag)
      rw [contextCodeFault_eq, if_neg (Nat.not_lt.mpr kind), if_neg (Nat.not_lt.mpr mode),
        if_neg (Nat.not_lt.mpr rounding), if_pos condition]
    · refine congrArg Host.Outcome.next (contextSet_badCode slot free ?_ tag)
      rw [contextCodeFault_eq, if_neg (Nat.not_lt.mpr kind), if_neg (Nat.not_lt.mpr mode),
        if_neg (Nat.not_lt.mpr rounding), if_neg (Nat.not_lt.mpr condition), if_pos span]
    · refine congrArg Host.Outcome.next (contextSet_badCode slot free ?_ tag)
      rw [contextCodeFault_eq, if_neg (Nat.not_lt.mpr kind), if_neg (Nat.not_lt.mpr mode),
        if_neg (Nat.not_lt.mpr rounding), if_neg (Nat.not_lt.mpr condition), if_neg (Nat.not_lt.mpr span), if_pos hold]
    · refine congrArg Host.Outcome.next (contextSet_badCode slot free ?_ tag)
      rw [contextCodeFault_eq, ← isKind, ← isMode, ← isRounding, ← isCondition, ← isSpan, ← isHold,
        if_neg (Nat.not_lt.mpr (contextKindCode_le _)), if_neg (Nat.not_lt.mpr (meterModeCode_le _)),
        if_neg (Nat.not_lt.mpr (roundingCode_le _)), if_neg (Nat.not_lt.mpr (focusConditionCode_le _)),
        if_neg (Nat.not_lt.mpr (spanCode_le _)), if_neg (Nat.not_lt.mpr (holdModeCode_le _)), if_pos steady]
    · have good : t.slotFault o = none := by
        rw [slotFault_open slot free, contextCodeFault_eq, ← isKind, ← isMode, ← isRounding, ← isCondition, ← isSpan,
          ← isHold, ← isSteady, if_neg (Nat.not_lt.mpr (contextKindCode_le _)),
          if_neg (Nat.not_lt.mpr (meterModeCode_le _)), if_neg (Nat.not_lt.mpr (roundingCode_le _)),
          if_neg (Nat.not_lt.mpr (focusConditionCode_le _)), if_neg (Nat.not_lt.mpr (spanCode_le _)),
          if_neg (Nat.not_lt.mpr (holdModeCode_le _)), if_neg (Nat.not_lt.mpr (steadyModeCode_le _))]
        rfl
      have brought : bringContext o t.otb.glob.tvMaxElectronic =
          { status := .available, kind := kind, link := none, zoomStep := min 2600 o.zoomStep, d := min 1024 o.d,
            x := o.x.map fun x => max (-160) (min 638 x),
            meter := bringMeter o.meter mode rounding t.otb.glob.tvMaxElectronic,
            af := bringAf o.af condition span hold, mode := steady, leak := max 8 (min 14 o.leak),
            interval := o.interval.map (bringInterval .zoom) } := by
        simp only [bringContext, ← isKind, ← isMode, ← isRounding, ← isCondition, ← isSpan, ← isHold, ← isSteady,
          contextKindOf_code, meterModeOf_code, roundingOf_code, focusConditionOf_code, spanOf_code, holdModeOf_code,
          steadyModeOf_code, Option.getD_some]
        rfl
      simp only [State.contextSet, good, brought]
      rfl
  · have asked : exec (.contextRead tag slot) s = .next (t.contextRead tag slot) :=
      congrArg Host.Outcome.next (State.onRequest_reaches reaches _)
    dsimp only
    rw [asked]
    refine ⟨fun beyond => ?_, fun within => ?_⟩
    · rw [State.contextRead, if_pos beyond]
      rfl
    · have read : t.contextRead tag slot = t.reply tag (.done (t.contextBytes slot)) := if_neg (Nat.not_lt.mpr within)
      rw [read]
      refine ⟨fun empty => ?_, fun kept => ?_, fun active => ?_⟩
      · simp only [State.contextBytes, empty, if_true]
        rfl
      · have idle : (t.slot slot).status ≠ .active := by obtain kept | kept := kept <;> rw [kept] <;> decide
        have full : (t.slot slot).status ≠ .empty := by obtain kept | kept := kept <;> rw [kept] <;> decide
        simp only [State.contextBytes, if_neg idle, if_neg full, putSlotHead_full full]
        rfl
      · have full : (t.slot slot).status ≠ .empty := by rw [active]; decide
        simp only [State.contextBytes, if_pos active, if_neg full, putSlotHead_full full]
        rfl

end Sys2Proof.Proofs.Programs
end

section
/-! PROOFS. The optics table: TABLE-LOAD and TABLE-COMMIT (R39 to R45, R53, R68, R72). -/

namespace Sys2Proof.Proofs.Optics
open Sys2Proof Sys2Proof.Machine Sys2Proof.Proofs.Programs

-- one declaration after another: each unfolds operations whose equations another would be waiting for
set_option Elab.async false

/-! ## Checks that name the first of several faults -/

/-- What a check finds is the first fault, or there is none. -/
def Judged (bad : Nat → Prop) : Option Nat → Prop
  | some k => IsFirst bad k
  | none => ∀ k, ¬ bad k

theorem judged_first {bad : Nat → Prop} {found : Option Nat} (judged : Judged bad found) {k : Nat}
    (first : IsFirst bad k) : found = some k := by
  cases found with
  | none => exact absurd first.1 (judged k)
  | some j => rw [isFirst_unique first judged]

theorem judged_none {bad : Nat → Prop} {found : Option Nat} (judged : Judged bad found) (good : ∀ k, ¬ bad k) :
    found = none := by
  cases found with
  | none => rfl
  | some j => exact absurd judged.1 (good j)

theorem Judged.congr {p q : Nat → Prop} {found : Option Nat} (judged : Judged p found) (same : ∀ k, p k ↔ q k) :
    Judged q found :=
  (funext fun k => propext (same k) : p = q) ▸ judged

/-! ## The fields of a TABLE-LOAD (R39, R41) -/

def NodeBad (f : NodeFields) (k : Nat) : Prop :=
  (k = 1 ∧ 2600 < f.zoomStep) ∨ (k = 2 ∧ (f.focal < 1 ∨ 65535 < f.focal)) ∨
  (k = 3 ∧ (f.equiv < 1 ∨ 9999 < f.equiv)) ∨ (k = 4 ∧ (f.avOpen < 32 ∨ 255 < f.avOpen)) ∨
  (k = 5 ∧ 1600 < f.fInf) ∨ (k = 6 ∧ 1600 < f.fNear) ∨ (k = 7 ∧ 16777215 < f.gain)

def GlobalBad (f : GlobalFields) (k : Nat) : Prop :=
  (k = 1 ∧ (f.avCap < 32 ∨ 255 < f.avCap)) ∨ (k = 2 ∧ (f.tvMaxElectronic < 160 ∨ 383 < f.tvMaxElectronic)) ∨
  (k = 3 ∧ (f.tvMaxMechanical < 160 ∨ 383 < f.tvMaxMechanical ∨ f.tvMaxElectronic < f.tvMaxMechanical)) ∨
  (k = 4 ∧ (f.stroke < 500 ∨ 4000 < f.stroke)) ∨ (k = 5 ∧ (f.follow < 4 ∨ 64 < f.follow))

/-- A field lies outside its range, by its number, the fields numbered from `n`. -/
def Outside (n : Nat) : List (Nat × Nat × Nat) → Nat → Prop
  | [], _ => False
  | (lo, hi, v) :: rest, k => (k = n ∧ (v < lo ∨ hi < v)) ∨ Outside (n + 1) rest k

theorem Outside.le {fields : List (Nat × Nat × Nat)} {n k : Nat} (outside : Outside n fields k) : n ≤ k := by
  induction fields generalizing n with
  | nil => exact outside.elim
  | cons field rest ih =>
    rcases outside with ⟨rfl, -⟩ | later
    · exact le_refl _
    · exact Nat.le_of_succ_le (ih later)

theorem firstOutside_judged (fields : List (Nat × Nat × Nat)) (n : Nat) :
    Judged (Outside n fields) (firstOutside n fields) := by
  induction fields generalizing n with
  | nil => exact fun _ => id
  | cons field rest ih =>
    obtain ⟨lo, hi, v⟩ := field
    rw [firstOutside]
    split
    · next bad =>
      refine ⟨.inl ⟨rfl, bad⟩, fun j less outside => ?_⟩
      exact absurd outside.le (Nat.not_le_of_lt less)
    next good =>
    have later : Outside n ((lo, hi, v) :: rest) = Outside (n + 1) rest := by
      funext k
      simp [Outside, good]
    rw [later]
    exact ih (n + 1)

theorem nodeFault_judged (f : NodeFields) : Judged (NodeBad f) (nodeFault f) :=
  (firstOutside_judged _ 1).congr fun k => by simp [NodeBad, Outside]

theorem globalFault_judged (f : GlobalFields) : Judged (GlobalBad f) (globalFault f) :=
  (firstOutside_judged _ 1).congr fun k => by simp [GlobalBad, Outside]

/-! ## The busy conditions (R42) -/

/-- An axis that neither rests nor is held. -/
def Moves (r : AxisRec) : Prop :=
  r.state = .energizing ∨ r.state = .awaitingSlot ∨ r.state = .moving ∨ r.state = .homing ∨ r.state = .settling

theorem busy_iff (r : AxisRec) : r.busy = true ↔ Moves r := by
  unfold AxisRec.busy AxisRec.atRest Moves
  cases r.state <;> simp

/-- An operation that reads the table stands in the operation table. -/
def ReadsTable (t : State) : Prop :=
  ∃ e ∈ t.opt.table, e.kind = .zoom ∨ e.kind = .scan ∨ e.kind = .switch ∨ e.kind = .enter ∨ e.kind = .leave

theorem hasKind_iff (t : State) (k : OpKind) : t.hasKind k = true ↔ ∃ e ∈ t.opt.table, e.kind = k := by
  simp [State.hasKind]

theorem readsTable_iff (t : State) :
    (t.hasKind .zoom || t.hasKind .scan || t.hasKind .switch || t.hasKind .enter || t.hasKind .leave) = true ↔
      ReadsTable t := by
  simp only [Bool.or_eq_true, hasKind_iff, ReadsTable, and_or_left, exists_or, or_assoc]

def TableBusy (t : State) (d : Nat) : Prop :=
  (d = 0 ∧ Moves t.ldu.zoom) ∨ (d = 1 ∧ Moves t.ldu.focus) ∨ (d = 2 ∧ Moves t.ldu.iris) ∨
  (d = 3 ∧ t.csq.state ≠ .idle) ∨ (d = 4 ∧ ReadsTable t)

theorem tableBusy_judged (t : State) : Judged (TableBusy t) t.tableBusy := by
  have zoom := busy_iff t.ldu.zoom
  have focus := busy_iff t.ldu.focus
  have iris := busy_iff t.ldu.iris
  have reads := readsTable_iff t
  unfold State.tableBusy
  split
  · exact ⟨.inl ⟨rfl, by grind⟩, fun j less => by unfold TableBusy; grind⟩
  split
  · exact ⟨.inr (.inl ⟨rfl, by grind⟩), fun j less => by unfold TableBusy; grind⟩
  split
  · exact ⟨.inr (.inr (.inl ⟨rfl, by grind⟩)), fun j less => by unfold TableBusy; grind⟩
  split
  · exact ⟨.inr (.inr (.inr (.inl ⟨rfl, by grind⟩))), fun j less => by unfold TableBusy; grind⟩
  split
  · exact ⟨.inr (.inr (.inr (.inr ⟨rfl, by grind⟩))), fun j less => by unfold TableBusy; grind⟩
  exact fun k => by unfold TableBusy; grind

/-! ## TABLE-LOAD (R40, R45) -/

/-- A steadying axis with its angle and shift target at 0 (R53, R120). -/
def stillAxis (x : SteadyAxis) : SteadyAxis := { x with theta := 0, target := 0, saturated := 0 }

/-- Where the stage steadies it is centred when lens geometry goes. -/
theorem centreStu_eq (v : State) :
    v.centreStu =
      if v.stu.state = .active ∨ v.stu.state = .panning then
        { v with stu := { v.stu with yaw := stillAxis v.stu.yaw, pitch := stillAxis v.stu.pitch } }
      else v := by
  rw [State.centreStu]
  cases state : v.stu.state <;> rfl

theorem geometryLost_otb (v : State) : v.geometryLost.otb = v.otb := by simp

/-- The table after a part is written. -/
def written (o : Otb) (selector : Nat) : TableFields → Otb
  | .node f => { o with state := .staged, nodes := o.nodes.set selector { written := true, fields := f } }
  | .global f => { o with state := .staged, glob := f }

theorem writeTable_eq (t : State) (selector : Nat) (fields : TableFields) :
    t.writeTable selector fields =
      if t.otb.state = .valid then State.geometryLost { t with otb := written t.otb selector fields }
      else { t with otb := written t.otb selector fields } := by
  cases fields <;> rfl

theorem written_state (o : Otb) (selector : Nat) (fields : TableFields) :
    (written o selector fields).state = .staged := by
  cases fields <;> rfl

theorem tableLoad_refused {t : State} {selector : Nat} {fields : TableFields} {code : Code} {detail : Nat}
    (fault : t.loadFault selector fields = some (code, detail)) (tag : Nat) :
    t.tableLoad tag selector fields = t.reply tag (.refused code detail) := by
  rw [State.tableLoad, fault]
  rfl

/-- An accepted TABLE-LOAD. -/
theorem tableLoad_taken {t : State} {selector : Nat} {fields : TableFields}
    (fault : t.loadFault selector fields = none) (tag : Nat) :
    t.tableLoad tag selector fields =
      (if t.otb.state = .valid then State.geometryLost { t with otb := written t.otb selector fields }
        else { t with otb := written t.otb selector fields }).reply tag (.done [byteOf selector, 1#8]) := by
  have staged : (t.writeTable selector fields).otb.state = .staged := by
    rw [writeTable_eq]
    split
    · rw [geometryLost_otb]; exact written_state _ _ _
    · exact written_state _ _ _
  rw [State.tableLoad, fault]
  simp only [staged]
  rw [writeTable_eq]
  rfl

section
variable {t : State} {selector : Nat} {fields : TableFields} {bad : Nat → Prop} (small : ¬ 16 < selector)
  (suits : tableSuits fields selector = true) (judged : Judged bad (tableOutside fields))
include small suits judged

theorem loadFault_field {k : Nat} (first : IsFirst bad k) : t.loadFault selector fields = some (.field, k) := by
  rw [State.loadFault, if_neg small, suits, judged_first judged first]
  rfl

theorem loadFault_busy (good : ∀ k, ¬ bad k) {d : Nat} (first : IsFirst (TableBusy t) d) :
    t.loadFault selector fields = some (.busy, d) := by
  rw [State.loadFault, if_neg small, suits, judged_none judged good, judged_first (tableBusy_judged t) first]
  rfl

theorem loadFault_none (good : ∀ k, ¬ bad k) (idle : ∀ d, ¬ TableBusy t d) : t.loadFault selector fields = none := by
  rw [State.loadFault, if_neg small, suits, judged_none judged good, judged_none (tableBusy_judged t) idle]
  rfl

end

/-- Settles O22: the selector, the form, the first bad field, the first busy condition, and the part written. -/
theorem tableLoadTaken : Obligations.TableLoadTaken := by
  intro tag selector s t fields reaches
  have asked : exec (.tableLoad tag selector fields) s = .next (t.tableLoad tag selector fields) :=
    congrArg Host.Outcome.next (State.onRequest_reaches reaches _)
  dsimp only
  rw [asked]
  have judges {bad : Nat → Prop} {o : Otb} (small : ¬ 16 < selector) (suits : tableSuits fields selector = true)
      (judged : Judged bad (tableOutside fields)) (writes : written t.otb selector fields = o) :
      (∀ k, bad k → (∀ j, j < k → ¬ bad j) →
        Host.Outcome.next (t.tableLoad tag selector fields) =
          (.next (t.reply tag (.refused .field k)) : Result)) ∧
      ((∀ k, ¬ bad k) →
        (∀ d, TableBusy t d → (∀ j, j < d → ¬ TableBusy t j) →
          Host.Outcome.next (t.tableLoad tag selector fields) =
            (.next (t.reply tag (.refused .busy d)) : Result)) ∧
        ((∀ d, ¬ TableBusy t d) →
          Host.Outcome.next (t.tableLoad tag selector fields) =
            (.next ((if t.otb.state = .valid then State.centreStu (State.excLost { t with otb := o })
              else { t with otb := o }).reply tag (.done [byteOf selector, 1#8])) : Result))) := by
    subst writes
    refine ⟨fun k here first => ?_, fun good => ⟨fun d here first => ?_, fun idle => ?_⟩⟩
    · rw [tableLoad_refused (loadFault_field small suits judged ⟨here, first⟩)]
    · rw [tableLoad_refused (loadFault_busy small suits judged good ⟨here, first⟩)]
    · rw [tableLoad_taken (loadFault_none small suits judged good idle)]
      rfl
  refine ⟨fun beyond => ?_, fun f node global => ?_, fun f global node => ?_, fun f node small => ?_,
    fun f global last => ?_⟩
  · rw [tableLoad_refused (if_pos beyond)]
  · subst node global
    rw [tableLoad_refused (code := .length) (detail := 17) rfl]
  · subst global
    have suits : tableSuits (.global f) selector = false := by
      simp only [tableSuits, beq_eq_false_iff_ne]
      omega
    rw [tableLoad_refused (code := .length) (detail := 11)
      (by rw [State.loadFault, if_neg (by omega), suits]; rfl)]
  · subst node
    have suits : tableSuits (.node f) selector = true := by simpa [tableSuits] using small
    have all := judges (o := written t.otb selector (.node f)) (by omega) suits (nodeFault_judged f) rfl
    rw [centreStu_eq] at all
    exact all
  · subst global last
    have all := judges (o := written t.otb 16 (.global f)) (by omega) rfl (globalFault_judged f) rfl
    rw [centreStu_eq] at all
    exact all

/-! ## TABLE-COMMIT (R43, R44, R72) -/

/-- The later of two neighbouring nodes fails a check; `k` is the number of the second node of the list. -/
def LaterFrom (bad : NodeFields → NodeFields → Prop) (k : Nat) (nodes : List Node) (i : Nat) : Prop :=
  ∃ j a b, i = j + k ∧ nodes[j]? = some a ∧ nodes[j + 1]? = some b ∧ bad a.fields b.fields

theorem laterFrom_cons (bad : NodeFields → NodeFields → Prop) (k : Nat) (a b : Node) (rest : List Node) (i : Nat) :
    LaterFrom bad k (a :: b :: rest) i ↔
      (i = k ∧ bad a.fields b.fields) ∨ LaterFrom bad (k + 1) (b :: rest) i := by
  constructor
  · rintro ⟨j, x, y, at_, first, second, fails⟩
    cases j with
    | zero =>
      cases first
      cases second
      exact .inl ⟨by omega, fails⟩
    | succ j => exact .inr ⟨j, x, y, by omega, first, second, fails⟩
  · rintro (⟨rfl, fails⟩ | ⟨j, x, y, at_, first, second, fails⟩)
    · exact ⟨0, a, b, by omega, rfl, rfl, fails⟩
    · exact ⟨j + 1, x, y, by omega, first, second, fails⟩

theorem laterFrom_le {bad : NodeFields → NodeFields → Prop} {k : Nat} {nodes : List Node} {i : Nat}
    (later : LaterFrom bad k nodes i) : k ≤ i := by
  obtain ⟨j, _, _, at_, -⟩ := later
  omega

/-- The neighbours of a list of fewer than two nodes. -/
theorem laterFrom_short {bad : NodeFields → NodeFields → Prop} {k : Nat} {nodes : List Node} (short : nodes.length < 2)
    (i : Nat) : ¬ LaterFrom bad k nodes i := by
  rintro ⟨j, a, b, -, -, second, -⟩
  have within := (List.getElem?_eq_some_iff.mp second).1
  omega

theorem firstPair_judged (bad : NodeFields → NodeFields → Bool) :
    ∀ (nodes : List Node) (k : Nat), Judged (LaterFrom (fun a b => bad a b = true) k nodes) (firstPair bad k nodes)
  | [], k => laterFrom_short (Nat.zero_lt_two)
  | [a], k => laterFrom_short (Nat.one_lt_two)
  | a :: b :: rest, k => by
    have rests := firstPair_judged bad (b :: rest) (k + 1)
    unfold firstPair
    split
    · next fails =>
      refine ⟨(laterFrom_cons _ _ _ _ _ _).mpr (.inl ⟨rfl, fails⟩), fun j less later => ?_⟩
      have := laterFrom_le later
      omega
    · next passes =>
      cases found : firstPair bad (k + 1) (b :: rest) with
      | none =>
        rw [found] at rests
        intro i later
        obtain ⟨-, fails⟩ | later := (laterFrom_cons _ _ _ _ _ _).mp later
        · exact passes fails
        · exact rests i later
      | some i =>
        rw [found] at rests
        refine ⟨(laterFrom_cons _ _ _ _ _ _).mpr (.inr rests.1), fun j less later => ?_⟩
        obtain ⟨-, fails⟩ | later := (laterFrom_cons _ _ _ _ _ _).mp later
        · exact passes fails
        · exact rests.2 j less later

/-- A node fails a check of its own. -/
def NodeFails (bad : Node → Prop) (nodes : List Node) (i : Nat) : Prop := ∃ n, nodes[i]? = some n ∧ bad n

theorem findIdx_judged (bad : Node → Bool) (nodes : List Node) :
    Judged (NodeFails (fun n => bad n = true) nodes) (nodes.findIdx? bad) := by
  cases found : nodes.findIdx? bad with
  | none =>
    rintro i ⟨n, at_, fails⟩
    have passes := List.findIdx?_eq_none_iff.mp found n (List.mem_of_getElem? at_)
    rw [passes] at fails
    exact Bool.false_ne_true fails
  | some i =>
    obtain ⟨within, fails, passes⟩ := List.findIdx?_eq_some_iff_getElem.mp found
    refine ⟨⟨_, List.getElem?_eq_getElem within, fails⟩, ?_⟩
    rintro j less ⟨n, at_, bad⟩
    rw [List.getElem?_eq_getElem (Nat.lt_trans less within)] at at_
    cases at_
    exact absurd bad (passes j less)

/-- A check of a TABLE-COMMIT fails at a node, by the check's number (R43). -/
def CommitFails (o : Otb) (check i : Nat) : Prop :=
  (check = 1 ∧ NodeFails (fun n => (!n.written) = true) o.nodes i) ∨
  (check = 2 ∧ LaterFrom (fun a b => decide (b.zoomStep ≤ a.zoomStep) = true) 1 o.nodes i) ∨
  (check = 3 ∧
    LaterFrom (fun a b => (decide (b.focal < a.focal) || decide (b.equiv < a.equiv)) = true) 1 o.nodes i) ∨
  (check = 4 ∧ NodeFails (fun n => decide (o.glob.avCap < n.fields.avOpen) = true) o.nodes i)

/-- The first check that fails, at its first node. -/
def FirstFailure (o : Otb) (check i : Nat) : Prop :=
  CommitFails o check i ∧ (∀ k j, k < check → ¬ CommitFails o k j) ∧ ∀ j, j < i → ¬ CommitFails o check j

theorem firstFailure_unique {o : Otb} {check i k j : Nat} (one : FirstFailure o check i) (other : FirstFailure o k j) :
    check = k ∧ i = j := by
  have same : check = k := by
    rcases Nat.lt_trichotomy check k with less | same | more
    · exact absurd one.1 (other.2.1 _ _ less)
    · exact same
    · exact absurd other.1 (one.2.1 _ _ more)
  subst same
  exact ⟨rfl, isFirst_unique ⟨one.1, one.2.2⟩ ⟨other.1, other.2.2⟩⟩

/-- What the checks of a TABLE-COMMIT find. -/
def JudgedCommit (o : Otb) : Option Nat → Prop
  | some detail => ∃ check i, detail = 16 * check + i ∧ FirstFailure o check i
  | none => ∀ check i, ¬ CommitFails o check i

theorem commitFault_judged (s : State) : JudgedCommit s.otb s.commitFault := by
  have one := findIdx_judged (fun n => !n.written) s.otb.nodes
  have two := firstPair_judged (fun a b => decide (b.zoomStep ≤ a.zoomStep)) s.otb.nodes 1
  have three := firstPair_judged (fun a b => decide (b.focal < a.focal) || decide (b.equiv < a.equiv)) s.otb.nodes 1
  have four := findIdx_judged (fun n => decide (s.otb.glob.avCap < n.fields.avOpen)) s.otb.nodes
  unfold State.commitFault
  cases first : s.otb.nodes.findIdx? (fun n => !n.written) with
  | some i =>
    rw [first] at one
    refine ⟨1, i, rfl, .inl ⟨rfl, one.1⟩, fun k j less => ?_, fun j less => ?_⟩
    · unfold CommitFails; omega
    · have passes := one.2 j less
      unfold CommitFails
      grind
  | none =>
  rw [first] at one
  cases second : firstPair (fun a b => decide (b.zoomStep ≤ a.zoomStep)) 1 s.otb.nodes with
  | some i =>
    rw [second] at two
    refine ⟨2, i, rfl, .inr (.inl ⟨rfl, two.1⟩), fun k j less => ?_, fun j less => ?_⟩
    · have passes := one j
      unfold CommitFails
      grind
    · have passes := two.2 j less
      unfold CommitFails
      grind
  | none =>
  rw [second] at two
  cases third : firstPair (fun a b => decide (b.focal < a.focal) || decide (b.equiv < a.equiv)) 1 s.otb.nodes with
  | some i =>
    rw [third] at three
    refine ⟨3, i, rfl, .inr (.inr (.inl ⟨rfl, three.1⟩)), fun k j less => ?_, fun j less => ?_⟩
    · have passes := And.intro (one j) (two j)
      unfold CommitFails
      grind
    · have passes := three.2 j less
      unfold CommitFails
      grind
  | none =>
  rw [third] at three
  cases fourth : s.otb.nodes.findIdx? (fun n => decide (s.otb.glob.avCap < n.fields.avOpen)) with
  | some i =>
    rw [fourth] at four
    refine ⟨4, i, rfl, .inr (.inr (.inr ⟨rfl, four.1⟩)), fun k j less => ?_, fun j less => ?_⟩
    · have passes := And.intro (one j) (And.intro (two j) (three j))
      unfold CommitFails
      grind
    · have passes := four.2 j less
      unfold CommitFails
      grind
  | none =>
    rw [fourth] at four
    intro check i
    have passes := And.intro (one i) (And.intro (two i) (And.intro (three i) (four i)))
    unfold CommitFails
    grind

theorem commitFault_first {s : State} {check i : Nat} (first : FirstFailure s.otb check i) :
    s.commitFault = some (16 * check + i) := by
  have judged := commitFault_judged s
  cases found : s.commitFault with
  | none =>
    rw [found] at judged
    exact absurd first.1 (judged _ _)
  | some detail =>
    rw [found] at judged
    obtain ⟨k, j, rfl, other⟩ := judged
    obtain ⟨rfl, rfl⟩ := firstFailure_unique first other
    rfl

theorem commitFault_none_iff (s : State) : s.commitFault = none ↔ ∀ check i, ¬ CommitFails s.otb check i := by
  have judged := commitFault_judged s
  cases found : s.commitFault with
  | none =>
    rw [found] at judged
    exact ⟨fun _ => judged, fun _ => rfl⟩
  | some detail =>
    rw [found] at judged
    obtain ⟨k, j, -, first⟩ := judged
    exact ⟨fun none => absurd none (Option.some_ne_none _), fun passes => absurd first.1 (passes k j)⟩

/-- The four checks of R43, as they read. -/
def CommitPasses (o : Otb) : Prop :=
  (∀ n ∈ o.nodes, n.written = true ∧ n.fields.avOpen ≤ o.glob.avCap) ∧
  ∀ (i : Nat) (a b : Node), o.nodes[i]? = some a → o.nodes[i + 1]? = some b →
    a.fields.zoomStep < b.fields.zoomStep ∧ a.fields.focal ≤ b.fields.focal ∧ a.fields.equiv ≤ b.fields.equiv

theorem commitPasses_iff (o : Otb) : (∀ check i, ¬ CommitFails o check i) ↔ CommitPasses o := by
  constructor
  · intro passes
    refine ⟨fun n member => ?_, fun i a b first second => ?_⟩
    · obtain ⟨i, at_⟩ := List.mem_iff_getElem?.mp member
      constructor
      · by_contra unwritten
        exact passes 1 i (.inl ⟨rfl, n, at_, by simpa using unwritten⟩)
      · by_contra above
        exact passes 4 i (.inr (.inr (.inr ⟨rfl, n, at_, by simpa using above⟩)))
    · refine ⟨?_, ?_, ?_⟩
      · by_contra falls
        exact passes 2 (i + 1) (.inr (.inl ⟨rfl, i, a, b, rfl, first, second, by simpa using falls⟩))
      · by_contra falls
        refine passes 3 (i + 1) (.inr (.inr (.inl ⟨rfl, i, a, b, rfl, first, second, ?_⟩)))
        simp only [Bool.or_eq_true, decide_eq_true_eq]
        omega
      · by_contra falls
        refine passes 3 (i + 1) (.inr (.inr (.inl ⟨rfl, i, a, b, rfl, first, second, ?_⟩)))
        simp only [Bool.or_eq_true, decide_eq_true_eq]
        omega
  · rintro ⟨nodes, pairs⟩ check i (⟨-, n, at_, fails⟩ | ⟨-, j, a, b, -, first, second, fails⟩ |
      ⟨-, j, a, b, -, first, second, fails⟩ | ⟨-, n, at_, fails⟩)
    · have := (nodes n (List.mem_of_getElem? at_)).1
      simp [this] at fails
    · have := pairs j a b first second
      simp only [decide_eq_true_eq] at fails
      omega
    · have := pairs j a b first second
      simp only [Bool.or_eq_true, decide_eq_true_eq] at fails
      omega
    · have := (nodes n (List.mem_of_getElem? at_)).2
      simp only [decide_eq_true_eq] at fails
      omega

/-- The failures of the checks, with their tests as propositions. -/
theorem commitFails_iff (o : Otb) (check i : Nat) :
    CommitFails o check i ↔
      (check = 1 ∧ ∃ n, o.nodes[i]? = some n ∧ n.written = false) ∨
      (check = 2 ∧ ∃ j a b, i = j + 1 ∧ o.nodes[j]? = some a ∧ o.nodes[i]? = some b ∧
        b.fields.zoomStep ≤ a.fields.zoomStep) ∨
      (check = 3 ∧ ∃ j a b, i = j + 1 ∧ o.nodes[j]? = some a ∧ o.nodes[i]? = some b ∧
        (b.fields.focal < a.fields.focal ∨ b.fields.equiv < a.fields.equiv)) ∨
      (check = 4 ∧ ∃ n, o.nodes[i]? = some n ∧ o.glob.avCap < n.fields.avOpen) := by
  have later (bad : NodeFields → NodeFields → Prop) :
      LaterFrom bad 1 o.nodes i ↔
        ∃ j a b, i = j + 1 ∧ o.nodes[j]? = some a ∧ o.nodes[i]? = some b ∧ bad a.fields b.fields := by
    constructor
    · rintro ⟨j, a, b, rfl, first, second, fails⟩
      exact ⟨j, a, b, rfl, first, second, fails⟩
    · rintro ⟨j, a, b, rfl, first, second, fails⟩
      exact ⟨j, a, b, rfl, first, second, fails⟩
  simp only [CommitFails, later, NodeFails, Bool.not_eq_true', Bool.or_eq_true, decide_eq_true_eq]

theorem tableCommit_asked {tag : Nat} {s t : State} (reaches : s.reaches (.tableCommit tag) tag t) :
    exec (.tableCommit tag) s = .next (t.tableCommit tag) :=
  congrArg Host.Outcome.next (State.onRequest_reaches reaches _)

/-- Settles O23: the first check that fails at its first node, and the table made VALID. -/
theorem tableCommitTaken : Obligations.TableCommitTaken := by
  refine ⟨fun s => (commitFault_none_iff s).trans (commitPasses_iff s.otb), fun tag s t reaches => ?_⟩
  dsimp only
  rw [tableCommit_asked reaches]
  refine ⟨fun check i fails before first => ?_, fun a head => ?_, fun a last => ?_, fun none valid => ?_,
    fun none other => ?_⟩
  · have fault := commitFault_first (s := t) (check := check) (i := i)
      ⟨(commitFails_iff _ _ _).mpr fails, fun k j less failing => before k j less ((commitFails_iff _ _ _).mp failing),
        fun j less failing => first j less ((commitFails_iff _ _ _).mp failing)⟩
    rw [State.tableCommit, fault]
    rfl
  · rw [State.wideEnd, head]
    rfl
  · rw [State.teleEnd, last]
    rfl
  · rw [State.tableCommit, none, if_pos valid]
    rfl
  · rw [State.tableCommit, none, if_neg other]
    rfl

end Sys2Proof.Proofs.Optics
end

section
/-! PROOFS. The requests that begin a lens operation, HOME, MOVE and PARK, and the timers of an axis that nothing
commands (R4, R21 to R26, R29, R32, R36). -/

namespace Sys2Proof.Proofs.LensRequests
open Sys2Proof Sys2Proof.Machine Sys2Proof.Proofs.Settings

-- one declaration after another: each unfolds operations whose equations another would be waiting for
set_option Elab.async false

/-! ## The timers of an axis (R21, R23) -/

theorem exec_settleTimeout {s : State} {a : Axis} (settling : (s.axis a).state = .settling)
    (timer : (s.axis a).timer.isSome = true) :
    exec (.settleTimeout a) s = .next ((s.setAxis a (s.axis a).hold).axisHeld a) :=
  congrArg Host.Outcome.next (if_pos ⟨settling, timer⟩)

/-- An axis that nothing owns becomes HELD without anyone hearing of it; the iris may stand at a pending target. -/
theorem axisHeld_free {s : State} {a : Axis} (free : (s.axis a).owner = none) (lens : a ≠ .iris) :
    s.axisHeld a = s := by
  simp only [State.axisHeld, free, lens, false_and, if_false]

/-- Settles O17: each timer is heard in its own state alone. -/
theorem axisTimersEnd : Obligations.AxisTimersEnd := by
  rintro a s r rfl
  refine ⟨fun settling timer free lens => ?_, fun held timer => ?_, fun other => ?_, fun other => ?_⟩
  · rw [exec_settleTimeout settling timer, axisHeld_free (by rw [State.axis_setAxis_same]; exact free) lens]
    rfl
  · exact congrArg Host.Outcome.next (if_pos ⟨held, timer⟩)
  · exact congrArg Host.Outcome.next (if_neg fun both => other both.1)
  · exact congrArg Host.Outcome.next (if_neg fun both => other both.1)

/-! ## The tracker's refusals (R4) -/

/-- The tag of an ENDING. -/
def endingTag : Notice → Option Nat
  | .ending e => some e.tag
  | _ => none

/-- The tag of an ENDING being sent. -/
def sentTag (s : State) : Option Nat :=
  match (s.lif.tx.map (·.item) : Option TxItem) with
  | some (.notice (.ending e)) => some e.tag
  | _ => none

theorem endingTags_eq (s : State) : s.endingTags = s.opt.outbox.filterMap endingTag ++ (sentTag s).toList := by
  refine congrArg₂ (· ++ ·) ?_ ?_
  · refine congrArg (s.opt.outbox.filterMap ·) (funext fun n => ?_)
    cases n <;> rfl
  · unfold sentTag
    cases s.lif.tx with
    | none => rfl
    | some x =>
      obtain ⟨item, bytes⟩ := x
      cases item with
      | notice n => cases n <;> rfl
      | reply r => rfl

theorem trackerRefusal_entry {s : State} {tag : Nat} (found : ∃ e ∈ s.opt.table, e.tag = tag) :
    s.trackerRefusal tag = some (.tagInUse, 0) := by
  obtain ⟨e, member, same⟩ := found
  have present : (s.entry tag).isSome = true := by
    simp only [State.entry, List.find?_isSome]
    exact ⟨e, member, by simpa using same⟩
  rw [State.trackerRefusal, if_pos present]

theorem entry_absent {s : State} {tag : Nat} (absent : ∀ e ∈ s.opt.table, e.tag ≠ tag) :
    ¬ (s.entry tag).isSome = true := by
  simpa [State.entry] using absent

theorem trackerRefusal_ending {s : State} {tag : Nat} (absent : ∀ e ∈ s.opt.table, e.tag ≠ tag)
    (ending : tag ∈ s.endingTags) : s.trackerRefusal tag = some (.tagInUse, 1) := by
  rw [State.trackerRefusal, if_neg (entry_absent absent), if_pos (List.contains_iff_mem.mpr ending)]

theorem trackerRefusal_full {s : State} {tag : Nat} (absent : ∀ e ∈ s.opt.table, e.tag ≠ tag)
    (sent : tag ∉ s.endingTags) (full : 8 ≤ s.opt.table.length + s.endingTags.length) :
    s.trackerRefusal tag = some (.tableFull, Config.tableFullDetail s.freeCount % 65536) := by
  have notEnding : ¬ s.endingTags.contains tag = true := fun contains => sent (List.contains_iff_mem.mp contains)
  rw [State.trackerRefusal, if_neg (entry_absent absent), if_neg notEnding]
  exact if_pos full

/-! ## The entry of a new operation -/

/-- A request accepted WAITING whose first unit has begun (R5). -/
theorem beginUnit_accepted {t : State} {tag : Nat} (room : t.hasRoom tag) (kind : OpKind) (planned : Option Nat) :
    (t.accepted tag kind .waiting planned).beginUnit tag = t.accepted tag kind .running planned := by
  have others := State.hasRoom_map room fun e => if e.state = .waiting then { e with state := .running } else e
  simp only [State.beginUnit, State.updateEntry, State.accepted_table, List.map_append, others]
  simp [State.accepted, State.enter, State.reply]

/-- The table is no part of an axis's record. -/
theorem beginUnit_setAxis (s : State) (a : Axis) (r : AxisRec) (tag : Nat) :
    (s.setAxis a r).beginUnit tag = (s.beginUnit tag).setAxis a r := by
  cases a <;> rfl

/-- An operation with units to make goes on. -/
theorem endIfPlannedNone_goes {s : State} {planned : Nat} (some : planned ≠ 0) (tag : Nat) (go : State → State) :
    s.endIfPlannedNone tag planned go = go s := if_neg some

theorem distance_ne_zero {a b : Nat} (apart : b ≠ a) : distance a b ≠ 0 := by
  unfold distance
  split <;> omega

/-! ## MOVE (R32) -/

/-- A MOVE's data beside the others', its axis claimed. -/
def withMove (s : State) (tag : Nat) (a : Axis) (v : Nat) (clampFlag : Bool) : State :=
  { s with ldu := { s.ldu with
      ops := s.ldu.ops ++ [{ tag := tag, body := .move a v clampFlag, waitStopped := false }] } }

theorem addLensOp_move (s : State) (tag : Nat) (a : Axis) (v : Nat) (clampFlag : Bool) :
    s.addLensOp tag .move (.move a v clampFlag) =
      (withMove s tag a v clampFlag).setAxis a { s.axis a with owner := some (.op .move tag) } := by
  cases a <;> rfl

theorem moveCheck_eq {s : State} {a : Axis} (lens : a ≠ .iris) :
    s.moveCheck (axisCode a) =
      if (s.axis a).owner.isSome then .inl (.busy, axisCode a)
      else
        match (s.axis a).pp with
        | none => .inl (.unreferenced, axisCode a)
        | some p => .inr (a, p) := by
  cases a with
  | zoom => rfl
  | focus => rfl
  | iris => exact absurd rfl lens

theorem moveCheck_field {s : State} {axis : Nat} (other : 1 < axis) : s.moveCheck axis = .inl (.field, 0) := by
  obtain rfl | more := (by omega : axis = 2 ∨ 2 < axis)
  · rfl
  · simp only [State.moveCheck, axisOf_none more]

theorem moveCheck_passes {s : State} {a : Axis} {p : Nat} (lens : a ≠ .iris) (free : (s.axis a).owner = none)
    (pp : (s.axis a).pp = some p) : s.moveCheck (axisCode a) = .inr (a, p) := by
  rw [moveCheck_eq lens, free, pp]
  rfl

/-- An accepted MOVE, its axis claimed and given the target (R32). -/
theorem moveRequest_accepted {t : State} {a : Axis} {tag target p : Nat} (lens : a ≠ .iris)
    (free : (t.axis a).owner = none) (pp : (t.axis a).pp = some p) (room : t.hasRoom tag)
    (apart : min (axisRange a) target ≠ p) :
    t.moveRequest tag (axisCode a) target =
      State.arbitrate
        ((((withMove (t.accepted tag .move .waiting (some (distance p (min (axisRange a) target)))) tag a
          (min (axisRange a) target) (min (axisRange a) target != target)).setAxis a
            { t.axis a with owner := some (.op .move tag) }).giveTarget a (min (axisRange a) target)).1) := by
  simp only [State.moveRequest, moveCheck_passes lens free pp, State.accept_room room, addLensOp_move,
    endIfPlannedNone_goes (distance_ne_zero apart)]
  cases a <;> rfl

theorem moveRequest_tracker {t : State} {a : Axis} {tag target p detail : Nat} {code : Code} (lens : a ≠ .iris)
    (free : (t.axis a).owner = none) (pp : (t.axis a).pp = some p)
    (refused : t.trackerRefusal tag = some (code, detail)) :
    t.moveRequest tag (axisCode a) target = t.drawFree.refuse tag code detail := by
  simp only [State.moveRequest, moveCheck_passes lens free pp, State.accept_refused refused]

/-- The step interval is the axis's own but for the zoom under a ZOOM or a context's travel (R22). -/
theorem stepInterval_own {s : State} {a : Axis} {kind : OpKind} {tag : Nat}
    (owner : (s.axis a).owner = some (.op kind tag)) (own : kind = .move ∨ kind = .home ∨ kind = .park) :
    s.stepInterval a = (s.axis a).setup.interval := by
  simp only [State.stepInterval, owner]
  obtain rfl | rfl | rfl := own <;> cases a <;> rfl

/-- An axis in no slot's way, granted one under a MOVE: its first step and the first unit (R22, R25). -/
theorem granted_move {s : State} {a : Axis} {tag p v : Nat} (owner : (s.axis a).owner = some (.op .move tag))
    (homing : (s.axis a).homing = .none) (pp : (s.axis a).pp = some p) (target : (s.axis a).target = some v)
    (apart : v ≠ p) :
    s.granted a =
      State.beginUnit
        (s.setAxis a
          { s.axis a with state := .moving, timer := none, after := .goOn, stepUp := decide (p < v),
                          stepTime := (s.axis a).setup.interval }) tag := by
  have underway : (s.axis a).arrived = false := by simp [AxisRec.arrived, pp, target, apart]
  have interval := stepInterval_own owner (.inl rfl)
  simp only [State.granted, homing, underway, owner, State.beginStep, pp, target, interval, Option.getD_some]
  rfl

/-- Settles O19: the refusals of the owner and of the tracker, and an axis that energizes or begins its first step. -/
theorem moveBegins : Obligations.MoveBegins := by
  intro tag axis target s t reaches
  have asked : exec (.move tag axis target) s = .next (t.moveRequest tag axis target) :=
    congrArg Host.Outcome.next (State.onRequest_reaches reaches _)
  dsimp only
  rw [asked]
  refine ⟨fun other => ?_, ?_⟩
  · rw [State.moveRequest, moveCheck_field other]
    rfl
  rintro a r rfl lens rfl
  refine ⟨fun owned => ?_, fun free lost => ?_, fun p free pp => ⟨?_, fun room apart idle =>
    ⟨fun released slow => ?_, fun held homing slots => ?_⟩⟩⟩
  · rw [State.moveRequest, moveCheck_eq lens, if_pos (Option.isSome_iff_ne_none.mpr owned)]
    rfl
  · rw [State.moveRequest, moveCheck_eq lens, free, lost]
    rfl
  · have unsent : t.endingTags = t.opt.outbox.filterMap endingTag ++ (sentTag t).toList := endingTags_eq t
    refine ⟨fun found => ?_, fun absent => ⟨fun ending => ?_, fun sent full => ?_⟩⟩
    · rw [moveRequest_tracker lens free pp (trackerRefusal_entry found)]
      rfl
    · rw [moveRequest_tracker lens free pp (trackerRefusal_ending absent (unsent ▸ ending))]
      rfl
    · rw [moveRequest_tracker lens free pp (trackerRefusal_full absent (unsent ▸ sent) (unsent ▸ full))]
      rfl
  · have claimed := State.axis_setAxis_same
      (withMove (t.accepted tag .move .waiting (some (distance p (min (axisRange a) target)))) tag a
        (min (axisRange a) target) (min (axisRange a) target != target)) a
      { t.axis a with owner := some (.op .move tag) }
    rw [moveRequest_accepted lens free pp room apart,
      State.giveTarget_released _ a _ p (by rw [claimed]; exact pp) apart (by rw [claimed]; exact released)
        (by rw [claimed]; exact slow), claimed, State.setAxis_setAxis,
      State.arbitrate_nil _ (by rw [State.setAxis_waitList]; exact idle)]
    rfl
  · let w := withMove (t.accepted tag .move .waiting (some (distance p (min (axisRange a) target)))) tag a
      (min (axisRange a) target) (min (axisRange a) target != target)
    let r : AxisRec := { t.axis a with owner := some (.op .move tag) }
    have claimed : (w.setAxis a r).axis a = r := State.axis_setAxis_same w a r
    let waits : AxisRec :=
      { r with target := some (min (axisRange a) target), state := .awaitingSlot, timer := none }
    have before : (w.setAxis a r).setAxis a waits = w.setAxis a waits := State.setAxis_setAxis w a r waits
    have waiting : (w.setAxis a waits).axis a = waits := State.axis_setAxis_same w a waits
    have begins := granted_move (s := w.setAxis a waits) (a := a) (tag := tag) (p := p)
      (v := min (axisRange a) target) (by rw [waiting]) (by rw [waiting]; exact homing) (by rw [waiting]; exact pp)
      (by rw [waiting]) apart
    rw [waiting, State.setAxis_setAxis] at begins
    have free' : (w.setAxis a r).slotHolders.length < 2 := by
      rw [State.slotHolders_setAxis w a r (by cases a <;> rfl)]
      exact slots
    have given := State.giveTarget_held_arbitrate (w.setAxis a r) a _ p (by rw [claimed]; exact pp) apart
      (by rw [claimed]; exact held) (by rw [State.setAxis_waitList]; exact idle) free'
      (by rw [claimed, before, begins]; cases a <;> exact idle)
    rw [moveRequest_accepted lens free pp room apart]
    refine congrArg Host.Outcome.next (given.trans ?_)
    rw [claimed, before, begins]
    have running := beginUnit_accepted room .move (some (distance p (min (axisRange a) target)))
    exact (beginUnit_setAxis w a _ tag).trans
      (congrArg
        (fun u : State => (withMove u tag a (min (axisRange a) target) (min (axisRange a) target != target)).setAxis a
          { waits with state := .moving, after := .goOn, stepUp := decide (p < min (axisRange a) target),
                       stepTime := r.setup.interval })
        running)

/-! ## PARK (R36) -/

/-- The first of some axes, in the order of their codes. -/
theorem find_allAxes {p : Axis → Bool} {a : Axis} (found : p a = true)
    (before : ∀ b, axisCode b < axisCode a → p b = false) : allAxes.find? p = some a := by
  cases a with
  | zoom => simp [allAxes, found]
  | focus => simp [allAxes, found, before .zoom (by decide)]
  | iris => simp [allAxes, found, before .zoom (by decide), before .focus (by decide)]

theorem find_allAxes_none {p : Axis → Bool} (none : ∀ b, p b = false) : allAxes.find? p = .none := by
  simp [none]

theorem parkFault_owned {s : State} {a : Axis} (owned : (s.axis a).owner ≠ none)
    (before : ∀ b, axisCode b < axisCode a → (s.axis b).owner = none) :
    s.parkFault = some (.busy, axisCode a) := by
  have first : s.firstOwned allAxes = some a :=
    find_allAxes (Option.isSome_iff_ne_none.mpr owned) fun b less => by rw [before b less]; rfl
  simp only [State.parkFault, first]

theorem parkFault_free {s : State} (free : ∀ a, (s.axis a).owner = none) :
    s.parkFault =
      if s.csq.state ≠ .idle then some (.busy, 0)
      else (s.firstUnreferenced allAxes).map fun a => (.unreferenced, axisCode a) := by
  have none : s.firstOwned allAxes = none := find_allAxes_none fun b => by rw [free b]; rfl
  simp only [State.parkFault, none]
  split
  · rfl
  · split <;> (rename_i found; rw [found]; rfl)

/-- An axis of a PARK given its target (R36). -/
def parked (tag : Nat) (r : AxisRec) : AxisRec :=
  if r.pp = some 0 then { r with owner := some (.op .park tag), target := some 0 }
  else { r with owner := some (.op .park tag), target := some 0, state := .energizing,
                timer := some r.setup.energize }

/-- A RELEASED axis sent to 0. -/
theorem giveTarget_park {s : State} {a : Axis} {r : AxisRec} {p tag : Nat}
    (stands : s.axis a = { r with owner := some (.op .park tag) }) (pp : r.pp = some p)
    (released : r.state = .released) (slow : r.setup.energize ≠ 0) :
    (s.giveTarget a 0).1 = s.setAxis a (parked tag r) := by
  by_cases here : p = 0
  · subst here
    rw [State.giveTarget_released_here s a 0 (by rw [stands]; exact pp) (by rw [stands]; exact released), stands,
      parked, if_pos pp]
  · have elsewhere : r.pp ≠ some 0 := by rw [pp]; simpa using here
    rw [State.giveTarget_released s a 0 p (by rw [stands]; exact pp) (Ne.symm here) (by rw [stands]; exact released)
      (by rw [stands]; exact slow), stands, parked, if_neg elsewhere]

/-- Settles O21: the refusals by the first owned or UNREFERENCED axis, and the three axes sent to 0. -/
theorem parkBegins : Obligations.ParkBegins := by
  intro tag s t reaches
  have asked : exec (.park tag) s = .next (t.parkRequest tag) :=
    congrArg Host.Outcome.next (State.onRequest_reaches reaches _)
  rw [asked]
  refine ⟨fun a owned before => ?_, fun free => ⟨fun busy => ?_, fun a idle lost before => ?_,
    fun z f i idle zoom focus iris room far waitList rest => ?_⟩⟩
  · rw [State.parkRequest, parkFault_owned owned before]
    rfl
  · rw [State.parkRequest, parkFault_free free, if_pos busy]
    rfl
  · have first : t.firstUnreferenced allAxes = some a :=
      find_allAxes (Option.isNone_iff_eq_none.mpr lost) fun b less => by
        simpa using Option.isSome_iff_ne_none.mpr (before b less)
    rw [State.parkRequest, parkFault_free free, if_neg (not_not.mpr idle), first]
    rfl
  · have none : t.firstUnreferenced allAxes = none := find_allAxes_none fun b => by
      cases b
      · exact congrArg Option.isNone zoom
      · exact congrArg Option.isNone focus
      · exact congrArg Option.isNone iris
    have units : t.parkUnits = z + f + i := by simp only [State.parkUnits, zoom, focus, iris, Option.getD_some]
    rw [State.parkRequest, parkFault_free free, if_neg (not_not.mpr idle), none]
    simp only [Option.map_none, State.accept_room room, units, endIfPlannedNone_goes far]
    let w := t.accepted tag .park .waiting (some (z + f + i))
    let u : State := ((w.addLensOp tag .park (.park Option.none)).discardIris)
    have sentZoom := giveTarget_park (s := u) (a := .zoom) (r := t.ldu.zoom) (tag := tag) rfl zoom (rest .zoom).1 (rest .zoom).2
    have sentFocus := giveTarget_park (s := u.setAxis .zoom (parked tag t.ldu.zoom)) (a := .focus)
      (r := t.ldu.focus) (tag := tag) rfl focus (rest .focus).1 (rest .focus).2
    have sentIris := giveTarget_park
      (s := (u.setAxis .zoom (parked tag t.ldu.zoom)).setAxis .focus (parked tag t.ldu.focus)) (a := .iris)
      (r := t.ldu.iris) (tag := tag) rfl iris (rest .iris).1 (rest .iris).2
    have sent : allAxes.foldl (fun v a => (v.giveTarget a 0).1) u =
        ((u.setAxis .zoom (parked tag t.ldu.zoom)).setAxis .focus (parked tag t.ldu.focus)).setAxis .iris
          (parked tag t.ldu.iris) := by
      show (((u.giveTarget .zoom 0).1.giveTarget .focus 0).1.giveTarget .iris 0).1 = _
      rw [sentZoom, sentFocus, sentIris]
    refine congrArg Host.Outcome.next ((congrArg State.arbitrate sent).trans ?_)
    exact State.arbitrate_nil _ waitList

/-! ## HOME (R29) -/

theorem maskAxes_mem (mask : Nat) (a : Axis) : a ∈ maskAxes mask ↔ mask.testBit (axisCode a) = true := by
  simp only [maskAxes, List.mem_filter, allAxes]
  cases a <;> simp

theorem contains_maskAxes (mask : Nat) (a : Axis) : (maskAxes mask).contains a = mask.testBit (axisCode a) := by
  rw [Bool.eq_iff_iff, List.contains_iff_mem, maskAxes_mem]

theorem firstOwned_maskAxes (s : State) (mask : Nat) :
    s.firstOwned (maskAxes mask) =
      allAxes.find? fun a => mask.testBit (axisCode a) && (s.axis a).owner.isSome := by
  rw [State.firstOwned, maskAxes, List.find?_filter]
  simp only [Bool.decide_and, Bool.decide_eq_true]

theorem homeFault_empty {s : State} {mask : Nat} (empty : ∀ a, mask.testBit (axisCode a) = false) :
    s.homeFault (maskAxes mask) = some (.field, 0) := by
  have nothing : maskAxes mask = [] := List.eq_nil_iff_forall_not_mem.mpr fun a member => by
    rw [maskAxes_mem, empty a] at member
    exact Bool.false_ne_true member
  rw [State.homeFault, if_pos nothing]

theorem homeFault_named {s : State} {mask : Nat} (named : ∃ a, mask.testBit (axisCode a) = true) :
    s.homeFault (maskAxes mask) =
      match s.firstOwned (maskAxes mask) with
      | some a => some (.busy, axisCode a)
      | none => if s.csq.state ≠ .idle then some (.busy, 0) else none := by
  obtain ⟨a, bit⟩ := named
  have names : maskAxes mask ≠ [] := List.ne_nil_of_mem ((maskAxes_mem mask a).mpr bit)
  rw [State.homeFault, if_neg names] <;> rfl

theorem homeFault_owned {s : State} {mask : Nat} {a : Axis} (named : mask.testBit (axisCode a) = true)
    (owned : (s.axis a).owner ≠ none)
    (before : ∀ b, axisCode b < axisCode a → mask.testBit (axisCode b) = true → (s.axis b).owner = none) :
    s.homeFault (maskAxes mask) = some (.busy, axisCode a) := by
  have first : s.firstOwned (maskAxes mask) = some a := by
    rw [firstOwned_maskAxes]
    refine find_allAxes ?_ fun b less => ?_
    · rw [named, Option.isSome_iff_ne_none.mpr owned]
      rfl
    · cases bit : mask.testBit (axisCode b) with
      | false => rfl
      | true => rw [before b less bit]; rfl
  rw [homeFault_named ⟨a, named⟩, first] <;> rfl

theorem homeFault_free {s : State} {mask : Nat} (named : ∃ a, mask.testBit (axisCode a) = true)
    (free : ∀ a, mask.testBit (axisCode a) = true → (s.axis a).owner = none) :
    s.homeFault (maskAxes mask) = if s.csq.state ≠ .idle then some (.busy, 0) else none := by
  have none : s.firstOwned (maskAxes mask) = .none := by
    rw [firstOwned_maskAxes]
    refine find_allAxes_none fun b => ?_
    cases bit : mask.testBit (axisCode b) with
    | false => rfl
    | true => rw [free b bit]; rfl
  rw [homeFault_named named, none] <;> rfl

theorem claimedAxes_homeBody (mask : Nat) : claimedAxes (homeBody (maskAxes mask)) = maskAxes mask := by
  simp only [homeBody, contains_maskAxes]
  simp only [maskAxes, allAxes, List.filter, claimedAxes]
  cases mask.testBit (axisCode .zoom) <;> cases mask.testBit (axisCode .focus) <;>
    cases mask.testBit (axisCode .iris) <;> rfl

/-- A change of some axes' records, one after the other. -/
theorem foldl_setAxis {q : Axis → Bool} {change : State → Axis → State} {f : Axis → AxisRec → AxisRec} {s : State}
    (each : ∀ a t, q a = true → t.axis a = s.axis a → change t a = t.setAxis a (f a (s.axis a))) :
    (allAxes.filter q).foldl change s =
      { s with ldu := { s.ldu with
          zoom := if q .zoom then f .zoom s.ldu.zoom else s.ldu.zoom,
          focus := if q .focus then f .focus s.ldu.focus else s.ldu.focus,
          iris := if q .iris then f .iris s.ldu.iris else s.ldu.iris } } := by
  have one (a : Axis) (t : State) (same : t.axis a = s.axis a) :
      (if q a then change t a else t) = t.setAxis a (if q a then f a (s.axis a) else s.axis a) := by
    split
    · exact each a t (by assumption) same
    · rw [← same, State.setAxis_axis]
  rw [List.foldl_filter]
  simp only [allAxes, List.foldl_cons, List.foldl_nil]
  have zoom := one .zoom s rfl
  have focus := one .focus (s.setAxis .zoom (if q .zoom then f .zoom (s.axis .zoom) else s.axis .zoom)) rfl
  have iris := one .iris
    ((s.setAxis .zoom (if q .zoom then f .zoom (s.axis .zoom) else s.axis .zoom)).setAxis .focus
      (if q .focus then f .focus (s.axis .focus) else s.axis .focus)) rfl
  rw [zoom, focus, iris]
  rfl

/-- Homing asked for on an axis without current (R29). -/
def asksHoming (r : AxisRec) : AxisRec :=
  { r with target := none, after := .goOn, homing := .pending, state := .energizing, timer := some r.setup.energize }

theorem askHoming_released {s : State} {a : Axis} {r : AxisRec} (stands : s.axis a = r) (released : r.state = .released)
    (slow : r.setup.energize ≠ 0) : s.askHoming a = s.setAxis a (asksHoming r) := by
  simp only [State.askHoming, stands, released, State.energizeAxis, slow, if_false]
  rfl

theorem ite_of_ite {α : Type} (c : Bool) (f : α → α) (x y : α) :
    (if c then f (if c then x else y) else if c then x else y) = if c then f x else y := by
  cases c <;> rfl

theorem discard_if (s : State) (c : Bool) :
    (if c then s.discardIris else s) =
      { s with ldu := { s.ldu with
          pendingIris := if c then none else s.ldu.pendingIris,
          irisWriter := if c then none else s.ldu.irisWriter } } := by
  cases c <;> rfl

/-- An axis record, claimed or as it stands. -/
def ownedIf (owner : Owner) (c : Bool) (r : AxisRec) : AxisRec := if c then { r with owner := some owner } else r

theorem ownedIf_rest {owner : Owner} {c : Bool} {r : AxisRec} (rest : r.state = .released ∧ r.setup.energize ≠ 0) :
    (ownedIf owner c r).state = .released ∧ (ownedIf owner c r).setup.energize ≠ 0 := by
  cases c <;> exact rest

/-- A HOME begins with its axes at rest without current (R29). -/
theorem beginHome_eq {s : State} {tag mask : Nat} (flags : RefFlags) (idle : s.ldu.waitList = [])
    (rest : ∀ a, mask.testBit (axisCode a) = true → (s.axis a).state = .released ∧ (s.axis a).setup.energize ≠ 0) :
    s.beginHome tag (maskAxes mask) flags =
      { s with ldu := { s.ldu with
          zoom := if mask.testBit 0 then asksHoming { s.ldu.zoom with owner := some (.op .home tag) } else s.ldu.zoom,
          focus := if mask.testBit 1 then asksHoming { s.ldu.focus with owner := some (.op .home tag) } else s.ldu.focus,
          iris := if mask.testBit 2 then asksHoming { s.ldu.iris with owner := some (.op .home tag) } else s.ldu.iris,
          flags := flags,
          pendingIris := if mask.testBit 2 then none else s.ldu.pendingIris,
          irisWriter := if mask.testBit 2 then none else s.ldu.irisWriter,
          ops := s.ldu.ops ++ [{ tag := tag, body := homeBody (maskAxes mask), waitStopped := false }] } } := by
  let q (a : Axis) : Bool := mask.testBit (axisCode a)
  let known : State :=
    { s.readFlags flags with ldu := { (s.readFlags flags).ldu with
        ops := s.ldu.ops ++ [{ tag := tag, body := homeBody (maskAxes mask), waitStopped := false }] } }
  have claimed := foldl_setAxis (q := q) (s := known)
    (change := fun t a => t.setAxis a { t.axis a with owner := some (.op .home tag) })
    (f := fun _ r => { r with owner := some (.op .home tag) }) fun a t _ same => by rw [same]
  have added : (s.readFlags flags).addLensOp tag .home (homeBody (maskAxes mask)) = _ :=
    (congrArg (fun axes => State.claim known axes (.op .home tag)) (claimedAxes_homeBody mask)).trans claimed
  let owned := ownedIf (.op .home tag)
  let named : State :=
    { known with ldu := { known.ldu with
        zoom := owned (mask.testBit 0) s.ldu.zoom, focus := owned (mask.testBit 1) s.ldu.focus,
        iris := owned (mask.testBit 2) s.ldu.iris,
        pendingIris := if mask.testBit 2 then none else s.ldu.pendingIris,
        irisWriter := if mask.testBit 2 then none else s.ldu.irisWriter } }
  have discarded :
      (if (maskAxes mask).contains .iris then
        ((s.readFlags flags).addLensOp tag .home (homeBody (maskAxes mask))).discardIris
       else (s.readFlags flags).addLensOp tag .home (homeBody (maskAxes mask))) = named := by
    rw [contains_maskAxes, added]
    exact discard_if _ _
  have released (a : Axis) (bit : q a = true) :
      (named.axis a).state = .released ∧ (named.axis a).setup.energize ≠ 0 := by
    have before := rest a bit
    cases a <;> exact ownedIf_rest before
  have asked := foldl_setAxis (q := q) (s := named) (change := State.askHoming) (f := fun _ r => asksHoming r)
    fun a t bit same => askHoming_released same (released a bit).1 (released a bit).2
  have quiet := State.arbitrate_nil
    { named with ldu := { named.ldu with
        zoom := if q .zoom then asksHoming named.ldu.zoom else named.ldu.zoom,
        focus := if q .focus then asksHoming named.ldu.focus else named.ldu.focus,
        iris := if q .iris then asksHoming named.ldu.iris else named.ldu.iris } } idle
  show State.arbitrate (List.foldl State.askHoming _ _) = _
  rw [discarded]
  refine (congrArg State.arbitrate asked).trans (quiet.trans ?_)
  have each (c : Bool) (r : AxisRec) :
      (if c then asksHoming (owned c r) else owned c r) =
        if c then asksHoming { r with owner := some (.op .home tag) } else r :=
    ite_of_ite c asksHoming { r with owner := some (.op .home tag) } r
  rw [← each (mask.testBit 0), ← each (mask.testBit 1), ← each (mask.testBit 2)]
  rfl

/-- Settles O14: the refusals by the mask, the axes, CSQ and the tracker, and the named axes asked to home. -/
theorem homeBegins : Obligations.HomeBegins := by
  intro tag mask flags s t reaches
  have asked : exec (.home tag mask flags) s = .next (t.homeRequest tag mask flags) :=
    congrArg Host.Outcome.next (State.onRequest_reaches reaches _)
  dsimp only
  rw [asked]
  refine ⟨fun empty => ?_, fun a named owned before => ?_, fun named free => ⟨fun busy => ?_,
    fun idle => ⟨fun code detail refused => ?_, fun room waitList rest => ?_⟩⟩⟩
  · simp only [State.homeRequest, homeFault_empty empty]
    rfl
  · simp only [State.homeRequest, homeFault_owned named owned fun b less bit => before b less bit]
    rfl
  · simp only [State.homeRequest, homeFault_free named free, if_pos busy]
    rfl
  · simp only [State.homeRequest, homeFault_free named free, if_neg (not_not.mpr idle), State.accept_refused refused]
    rfl
  · have begins := beginHome_eq (s := t.accepted tag .home .waiting none) (tag := tag) (mask := mask) flags waitList rest
    simp only [State.homeRequest, homeFault_free named free, if_neg (not_not.mpr idle), State.accept_room room, begins,
      homeBody, contains_maskAxes]
    rfl

end Sys2Proof.Proofs.LensRequests
end

section
/-! PROOFS. A completed step of an axis: what it counts and what follows, under a MOVE (R21, R22, R28, R53). -/

namespace Sys2Proof.Proofs.LensSteps
open Sys2Proof Sys2Proof.Machine Sys2Proof.Proofs.LensRequests Sys2Proof.Proofs.Optics

-- one declaration after another: each unfolds operations whose equations another would be waiting for
set_option Elab.async false

/-! ## Events of an axis -/

theorem exec_axisStepComplete {s : State} {a : Axis} (flags : RefFlags)
    (steps : (s.axis a).state = .moving ∨ (s.axis a).state = .homing) :
    exec (.axisStepComplete a flags) s = .next ((s.readFlags flags).stepCompleted a) := by
  have stepping : (s.axis a).stepping = true := by
    unfold AxisRec.stepping
    obtain state | state := steps <;> rw [state]
  exact congrArg Host.Outcome.next (if_pos stepping)

/-- A report to FMN touches the frame records alone (R57). -/
theorem reportStep_others (s : State) (a : Axis) :
    (s.reportStep a).ldu = s.ldu ∧ (s.reportStep a).fsu = s.fsu ∧ (s.reportStep a).exc = s.exc ∧
      (s.reportStep a).stu = s.stu ∧ (s.reportStep a).otb = s.otb ∧ (s.reportStep a).pcs = s.pcs := by
  unfold State.reportStep State.markOpen
  split <;> exact ⟨rfl, rfl, rfl, rfl, rfl, rfl⟩

theorem reportStep_axis (s : State) (a b : Axis) : (s.reportStep a).axis b = s.axis b := by
  have ldu := (reportStep_others s a).1
  cases b <;> simp only [State.axis, ldu]

theorem reportStep_lensOp (s : State) (a : Axis) (tag : Nat) : (s.reportStep a).lensOp tag = s.lensOp tag := by
  rw [State.lensOp, (reportStep_others s a).1]
  rfl

theorem setAxis_lensOp (s : State) (a : Axis) (r : AxisRec) (tag : Nat) :
    (s.setAxis a r).lensOp tag = s.lensOp tag := by
  cases a <;> rfl

theorem attention_axis (s : State) (source : Source) (condition : Condition) (detail : Nat) (a : Axis) :
    (s.attention source condition detail).axis a = s.axis a := by
  unfold State.attention
  split <;> cases a <;> rfl

theorem referenceLost_axis (s : State) (a b : Axis) : (s.referenceLost a).axis b = s.axis b := by
  have ldu := (State.referenceLost_frame s a).2.2.2.1
  cases b <;> simp only [State.axis, ldu]

/-- No settle time passes at once: not the axis's own, and no other axis that waited begins to settle (R21). -/
theorem settleZero_still {s before : State} {a : Axis}
    (own : (s.axis a).state = .settling → (s.axis a).timer ≠ some 0)
    (others : ∀ b, b ≠ a → (before.axis b).state = .awaitingSlot → (s.axis b).state ≠ .settling) :
    s.settleZero before a = s := by
  have each (b : Axis) : (if b = a ∨ (before.axis b).state = .awaitingSlot then s.settleAtOnce b else s) = s := by
    split
    · refine if_neg ?_
      rintro ⟨settling, zero⟩
      by_cases same : b = a
      · subst same
        exact own settling zero
      · exact others b same ((by assumption : b = a ∨ _).resolve_left same) settling
    · rfl
  simp only [State.settleZero, allAxes, List.foldl_cons, List.foldl_nil, each]

/-- A step that was not lost, with no scan and no settle time that passes at once. -/
theorem stepCompleted_steps {s t : State} {a : Axis} (completes : s.completeStep a = (t, .stepped))
    (still : t.fsu.scan = none) (own : (t.axis a).state = .settling → (t.axis a).timer ≠ some 0)
    (others : ∀ b, b ≠ a → (s.axis b).state = .awaitingSlot → (t.axis b).state ≠ .settling) :
    s.stepCompleted a = t := by
  have quiet (r : AxisRec) : t.scanStepped r = t := by
    rw [State.scanStepped, still]
  rw [State.stepCompleted, completes]
  show State.settleZero (if a = .focus then t.scanStepped s.ldu.focus else t) s a = t
  rw [quiet, ite_self, settleZero_still own others]

theorem completeStep_moving {s : State} {a : Axis} (moving : (s.axis a).state = .moving) :
    s.completeStep a = s.moveStep a := by
  rw [State.completeStep, moving]

/-! ## What a step counts (R22, R30) -/

theorem countLens_runs {s : State} {tag : Nat} (runs : ∀ o, s.lensOp tag = some o → o.waitStopped = false) :
    s.countLens tag = (s.beginUnit tag).countUnit tag := by
  unfold State.countLens
  split
  · rename_i found
    exact absurd (runs _ found) (by simp)
  · rfl

theorem countUnit_setAxis (s : State) (a : Axis) (r : AxisRec) (tag : Nat) :
    (s.setAxis a r).countUnit tag = (s.countUnit tag).setAxis a r := by
  cases a <;> rfl

theorem counted_setAxis (s : State) (a : Axis) (r : AxisRec) (tag : Nat) :
    ((s.setAxis a r).beginUnit tag).countUnit tag = ((s.beginUnit tag).countUnit tag).setAxis a r := by
  rw [beginUnit_setAxis, countUnit_setAxis]

theorem wideMove_other {s : State} {a : Axis} {kind : OpKind} {tag : Nat}
    (owner : (s.axis a).owner = some (.op kind tag)) (other : kind ≠ .home) : s.wideMove a = false := by
  unfold State.wideMove
  split
  · rename_i found
    rw [owner] at found
    cases found
    exact absurd rfl other
  · rfl

/-! ## A step that was not lost (R22) -/

/-- A step of a referenced axis that the flag does not contradict. -/
theorem moveStep_kept {s : State} {a : Axis} {r : AxisRec} {p q : Nat} (stands : s.axis a = r)
    (homing : r.homing ≠ .pending) (pp : r.pp = some p) (next : (if r.stepUp then p + 1 else p - 1) = q)
    (kept : lostAt a (flagLevel s.ldu.flags a) q = false) :
    s.moveStep a =
      (State.arbitrate
        (let u := (((s.reportStep a).setAxis a { r with pp := some q }).countStep a).afterStep a
         if a = .zoom ∧ u.isFollowPoint q (r.after = .settle) then u.followPoint else u), .stepped) := by
  subst stands next
  simp only [State.moveStep, pp, Option.getD_some, if_neg homing, kept, Bool.false_eq_true, if_false]

/-- A step that reaches its target: the axis settles (R21). -/
theorem afterStep_arrives {s : State} {a : Axis} {r : AxisRec} (stands : s.axis a = r) (after : r.after = .goOn)
    (here : r.target = r.pp) (narrow : s.wideMove a = false) : s.afterStep a = s.setAxis a r.settle := by
  subst stands
  simp only [State.afterStep, after, here, true_or, if_true, narrow, Bool.false_eq_true, if_false]

/-- A step short of its target: the next begins (R22). -/
theorem afterStep_goesOn {s : State} {a : Axis} {r : AxisRec} {v q : Nat} (stands : s.axis a = r)
    (after : r.after = .goOn) (target : r.target = some v) (pp : r.pp = some q) (short : q ≠ v) :
    s.afterStep a =
      s.setAxis a
        { r with state := .moving, timer := none, after := .goOn, stepUp := decide (q < v),
                 stepTime := s.stepInterval a } := by
  subst stands
  have apart : ¬ (some v = some q ∨ some v = none) := by simpa using Ne.symm short
  simp only [State.afterStep, after, target, pp, apart, if_false, State.beginStep, Option.getD_some]

/-- What lostAt judges (R28). -/
theorem lostAt_iff (a : Axis) (level : Bool) (q : Nat) :
    lostAt a level q = true ↔
      (level ≠ decide (referencePosition a < q)) ∧ (referencePosition a + 4 ≤ q ∨ q + 4 ≤ referencePosition a) := by
  simp only [lostAt, Bool.and_eq_true, Bool.or_eq_true, decide_eq_true_eq]

/-- An axis after a step to `q` toward `v`: it settles there, or begins the next step (R21, R22). -/
def stepped (r : AxisRec) (q v time : Nat) : AxisRec :=
  if q = v then AxisRec.settle { r with pp := some q }
  else { r with pp := some q, state := .moving, timer := none, after := .goOn, stepUp := decide (q < v),
                stepTime := time }

theorem stepped_owner (r : AxisRec) (q v time : Nat) : (stepped r q v time).owner = r.owner := by
  unfold stepped
  split <;> rfl

theorem stepped_timer {r : AxisRec} {q v time : Nat} (settle : r.setup.settle ≠ 0)
    (settling : (stepped r q v time).state = .settling) : (stepped r q v time).timer ≠ some 0 := by
  unfold stepped at settling ⊢
  split
  · simpa [AxisRec.settle] using settle
  · rename_i short
    rw [if_neg short] at settling
    exact absurd settling (by simp)

/-- A step toward a target, by what it counts. -/
theorem moveStep_toward {s c : State} {a : Axis} {r : AxisRec} {p q v time : Nat} (stands : s.axis a = r)
    (homing : r.homing = .none) (after : r.after = .goOn) (pp : r.pp = some p) (target : r.target = some v)
    (next : (if r.stepUp then p + 1 else p - 1) = q) (kept : lostAt a (flagLevel s.ldu.flags a) q = false)
    (counts : State.countStep ((s.reportStep a).setAxis a { r with pp := some q }) a =
      c.setAxis a { r with pp := some q })
    (narrow : State.wideMove (c.setAxis a { r with pp := some q }) a = false)
    (interval : State.stepInterval (c.setAxis a { r with pp := some q }) a = time) :
    s.moveStep a =
      (State.arbitrate
        (let u := c.setAxis a (stepped r q v time)
         if a = .zoom ∧ u.isFollowPoint q false then u.followPoint else u), .stepped) := by
  have claimed := State.axis_setAxis_same c a { r with pp := some q }
  have follows : State.afterStep (c.setAxis a { r with pp := some q }) a = c.setAxis a (stepped r q v time) := by
    by_cases here : q = v
    · rw [afterStep_arrives claimed after (target.trans (congrArg some here.symm)) narrow, State.setAxis_setAxis,
        stepped, if_pos here]
    · rw [afterStep_goesOn claimed after target rfl here, State.setAxis_setAxis, stepped, if_neg here, interval]
  have onward : decide (r.after = .settle) = false := by rw [after]; rfl
  rw [moveStep_kept stands (by rw [homing]; decide) pp next kept, counts, follows, onward]

/-! ## A step under a MOVE (R22, R28) -/

theorem countStep_move {s : State} {a : Axis} {tag : Nat} (owner : (s.axis a).owner = some (.op .move tag))
    (runs : ∀ o, s.lensOp tag = some o → o.waitStopped = false) :
    s.countStep a = (s.beginUnit tag).countUnit tag := by
  simp only [State.countStep, owner, countLens_runs runs]

theorem isFollowPoint_move {s : State} {q : Nat} {stopping : Bool} {tag : Nat}
    (owner : s.ldu.zoom.owner = some (.op .move tag)) : s.isFollowPoint q stopping = false := by
  simp only [State.isFollowPoint, owner]

/-- A step under a MOVE that goes on or arrives. -/
theorem moveStep_move {s : State} {a : Axis} {r : AxisRec} {tag p q v : Nat} (stands : s.axis a = r)
    (owner : r.owner = some (.op .move tag)) (homing : r.homing = .none) (after : r.after = .goOn)
    (pp : r.pp = some p) (target : r.target = some v) (idle : s.ldu.waitList = [])
    (runs : ∀ o, s.lensOp tag = some o → o.waitStopped = false) (next : (if r.stepUp then p + 1 else p - 1) = q)
    (kept : lostAt a (flagLevel s.ldu.flags a) q = false) :
    s.moveStep a =
      ((((s.reportStep a).beginUnit tag).countUnit tag).setAxis a (stepped r q v r.setup.interval), .stepped) := by
  let c := ((s.reportStep a).beginUnit tag).countUnit tag
  let w := (s.reportStep a).setAxis a { r with pp := some q }
  have claimed : w.axis a = { r with pp := some q } := State.axis_setAxis_same _ a _
  have reclaimed : (c.setAxis a { r with pp := some q }).axis a = { r with pp := some q } :=
    State.axis_setAxis_same _ a _
  have counts : w.countStep a = c.setAxis a { r with pp := some q } :=
    (countStep_move (s := w) (by rw [claimed]; exact owner)
      (by rw [setAxis_lensOp, reportStep_lensOp]; exact runs)).trans (counted_setAxis _ a _ tag)
  have interval := stepInterval_own (s := c.setAxis a { r with pp := some q }) (a := a)
    (by rw [reclaimed]; exact owner) (.inl rfl)
  rw [reclaimed] at interval
  have step := moveStep_toward stands homing after pp target next kept counts
    (wideMove_other (by rw [reclaimed]; exact owner) (by decide)) interval
  have plain : ¬ (a = .zoom ∧ State.isFollowPoint (c.setAxis a (stepped r q v r.setup.interval)) q false = true) := by
    rintro ⟨rfl, follow⟩
    rw [isFollowPoint_move (tag := tag) ((stepped_owner r q v r.setup.interval).trans owner)] at follow
    exact Bool.false_ne_true follow
  have free : (c.setAxis a (stepped r q v r.setup.interval)).ldu.waitList = [] :=
    (State.setAxis_waitList c a _).trans ((congrArg Ldu.waitList (reportStep_others s a).1).trans idle)
  rw [step]
  simp only [if_neg plain, State.arbitrate_nil _ free]
  rfl

/-- A step of a MOVE on its way, or its last (R22). -/
theorem stepCompleted_move {s : State} {a : Axis} {r : AxisRec} {tag p q v : Nat} (stands : s.axis a = r)
    (owner : r.owner = some (.op .move tag)) (moving : r.state = .moving) (homing : r.homing = .none)
    (after : r.after = .goOn) (pp : r.pp = some p) (target : r.target = some v) (settle : r.setup.settle ≠ 0)
    (idle : s.ldu.waitList = []) (still : s.fsu.scan = none)
    (runs : ∀ o, s.lensOp tag = some o → o.waitStopped = false) (next : (if r.stepUp then p + 1 else p - 1) = q)
    (kept : lostAt a (flagLevel s.ldu.flags a) q = false) :
    s.stepCompleted a =
      (((s.reportStep a).beginUnit tag).countUnit tag).setAxis a (stepped r q v r.setup.interval) := by
  let c := ((s.reportStep a).beginUnit tag).countUnit tag
  have completes : s.completeStep a = (c.setAxis a (stepped r q v r.setup.interval), .stepped) :=
    (completeStep_moving (by rw [stands]; exact moving)).trans
      (moveStep_move stands owner homing after pp target idle runs next kept)
  have stays := State.axis_setAxis_same c a (stepped r q v r.setup.interval)
  have others (b : Axis) (other : b ≠ a) :
      (c.setAxis a (stepped r q v r.setup.interval)).axis b = s.axis b :=
    (State.axis_setAxis_ne c _ other).trans (reportStep_axis s a b)
  refine stepCompleted_steps completes ?_ ?_ fun b other waits => ?_
  · rw [State.setAxis_fsu]
    exact (congrArg Fsu.scan (reportStep_others s a).2.1).trans still
  · rw [stays]
    exact stepped_timer settle
  · rw [others b other, waits]
    decide

/-! ## A lost step (R28, R53) -/

theorem markPart_other {s : State} {a : Axis} {kind : OpKind} {tag : Nat} {part : HomePart}
    (owner : (s.axis a).owner = some (.op kind tag)) (other : kind ≠ .home) : s.markPart a part = s := by
  unfold State.markPart
  split
  · rename_i found
    rw [owner] at found
    cases found
    exact absurd rfl other
  · rfl

/-- Operations that hear of a lost step through nothing but its report: a MOVE, and a SCAN. -/
def HearsReport (kind : OpKind) : Prop := kind = .move ∨ kind = .scan

theorem HearsReport.not_home {kind : OpKind} (hears : HearsReport kind) : kind ≠ .home := by
  obtain rfl | rfl := hears <;> decide

theorem lensLost_reported {s : State} {a : Axis} {kind : OpKind} {tag : Nat} (hears : HearsReport kind)
    (owner : (s.axis a).owner = some (.op kind tag)) : s.lensLost a = s := by
  obtain rfl | rfl := hears <;> simp only [State.lensLost, owner]

/-- The state in which an axis under a MOVE, or a SCAN, has lost a step. -/
def lostUnderMove (s : State) (a : Axis) (r : AxisRec) (q : Nat) : State :=
  State.referenceLost
    (((s.reportStep a).setAxis a (AxisRec.settle { r with pp := none, target := none })).attention (axisSource a)
      .lostStep q) a

theorem moveStep_lost {s : State} {a : Axis} {r : AxisRec} {kind : OpKind} {tag p q : Nat} (hears : HearsReport kind)
    (stands : s.axis a = r) (owner : r.owner = some (.op kind tag)) (homing : r.homing = .none) (after : r.after = .goOn)
    (pp : r.pp = some p) (idle : s.ldu.waitList = []) (next : (if r.stepUp then p + 1 else p - 1) = q)
    (lost : lostAt a (flagLevel s.ldu.flags a) q = true) :
    s.moveStep a = (lostUnderMove s a r q, .lost) := by
  let w := (s.reportStep a).setAxis a { r with pp := some q }
  have claimed : w.axis a = { r with pp := some q } := State.axis_setAxis_same _ a _
  have narrow : w.wideMove a = false := wideMove_other (by rw [claimed]; exact owner) hears.not_home
  have unowned : ((lostUnderMove s a r q).axis a).owner = some (.op kind tag) := by
    rw [lostUnderMove, referenceLost_axis, attention_axis, State.axis_setAxis_same]
    exact owner
  have loses : w.loseStep a q = lostUnderMove s a r q := by
    have goes : ¬ r.after = .hold := by rw [after]; decide
    simp only [State.loseStep, claimed, narrow, goes, Bool.false_eq_true, if_false, w, State.setAxis_setAxis]
    rw [← lostUnderMove.eq_1 s a { r with pp := some q } q]
    exact (congrArg (fun v : State => v.lensLost a) (markPart_other unowned hears.not_home)).trans
      (lensLost_reported hears unowned)
  have free : (lostUnderMove s a r q).ldu.waitList = [] := by
    rw [lostUnderMove, (State.referenceLost_frame _ a).2.2.2.1, (State.attention_frame _ _ _ _).2.2.1,
      State.setAxis_waitList, (reportStep_others s a).1]
    exact idle
  have unasked : ¬ r.homing = .pending := by rw [homing]; decide
  subst stands next
  simp only [State.moveStep, pp, Option.getD_some, if_neg unasked, lost, if_true]
  exact congrArg (fun v : State => (v, StepResult.lost)) ((congrArg State.arbitrate loses).trans (State.arbitrate_nil _ free))

/-- The axis of a MOVE that has lost a step. -/
theorem lostUnderMove_axis (s : State) (a b : Axis) (r : AxisRec) (q : Nat) :
    (lostUnderMove s a r q).axis b =
      if b = a then AxisRec.settle { r with pp := none, target := none } else s.axis b := by
  rw [lostUnderMove, referenceLost_axis, attention_axis]
  split
  · rename_i same
    rw [same, State.axis_setAxis_same]
  · rename_i other
    rw [State.axis_setAxis_ne _ _ other, reportStep_axis]

/-- A lost step under a MOVE: the axis settles, and nobody else hears of it before it has (R28). -/
theorem stepCompleted_lost {s : State} {a : Axis} {r : AxisRec} {tag p q : Nat} (stands : s.axis a = r)
    (owner : r.owner = some (.op .move tag)) (moving : r.state = .moving) (homing : r.homing = .none)
    (after : r.after = .goOn) (pp : r.pp = some p) (settle : r.setup.settle ≠ 0) (idle : s.ldu.waitList = [])
    (next : (if r.stepUp then p + 1 else p - 1) = q) (lost : lostAt a (flagLevel s.ldu.flags a) q = true) :
    s.stepCompleted a = lostUnderMove s a r q := by
  have completes : s.completeStep a = (lostUnderMove s a r q, .lost) :=
    (completeStep_moving (by rw [stands]; exact moving)).trans
      (moveStep_lost (.inl rfl) stands owner homing after pp idle next lost)
  have own := lostUnderMove_axis s a a r q
  rw [if_pos rfl] at own
  have claimed : ((lostUnderMove s a r q).axis a).owner = some (.op .move tag) := by
    rw [own]
    exact owner
  have settling : ((lostUnderMove s a r q).axis a).atRest = false := by
    rw [own]
    rfl
  have unheard : (lostUnderMove s a r q).reportLost a = lostUnderMove s a r q := by
    simp only [State.reportLost, claimed, settling, Bool.false_eq_true, if_false]
  rw [State.stepCompleted, completes]
  show State.settleZero ((lostUnderMove s a r q).reportLost a) s a = _
  rw [unheard]
  refine settleZero_still (fun _ => ?_) fun b other waits => ?_
  · rw [own]
    simpa [AxisRec.settle] using settle
  · rw [lostUnderMove_axis, if_neg other, waits]
    decide

/-- Settles O16: a step that goes on, one that arrives, and one that is lost. -/
theorem moveSteps : Obligations.MoveSteps := by
  rintro a tag p v flags s r stands owner moving homing after pp target settle idle still runs
  let read := s.readFlags flags
  have reads : read.axis a = r := by cases a <;> exact stands
  have asked := exec_axisStepComplete flags (s := s) (a := a) (.inl (by rw [stands]; exact moving))
  dsimp only
  rw [asked]
  have kept (away : ¬ ((flagLevel flags a ≠ decide (referencePosition a < (if r.stepUp then p + 1 else p - 1))) ∧
      (referencePosition a + 4 ≤ (if r.stepUp then p + 1 else p - 1) ∨
        (if r.stepUp then p + 1 else p - 1) + 4 ≤ referencePosition a))) :=
    stepCompleted_move (s := read) reads owner moving homing after pp target settle idle still runs rfl
      (Bool.eq_false_iff.mpr fun lost => away ((lostAt_iff _ _ _).mp lost))
  refine ⟨fun away short => ?_, fun away here => ?_, fun lost => ?_⟩
  · have goes := kept away
    rw [stepped, if_neg short] at goes
    obtain ⟨pp', state', target', owner', setup', count', homing', after', up', time', timer'⟩ := r
    cases moving
    cases after
    exact congrArg Host.Outcome.next goes
  · have arrives := kept away
    rw [stepped, if_pos here] at arrives
    obtain ⟨pp', state', target', owner', setup', count', homing', after', up', time', timer'⟩ := r
    cases homing
    cases after
    exact congrArg Host.Outcome.next arrives
  · have loses := stepCompleted_lost (s := read) reads owner moving homing after pp settle idle rfl
      ((lostAt_iff _ _ _).mpr lost)
    refine congrArg Host.Outcome.next (loses.trans ?_)
    obtain ⟨pp', state', target', owner', setup', count', homing', after', up', time', timer'⟩ := r
    cases homing
    cases after
    cases a with
    | zoom => exact centreStu_eq _
    | focus => rfl
    | iris => rfl

end Sys2Proof.Proofs.LensSteps
end

section
/-! PROOFS. Homing under a HOME: its begin in a slot, its steps, the reference found and the home limit (R30, R31, R53). -/

namespace Sys2Proof.Proofs.HomingFacts
open Sys2Proof Sys2Proof.Machine Sys2Proof.Proofs.LensRequests Sys2Proof.Proofs.Optics Sys2Proof.Proofs.LensSteps

-- one declaration after another: each unfolds operations whose equations another would be waiting for
set_option Elab.async false

/-! ## A slot for an axis that begins to wait (R25) -/

/-- An axis that does not step joins an empty wait list with a slot free: it is granted at once. -/
theorem joinWait_arbitrate {s : State} {a : Axis} {r : AxisRec} (idle : s.ldu.waitList = [])
    (slots : s.slotHolders.length < 2) (rests : (s.axis a).stepping = false)
    (emptied : (State.granted (s.setAxis a { r with state := .awaitingSlot, timer := none }) a).ldu.waitList = []) :
    (s.joinWait a r).arbitrate = State.granted (s.setAxis a { r with state := .awaitingSlot, timer := none }) a := by
  have waits : ({ s.joinWait a r with ldu := { (s.joinWait a r).ldu with waitList := [] } } : State) =
      s.setAxis a { r with state := .awaitingSlot, timer := none } := by
    unfold State.joinWait
    cases a <;> simp only [State.setAxis] <;> rw [← idle]
  have one := State.arbitrate_one (s.joinWait a r) a
  rw [waits] at one
  refine one (by simp [State.joinWait, idle]) ?_ emptied
  have holders := State.slotHolders_setAxis s a { r with state := .awaitingSlot, timer := none } (by rw [rests]; rfl)
  have same : (s.joinWait a r).slotHolders =
      (s.setAxis a { r with state := .awaitingSlot, timer := none }).slotHolders := by
    rw [State.slotHolders_eq, State.slotHolders_eq]
    cases a <;> rfl
  rw [same, holders]
  exact slots

/-! ## Homing begins (R30) -/

/-- The record of an axis whose homing begins with the flag as read. -/
def homingBegun (r : AxisRec) (low : Bool) : AxisRec :=
  { r with pp := none, target := none, state := .homing, timer := none, after := .goOn, homingCount := 0,
           homing := if low then .up else .down, stepUp := low, stepTime := r.setup.interval }

theorem beginHoming_home {s : State} {a : Axis} {tag : Nat} (owner : (s.axis a).owner = some (.op .home tag)) :
    s.beginHoming a =
      ((s.setAxis a (homingBegun (s.axis a) (!flagLevel s.ldu.flags a))).referenceLost a).beginUnit tag := by
  have interval := stepInterval_own owner (.inr (.inl rfl))
  simp only [State.beginHoming, homingBegun, interval, owner]

/-- The energize time ends with a slot free: homing begins in it (R21, R25, R30). -/
theorem energized_homing {s : State} {a : Axis} {r : AxisRec} {tag : Nat} (stands : s.axis a = r)
    (owner : r.owner = some (.op .home tag)) (energizing : r.state = .energizing) (pending : r.homing = .pending)
    (idle : s.ldu.waitList = []) (slots : s.slotHolders.length < 2) :
    s.energized a =
      ((s.setAxis a (homingBegun r (!flagLevel s.ldu.flags a))).referenceLost a).beginUnit tag := by
  let waits : AxisRec := { r with state := .awaitingSlot, timer := none }
  have claimed : (s.setAxis a waits).axis a = waits := State.axis_setAxis_same s a waits
  have grants : (s.setAxis a waits).granted a =
      ((s.setAxis a (homingBegun r (!flagLevel s.ldu.flags a))).referenceLost a).beginUnit tag := by
    have begins := beginHoming_home (s := s.setAxis a waits) (a := a) (tag := tag) (by rw [claimed]; exact owner)
    rw [State.granted, if_pos (by rw [claimed]; exact pending), begins, claimed, State.setAxis_setAxis,
      State.setAxis_flags]
    rfl
  have emptied : ((s.setAxis a waits).granted a).ldu.waitList = [] := by
    rw [grants, (State.beginUnit_frame _ tag).2.2.1, (State.referenceLost_frame _ a).2.2.2.1,
      State.setAxis_waitList]
    exact idle
  have rests : (s.axis a).stepping = false := by rw [stands, AxisRec.stepping, energizing]
  have joined := joinWait_arbitrate (r := r) idle slots rests emptied
  have state : ((((s.setAxis a (homingBegun r (!flagLevel s.ldu.flags a))).referenceLost a).beginUnit tag).axis a).state =
      .homing := by
    have same : (((s.setAxis a (homingBegun r (!flagLevel s.ldu.flags a))).referenceLost a).beginUnit tag).axis a =
        ((s.setAxis a (homingBegun r (!flagLevel s.ldu.flags a))).referenceLost a).axis a := by cases a <;> rfl
    rw [same, referenceLost_axis, State.axis_setAxis_same]
    rfl
  rw [State.energized, stands, joined, grants]
  refine if_neg ?_
  rw [state]
  exact fun both => absurd both.1 (by decide)

/-! ## A homing step (R30) -/

/-- A homing step counted, before what it finds. -/
def homed (s : State) (a : Axis) (tag : Nat) : State := ((s.reportStep a).beginUnit tag).countUnit tag

theorem homed_ldu (s : State) (a : Axis) (tag : Nat) : (homed s a tag).ldu = s.ldu :=
  (reportStep_others s a).1

theorem homed_otb (s : State) (a : Axis) (tag : Nat) : (homed s a tag).otb = s.otb :=
  (reportStep_others s a).2.2.2.2.1

theorem begun_iff (h : Homing) : h.begun = true ↔ h = .up ∨ h = .down := by cases h <;> decide

theorem countStep_homing {s : State} {a : Axis} {tag : Nat} (owner : (s.axis a).owner = some (.op .home tag))
    (homing : (s.axis a).state = .homing) (runs : ∀ o, s.lensOp tag = some o → o.waitStopped = false) :
    s.countStep a = (s.beginUnit tag).countUnit tag := by
  simp only [State.countStep, owner, homing, true_or, if_true, countLens_runs runs]

/-- A homing step by what the flag and the count say. -/
theorem homingStep_eq {s : State} {a : Axis} {r : AxisRec} {tag : Nat} (stands : s.axis a = r)
    (owner : r.owner = some (.op .home tag)) (state : r.state = .homing) (begun : r.homing = .up ∨ r.homing = .down)
    (after : r.after = .goOn) (runs : ∀ o, s.lensOp tag = some o → o.waitStopped = false) :
    s.homingStep a =
      (let q := { r with homingCount := r.homingCount + 1 }
       let t := (homed s a tag).setAxis a q
       if r.homing = .down ∧ flagLevel s.ldu.flags a = false then (t.homingFound a).arbitrate
       else if homeLimit a ≤ r.homingCount + 1 then
         (((t.setAxis a q.settle).attention (axisSource a) .noReference (r.homingCount + 1)).markPart a
           .failed).arbitrate
       else
         t.setAxis a
           { q with homing := if r.homing = .up ∧ flagLevel s.ldu.flags a = false then .up else .down,
                    stepUp := decide (r.homing = .up ∧ flagLevel s.ldu.flags a = false),
                    stepTime := r.setup.interval }) := by
  have counts : (s.reportStep a).countStep a = homed s a tag :=
    countStep_homing (by rw [reportStep_axis, stands]; exact owner) (by rw [reportStep_axis, stands]; exact state)
      (by rw [reportStep_lensOp]; exact runs)
  have interval := stepInterval_own (s := s) (a := a) (by rw [stands]; exact owner) (.inr (.inl rfl))
  have steps : r.homing.begun = true := (begun_iff _).mpr begun
  have asked : ¬ r.homing = .pending := by obtain up | down := begun <;> simp_all
  have held : ¬ r.after = .hold := by rw [after]; decide
  have settles : ¬ r.after = .settle := by rw [after]; decide
  subst stands
  simp only [State.homingStep, steps, counts, interval, if_true, held, asked, settles, if_false, Bool.true_eq_false]

/-- A homing step, with no scan and no settle time that passes at once. -/
theorem stepCompleted_homes {s t : State} {a : Axis} (state : (s.axis a).state = .homing) (homes : s.homingStep a = t)
    (still : t.fsu.scan = none) (own : (t.axis a).state = .settling → (t.axis a).timer ≠ some 0)
    (others : ∀ b, b ≠ a → t.axis b = s.axis b) : s.stepCompleted a = t := by
  have completes : s.completeStep a = (t, .stepped) := by rw [State.completeStep, state, homes]
  refine stepCompleted_steps completes still own fun b other waits => ?_
  rw [others b other, waits]
  decide

theorem axis_of_ldu {s t : State} (same : s.ldu = t.ldu) (a : Axis) : s.axis a = t.axis a := by
  cases a <;> simp only [State.axis, same]

theorem homed_axis (s : State) (a b : Axis) (tag : Nat) : (homed s a tag).axis b = s.axis b :=
  axis_of_ldu (homed_ldu s a tag) b

theorem homed_scan (s : State) (a : Axis) (tag : Nat) : (homed s a tag).fsu.scan = s.fsu.scan :=
  congrArg Fsu.scan (reportStep_others s a).2.1

theorem attention_scan (s : State) (source : Source) (condition : Condition) (detail : Nat) :
    (s.attention source condition detail).fsu = s.fsu := by
  unfold State.attention
  split <;> rfl

theorem markPart_home {s : State} {a : Axis} {tag : Nat} (owner : (s.axis a).owner = some (.op .home tag))
    (part : HomePart) : s.markPart a part = s.setBody tag (setHomePart a part) := by
  simp only [State.markPart, owner]

theorem setBody_axis (s : State) (tag : Nat) (f : LensBody → LensBody) (a : Axis) :
    (s.setBody tag f).axis a = s.axis a := by
  cases a <;> rfl

theorem excFound_others (s : State) : s.excFound.fsu = s.fsu ∧ s.excFound.ldu = s.ldu := by
  refine ⟨?_, (State.excFound_frame s).2.2.2.1⟩
  unfold State.excFound
  split
  · split <;> rfl
  · rfl

theorem excFound_axis (s : State) (a : Axis) : s.excFound.axis a = s.axis a :=
  axis_of_ldu (excFound_others s).2 a

/-- The record of an axis whose homing has ended, its last step counted. -/
def homingEnds (r : AxisRec) : AxisRec := AxisRec.settle { r with homingCount := r.homingCount + 1 }

theorem homingEnds_timer {r : AxisRec} (settle : r.setup.settle ≠ 0) : (homingEnds r).timer ≠ some 0 := by
  simpa [homingEnds, AxisRec.settle] using settle

/-- The home limit is used up (R30, step 3). -/
def limitReached (s : State) (a : Axis) (r : AxisRec) (tag : Nat) : State :=
  (((homed s a tag).setAxis a (homingEnds r)).attention (axisSource a) .noReference (r.homingCount + 1)).setBody tag
    (setHomePart a .failed)

theorem limitReached_axis (s : State) (a b : Axis) (r : AxisRec) (tag : Nat) :
    (limitReached s a r tag).axis b = if b = a then homingEnds r else s.axis b := by
  rw [limitReached, setBody_axis, attention_axis]
  split
  · rename_i same
    rw [same, State.axis_setAxis_same]
  · rename_i other
    rw [State.axis_setAxis_ne _ _ other, homed_axis]

/-- The hypotheses of a homing step under a HOME. -/
structure Homes (s : State) (a : Axis) (r : AxisRec) (tag : Nat) : Prop where
  stands : s.axis a = r
  owner : r.owner = some (.op .home tag)
  state : r.state = .homing
  begun : r.homing = .up ∨ r.homing = .down
  after : r.after = .goOn
  idle : s.ldu.waitList = []
  still : s.fsu.scan = none
  runs : ∀ o, s.lensOp tag = some o → o.waitStopped = false

/-- A homing step that neither finds the reference nor uses up the limit (R30). -/
theorem stepCompleted_homing {s : State} {a : Axis} {r : AxisRec} {tag : Nat} (h : Homes s a r tag)
    (seeks : ¬ (r.homing = .down ∧ flagLevel s.ldu.flags a = false)) (within : ¬ homeLimit a ≤ r.homingCount + 1) :
    s.stepCompleted a =
      (homed s a tag).setAxis a
        { r with homingCount := r.homingCount + 1,
                 homing := if r.homing = .up ∧ flagLevel s.ldu.flags a = false then .up else .down,
                 stepUp := decide (r.homing = .up ∧ flagLevel s.ldu.flags a = false),
                 stepTime := r.setup.interval } := by
  have step := homingStep_eq h.stands h.owner h.state h.begun h.after h.runs
  simp only [if_neg seeks, if_neg within, State.setAxis_setAxis] at step
  refine stepCompleted_homes (by rw [h.stands]; exact h.state) step ?_ ?_ fun b other => ?_
  · rw [State.setAxis_fsu, homed_scan]
    exact h.still
  · rw [State.axis_setAxis_same]
    intro settling
    rw [show _ = AxisState.homing from h.state] at settling
    exact absurd settling (by decide)
  · rw [State.axis_setAxis_ne _ _ other, homed_axis]

theorem stepCompleted_limit {s : State} {a : Axis} {r : AxisRec} {tag : Nat} (h : Homes s a r tag)
    (seeks : ¬ (r.homing = .down ∧ flagLevel s.ldu.flags a = false)) (limit : homeLimit a ≤ r.homingCount + 1)
    (settle : r.setup.settle ≠ 0) : s.stepCompleted a = limitReached s a r tag := by
  have step := homingStep_eq h.stands h.owner h.state h.begun h.after h.runs
  simp only [if_neg seeks, if_pos limit, State.setAxis_setAxis] at step
  have claimed : (((((homed s a tag).setAxis a (homingEnds r)).attention (axisSource a) .noReference
      (r.homingCount + 1))).axis a).owner = some (.op .home tag) := by
    rw [attention_axis, State.axis_setAxis_same]
    exact h.owner
  have free : (limitReached s a r tag).ldu.waitList = [] := by
    show (((homed s a tag).setAxis a (homingEnds r)).attention _ _ _).ldu.waitList = []
    rw [(State.attention_frame _ _ _ _).2.2.1, State.setAxis_waitList, homed_ldu]
    exact h.idle
  have ended : s.homingStep a = limitReached s a r tag :=
    step.trans ((congrArg State.arbitrate (markPart_home claimed .failed)).trans (State.arbitrate_nil _ free))
  refine stepCompleted_homes (by rw [h.stands]; exact h.state) ended ?_ ?_ fun b other => ?_
  · show (((homed s a tag).setAxis a (homingEnds r)).attention _ _ _).fsu.scan = none
    rw [attention_scan, State.setAxis_fsu, homed_scan]
    exact h.still
  · rw [limitReached_axis, if_pos rfl]
    exact fun _ => homingEnds_timer settle
  · rw [limitReached_axis, if_neg other]

/-- The zoom goes on from the reference to the wide end (R31). -/
def towardWide (r : AxisRec) (wide : Nat) : AxisRec :=
  { r with pp := some 100, target := some wide, state := .moving, homing := .none, homingCount := r.homingCount + 1,
           after := .goOn, timer := none, stepUp := decide (100 < wide), stepTime := r.setup.interval }

theorem wideEnd_otb {s t : State} (same : s.otb = t.otb) : s.wideEnd = t.wideEnd := by
  rw [State.wideEnd, State.wideEnd, same]

theorem homingFound_wide {s : State} {r : AxisRec} {tag : Nat} (stands : s.ldu.zoom = r)
    (owner : r.owner = some (.op .home tag)) (after : r.after = .goOn) (valid : s.otb.state = .valid)
    (apart : s.wideEnd ≠ 100) :
    s.homingFound .zoom =
      State.excFound
        ((s.setAxis .zoom
          { r with pp := some 100, target := some s.wideEnd, state := .moving, homing := .none, after := .goOn,
                   timer := none, stepUp := decide (100 < s.wideEnd), stepTime := r.setup.interval }).setBody tag
          (setHomePart .zoom .toWide)) := by
  subst stands
  have goes : Axis.zoom = .zoom ∧ s.otb.state = .valid ∧ (s.axis .zoom).after = .goOn ∧
      s.wideEnd ≠ referencePosition .zoom := ⟨rfl, valid, after, apart⟩
  let found : AxisRec := { s.ldu.zoom with pp := some 100, target := some s.wideEnd, homing := .none }
  have claimed : ((s.setAxis .zoom found).axis .zoom).owner = some (.op .home tag) := owner
  have interval := stepInterval_own (s := (s.setAxis .zoom found).setBody tag (setHomePart .zoom .toWide))
    (a := .zoom) owner (.inr (.inl rfl))
  rw [State.homingFound, if_pos goes]
  show State.excFound (State.beginStep (State.markPart (s.setAxis .zoom found) .zoom .toWide) .zoom) = _
  rw [markPart_home claimed, State.beginStep, interval]
  rfl

theorem homingFound_settles {s : State} {a : Axis} {r : AxisRec} {tag : Nat} (stands : s.axis a = r)
    (owner : r.owner = some (.op .home tag))
    (short : ¬ (a = .zoom ∧ s.otb.state = .valid ∧ s.wideEnd ≠ 100)) :
    s.homingFound a =
      (let t := (s.setAxis a (AxisRec.settle { r with pp := some (referencePosition a), target := none })).setBody tag
        (setHomePart a .found)
       if a = .focus then t else t.excFound) := by
  subst stands
  have ends : ¬ (a = .zoom ∧ s.otb.state = .valid ∧ (s.axis a).after = .goOn ∧
      s.wideEnd ≠ referencePosition .zoom) := fun all => short ⟨all.1, all.2.1, all.2.2.2⟩
  have whole : decide (a = .zoom ∧ s.otb.state = .valid ∧ s.wideEnd ≠ referencePosition .zoom) = false :=
    decide_eq_false short
  have claimed : ((s.setAxis a (AxisRec.settle { s.axis a with
      pp := some (referencePosition a), target := none, homing := .none })).axis a).owner = some (.op .home tag) := by
    rw [State.axis_setAxis_same]
    exact owner
  simp only [State.homingFound, if_neg ends, whole, Bool.false_eq_true, if_false, markPart_home claimed]
  rfl

theorem stepCompleted_wide {s : State} {r : AxisRec} {tag : Nat} (h : Homes s .zoom r tag) (down : r.homing = .down)
    (low : flagLevel s.ldu.flags .zoom = false) (valid : s.otb.state = .valid) (apart : s.wideEnd ≠ 100) :
    s.stepCompleted .zoom =
      State.excFound
        (((homed s .zoom tag).setAxis .zoom (towardWide r s.wideEnd)).setBody tag (setHomePart .zoom .toWide)) := by
  let q : AxisRec := { r with homingCount := r.homingCount + 1 }
  have otb : ((homed s .zoom tag).setAxis .zoom q).otb = s.otb := homed_otb s .zoom tag
  have found := homingFound_wide (s := (homed s .zoom tag).setAxis .zoom q) (r := q) (tag := tag) rfl h.owner h.after
    (by rw [otb]; exact valid) (by rw [wideEnd_otb otb]; exact apart)
  rw [wideEnd_otb otb] at found
  have step := homingStep_eq h.stands h.owner h.state h.begun h.after h.runs
  simp only [if_pos (show r.homing = .down ∧ flagLevel s.ldu.flags .zoom = false from ⟨down, low⟩)] at step
  have free : (State.homingFound ((homed s .zoom tag).setAxis .zoom q) .zoom).ldu.waitList = [] := by
    rw [found, (excFound_others _).2]
    exact (congrArg Ldu.waitList (homed_ldu s .zoom tag)).trans h.idle
  refine stepCompleted_homes (by rw [h.stands]; exact h.state)
    (step.trans ((State.arbitrate_nil _ free).trans found)) ?_ ?_ fun b other => ?_
  · rw [(excFound_others _).1]
    exact (homed_scan s .zoom tag).trans h.still
  · rw [excFound_axis]
    exact fun settling => absurd (show AxisState.moving = .settling from settling) (by decide)
  · rw [excFound_axis, setBody_axis, State.axis_setAxis_ne _ _ other, homed_axis]

theorem stepCompleted_found {s : State} {a : Axis} {r : AxisRec} {tag : Nat} (h : Homes s a r tag)
    (down : r.homing = .down) (low : flagLevel s.ldu.flags a = false) (settle : r.setup.settle ≠ 0)
    (short : ¬ (a = .zoom ∧ s.otb.state = .valid ∧ s.wideEnd ≠ 100)) :
    s.stepCompleted a =
      (let t := ((homed s a tag).setAxis a
        { homingEnds r with pp := some (referencePosition a), target := none }).setBody tag (setHomePart a .found)
       if a = .focus then t else t.excFound) := by
  let q : AxisRec := { r with homingCount := r.homingCount + 1 }
  have claimed : ((homed s a tag).setAxis a q).axis a = q := State.axis_setAxis_same _ a q
  have otb : ((homed s a tag).setAxis a q).otb = s.otb := (State.setAxis_otb _ a q).trans (homed_otb s a tag)
  have found := homingFound_settles claimed h.owner (by rw [otb, wideEnd_otb otb]; exact short)
  rw [State.setAxis_setAxis] at found
  have step := homingStep_eq h.stands h.owner h.state h.begun h.after h.runs
  simp only [if_pos (show r.homing = .down ∧ flagLevel s.ldu.flags a = false from ⟨down, low⟩)] at step
  let settled : State := ((homed s a tag).setAxis a
    { homingEnds r with pp := some (referencePosition a), target := none }).setBody tag (setHomePart a .found)
  have others : (if a = .focus then settled else settled.excFound).ldu = settled.ldu ∧
      (if a = .focus then settled else settled.excFound).fsu = settled.fsu := by
    split
    · exact ⟨rfl, rfl⟩
    · exact (excFound_others settled).symm
  have axes (b : Axis) : (if a = .focus then settled else settled.excFound).axis b =
      ((homed s a tag).setAxis a { homingEnds r with pp := some (referencePosition a), target := none }).axis b := by
    rw [axis_of_ldu others.1 b, setBody_axis]
  have ends : State.homingFound ((homed s a tag).setAxis a q) a =
      if a = .focus then settled else settled.excFound := found
  have free : (if a = .focus then settled else settled.excFound).ldu.waitList = [] := by
    rw [others.1]
    exact (State.setAxis_waitList _ a _).trans ((congrArg Ldu.waitList (homed_ldu s a tag)).trans h.idle)
  refine stepCompleted_homes (by rw [h.stands]; exact h.state)
    (step.trans ((congrArg State.arbitrate ends).trans (State.arbitrate_nil _ free))) ?_ ?_ fun b other => ?_
  · rw [others.2]
    exact (congrArg Fsu.scan (State.setAxis_fsu _ a _)).trans ((homed_scan s a tag).trans h.still)
  · rw [axes, State.axis_setAxis_same]
    exact fun _ => homingEnds_timer settle
  · rw [axes, State.axis_setAxis_ne _ _ other, homed_axis]

/-! ## The events (R30) -/

/-- HOME_LIMIT_REACHED is the step that uses up the limit without finding the reference. -/
theorem reachesLimit_iff {s : State} {a : Axis} {r : AxisRec} {tag : Nat} (h : Homes s a r tag) (flags : RefFlags)
    (seeks : ¬ (r.homing = .down ∧ flagLevel flags a = false)) :
    s.reachesLimit a flags = decide (homeLimit a ≤ r.homingCount + 1) := by
  have found : (r.homing == .down && !flagLevel flags a) = false := by simpa using seeks
  have held : (r.after != .hold) = true := by rw [h.after]; rfl
  have homing : (r.state == .homing) = true := by rw [h.state]; rfl
  simp only [State.reachesLimit, h.stands, (begun_iff _).mpr h.begun, found, held, homing, Bool.and_self, Bool.not_false,
    Bool.true_and]

/-- Settles O15: homing begins in a slot, goes on, uses up the limit, or finds the reference. -/
theorem homingSteps : Obligations.HomingSteps := by
  rintro a tag flags s r stands owner idle still runs
  let read := s.readFlags flags
  have reads : read.axis a = r := by cases a <;> exact stands
  dsimp only
  refine ⟨fun energizing timer pending slots => ?_, fun homing begun after => ⟨fun seeks => ?_,
    fun down low settle => ⟨fun wide => ?_, fun short => ?_⟩⟩⟩
  · have asked : exec (.energizeTimeout a flags) s = .next (read.energized a) :=
      congrArg Host.Outcome.next (if_pos ⟨by rw [stands]; exact energizing, by rw [stands]; exact timer⟩)
    have begins := energized_homing (s := read) reads owner energizing pending idle slots
    rw [asked, begins]
    cases a with
    | zoom =>
      refine congrArg (fun v : State => Host.Outcome.next (v.beginUnit tag)) ?_
      exact centreStu_eq _
    | focus => rfl
    | iris => rfl
  all_goals
    have h : Homes read a r tag := ⟨reads, owner, homing, begun, after, idle, still, runs⟩
    have asked := exec_axisStepComplete flags (s := s) (a := a) (.inr (by rw [stands]; exact homing))
  · have onward : ¬ (r.homing = .down ∧ flagLevel flags a = false) := by
      rintro ⟨down, low⟩
      rw [down, low] at seeks
      exact absurd seeks (by decide)
    have limits := reachesLimit_iff (s := s) ⟨stands, owner, homing, begun, after, idle, still, runs⟩ flags onward
    refine ⟨fun within => ⟨?_, ?_⟩, fun limit settle => ⟨?_, ?_⟩⟩
    · exact congrArg Host.Outcome.next (if_neg (by rw [limits]; simpa using within))
    · have up : (decide (r.homing = .up) && !flagLevel flags a) =
          decide (r.homing = .up ∧ flagLevel flags a = false) := by
        cases flagLevel flags a <;> simp
      rw [asked, stepCompleted_homing h onward (Nat.not_le.mpr within)]
      simp only [up, decide_eq_true_eq]
      rfl
    · rw [asked, stepCompleted_limit h onward limit settle]
      rfl
    · have reached : exec (.homeLimitReached a flags) s = .next (read.stepCompleted a) :=
        congrArg Host.Outcome.next (if_pos (by rw [limits]; simpa using limit))
      rw [reached, stepCompleted_limit h onward limit settle]
      rfl
  · obtain ⟨rfl, valid, apart⟩ := wide
    rw [asked, stepCompleted_wide h down ((Bool.not_eq_true' _).mp low) valid apart]
    rfl
  · rw [asked, stepCompleted_found h down ((Bool.not_eq_true' _).mp low) settle short]
    rfl

end Sys2Proof.Proofs.HomingFacts
end

section
/-! PROOFS. How a lens operation ends once its last axis has settled (R6, R7, R9, R12, R26, R31, R32, R35, R36). -/

namespace Sys2Proof.Proofs.LensEndings
open Sys2Proof Sys2Proof.Machine Sys2Proof.Proofs.CardFacts Sys2Proof.Proofs.LensRequests Sys2Proof.Proofs.HomingFacts

-- one declaration after another: each unfolds operations whose equations another would be waiting for
set_option Elab.async false

/-! ## Claims and their end (R26) -/

/-- A lens operation claims the axis. -/
def claims : LensBody → Axis → Bool
  | .home z f i, b =>
    (match b with
     | .zoom => z != .notNamed
     | .focus => f != .notNamed
     | .iris => i != .notNamed)
  | .move c _ _, b => b == c
  | .zoom _ _ _ _ _, b => b != .iris
  | .park _, _ => true

theorem claimedAxes_eq (body : LensBody) : claimedAxes body = allAxes.filter (claims body) := by
  cases body with
  | home z f i =>
    simp only [claimedAxes, claims, allAxes, List.filter_cons, List.filter_nil, bne_iff_ne, ne_eq, ite_not]
    split <;> split <;> split <;> rfl
  | move c v clampFlag => cases c <;> rfl
  | zoom start v follow clampFlag lost => rfl
  | park lost => rfl

/-- An axis record after its claim has ended, or as it stands. -/
def freedIf (c : Bool) (r : AxisRec) : AxisRec := if c then { r with owner := none } else r

/-- The claims on some axes end; no iris target waits for a freed iris. -/
theorem release_eq {s : State} {q : Axis → Bool}
    (quiet : q .iris = true → s.ldu.pendingIris = none ∧ s.ldu.waitList = []) :
    s.release (allAxes.filter q) =
      { s with ldu := { s.ldu with
          zoom := freedIf (q .zoom) s.ldu.zoom, focus := freedIf (q .focus) s.ldu.focus,
          iris := freedIf (q .iris) s.ldu.iris } } := by
  have freed := foldl_setAxis (q := q) (s := s)
    (change := fun t a => t.setAxis a { t.axis a with owner := none })
    (f := fun _ r => { r with owner := none }) fun a t _ same => by rw [same]
  let t : State :=
    { s with ldu := { s.ldu with
        zoom := freedIf (q .zoom) s.ldu.zoom, focus := freedIf (q .focus) s.ldu.focus,
        iris := freedIf (q .iris) s.ldu.iris } }
  have released : s.release (allAxes.filter q) =
      if (allAxes.filter q).contains .iris then t.actIris.1.arbitrate else t :=
    congrArg (fun t : State => if (allAxes.filter q).contains .iris then t.actIris.1.arbitrate else t) freed
  rw [released]
  split
  · rename_i named
    have claimed : q .iris = true := by simpa [allAxes] using named
    obtain ⟨pending, idle⟩ := quiet claimed
    have stays : t.actIris.1 = t := by
      rw [State.actIris, show t.ldu.pendingIris = none from pending]
    rw [stays, State.arbitrate_nil t idle]
  · rfl

/-! ## The ending (R6, R32, R50) -/

/-- d at the end of a lens operation: the end of a focus MOVE that did not fail sets it anew. -/
def endingD (s : State) (body : LensBody) (cls : EndClass) : Nat :=
  match body with
  | .move .focus _ _ => if cls = .terminated then s.ldu.d else s.backD
  | _ => s.ldu.d

/-- What the ENDING reports of the axes. -/
def endingFields (s : State) (d : Nat) : LensBody → EndFields
  | .home z f i => .home (s.homeField .zoom z) (s.homeField .focus f) (s.homeField .iris i)
  | .move c v clampFlag => .move c (s.axis c).pp clampFlag v d
  | .zoom _ v _ clampFlag lost => .zoom s.ldu.zoom.pp s.ldu.focus.pp lost clampFlag v d
  | .park lost => .park s.ldu.zoom.pp s.ldu.focus.pp s.ldu.iris.pp lost

/-- The state after the ending of a lens operation, its axes as `at` gives them. -/
def endedState (s : State) (at_ : Axis → AxisRec) (o : LensOp) (e : OpEntry) (cls : EndClass) (cause : Cause)
    (resume : Resume) : State :=
  { s with
      ldu := { s.ldu with
        zoom := freedIf (claims o.body .zoom) (at_ .zoom), focus := freedIf (claims o.body .focus) (at_ .focus),
        iris := freedIf (claims o.body .iris) (at_ .iris), d := endingD s o.body cls,
        ops := s.ldu.ops.filter fun p => p.tag != o.tag },
      opt := { table := s.opt.table.filter (fun f => f.tag != o.tag),
               outbox := s.opt.outbox ++
                 [.ending { tag := o.tag, kind := e.kind, cls := cls, cause := cause, done := e.done, resume := resume,
                            result := none, fields := endingFields s (endingD s o.body cls) o.body }] } }

theorem endLensOp_eq {s : State} {o : LensOp} {e : OpEntry} {cls : EndClass} {cause : Cause} {resume : Resume}
    (outcome : s.lensOutcome o = (cls, cause, resume)) (found : s.entry o.tag = some e)
    (quiet : claims o.body .iris = true → s.ldu.pendingIris = none ∧ s.ldu.waitList = []) :
    s.endLensOp o = endedState s s.axis o e cls cause resume := by
  let t : State := { s with ldu := { s.ldu with d := endingD s o.body cls } }
  have computed :
      (match o.body with
       | .move .focus _ _ => if cls = .terminated then s else { s with ldu := { s.ldu with d := s.backD } }
       | _ => s) = t := by
    obtain ⟨tag, body, stopped⟩ := o
    cases body with
    | move c v clampFlag =>
      cases c with
      | focus =>
        show (if _ then _ else _) = t
        simp only [t, endingD]
        split <;> rfl
      | zoom => rfl
      | iris => rfl
    | home z f i => rfl
    | zoom start v follow clampFlag lost => rfl
    | park lost => rfl
  have fields : t.lensFields o.body = endingFields s (endingD s o.body cls) o.body := by
    obtain ⟨tag, body, stopped⟩ := o
    cases body with
    | move c v clampFlag => cases c <;> rfl
    | home z f i => rfl
    | zoom start v follow clampFlag lost => rfl
    | park lost => rfl
  let finish (t : State) : State :=
    let u := t.ending o.tag cls cause resume none (t.lensFields o.body)
    State.release { u with ldu := { u.ldu with ops := u.ldu.ops.filter fun p => p.tag != o.tag } } (claimedAxes o.body)
  have ends : s.endLensOp o = finish t := by
    rw [State.endLensOp, outcome]
    exact congrArg finish computed
  rw [ends]
  simp only [finish]
  rw [ending_eq (s := t) found, fields, claimedAxes_eq]
  exact release_eq quiet

/-! ## What the ending says (R7, R9, R31, R32, R35, R36) -/

/-- The failure of a lens operation. -/
def failureOf (s : State) : LensBody → Option Cause
  | .home z f i => if z = .failed ∨ f = .failed ∨ i = .failed then some .noReference else none
  | .move c _ _ => if (s.axis c).pp = none then some .lostStep else none
  | .zoom _ _ _ _ lost => lost.map fun _ => .lostStep
  | .park lost => lost.map fun _ => .lostStep

/-- The lens operation stands at its own end. -/
def atEnd (s : State) : LensBody → Prop
  | .home z f i => (z = .notNamed ∨ z = .found) ∧ (f = .notNamed ∨ f = .found) ∧ (i = .notNamed ∨ i = .found)
  | .move c v _ => (s.axis c).pp = some v
  | .zoom _ v _ _ _ => s.ldu.zoom.pp = some v
  | .park _ => s.ldu.zoom.pp = some 0 ∧ s.ldu.focus.pp = some 0 ∧ s.ldu.iris.pp = some 0

/-- A named axis whose homing has not succeeded, in the resume mask. -/
def leftOver (part : HomePart) (bit : Nat) : Nat :=
  if part = .notNamed ∨ part = .found ∨ part = .cutWide then 0 else bit

/-- The resume operands of a PARTIAL lens operation. -/
def againOf : LensBody → Resume
  | .home z f i => .home (leftOver z 1 + leftOver f 2 + leftOver i 4)
  | .move c v _ => .move c v
  | .zoom _ v _ _ _ => .zoom v
  | .park _ => .absent

/-- The recorded cause of a stop. -/
def stopOf (e : OpEntry) : Cause := match e.cause with | some .preempted => .preempted | _ => .stopped

theorem lensFailure_eq (s : State) (body : LensBody) : s.lensFailure body = failureOf s body := by
  cases body with
  | home z f i => simp only [State.lensFailure, failureOf, Bool.or_eq_true, decide_eq_true_eq, or_assoc]
  | move c v clampFlag => rfl
  | zoom start v follow clampFlag lost => cases lost <;> rfl
  | park lost => cases lost <;> rfl

theorem lensDone_iff (s : State) (body : LensBody) : s.lensDone body = true ↔ atEnd s body := by
  cases body with
  | home z f i => simp only [State.lensDone, atEnd, Bool.and_eq_true, Bool.or_eq_true, decide_eq_true_eq, and_assoc]
  | move c v clampFlag => simp only [State.lensDone, atEnd, beq_iff_eq]
  | zoom start v follow clampFlag lost => simp only [State.lensDone, atEnd, beq_iff_eq]
  | park lost => simp only [State.lensDone, atEnd, Bool.and_eq_true, beq_iff_eq, and_assoc]

theorem leftOver_eq (part : HomePart) (bit : Nat) :
    (if part = .notNamed || part.succeeded then 0 else bit) = leftOver part bit := by
  cases part <;> rfl

theorem lensResume_eq (body : LensBody) : lensResume body = againOf body := by
  cases body with
  | home z f i => simp only [lensResume, resumeMask, againOf, leftOver_eq]
  | move c v clampFlag => rfl
  | zoom start v follow clampFlag lost => rfl
  | park lost => rfl

theorem recordedCause_eq {s : State} {tag : Nat} {e : OpEntry} (found : s.entry tag = some e) :
    s.recordedCause tag = stopOf e := by
  obtain ⟨tag', kind, state, made, planned, cause⟩ := e
  simp only [State.recordedCause, found, stopOf]
  cases cause with
  | none => rfl
  | some c => cases c <;> rfl

/-- What a lens operation reports: a failure stands before a stop, a stop that found it WAITING before its own end. -/
theorem lensOutcome_eq {s : State} {o : LensOp} {e : OpEntry} (found : s.entry o.tag = some e) :
    (∀ cause, failureOf s o.body = some cause → s.lensOutcome o = (.terminated, cause, .absent)) ∧
    (failureOf s o.body = none →
      (o.waitStopped = true → s.lensOutcome o = (.suppressed, stopOf e, .absent)) ∧
      (o.waitStopped = false → atEnd s o.body → s.lensOutcome o = (.complete, .none, .absent)) ∧
      (o.waitStopped = false → ¬ atEnd s o.body → s.lensOutcome o = (.partialEnd, stopOf e, againOf o.body))) := by
  have outcome : s.lensOutcome o =
      match failureOf s o.body with
      | some cause => (.terminated, cause, .absent)
      | none =>
        if o.waitStopped then (.suppressed, stopOf e, .absent)
        else if s.lensDone o.body then (.complete, .none, .absent)
        else (.partialEnd, stopOf e, againOf o.body) := by
    rw [State.lensOutcome, lensFailure_eq, recordedCause_eq found, lensResume_eq] <;> rfl
  refine ⟨fun cause fails => ?_, fun clean => ⟨fun waited => ?_, fun ran arrived => ?_, fun ran short => ?_⟩⟩
  · rw [outcome, fails]
  · rw [outcome, clean, waited] <;> rfl
  · simp only [outcome, clean, ran, (lensDone_iff s o.body).mpr arrived, Bool.false_eq_true, if_false, if_true]
  · simp only [outcome, clean, ran, Bool.eq_false_iff.mpr fun d => short ((lensDone_iff s o.body).mp d),
      Bool.false_eq_true, if_false]

/-! ## The last axis becomes HELD -/

theorem axisHeld_lensOp {s : State} {a : Axis} {kind : OpKind} {tag : Nat}
    (lens : kind = .home ∨ kind = .move ∨ kind = .zoom ∨ kind = .park)
    (owner : (s.axis a).owner = some (.op kind tag)) : s.axisHeld a = s.lensOpHeld tag := by
  simp only [State.axisHeld, owner]
  obtain rfl | rfl | rfl | rfl := lens <;> rfl

/-- With no capture nobody waits for a lens operation to end (R11). -/
theorem lensOpHeld_idle {s : State} {tag : Nat} (none : (s.checkLensEnd tag).csq.capture = none) :
    s.lensOpHeld tag = s.checkLensEnd tag := by
  show (if _ then _ else _) = _
  split
  · rw [State.lensFreed, none]
  · rfl

/-- The state with the axis HELD. -/
def heldAt (s : State) (a : Axis) : State := s.setAxis a (s.axis a).hold

/-- The settle time of the last axis ends: its operation ends with what it reports. -/
theorem settleTimeout_ends {s : State} {a : Axis} {kind : OpKind} {o : LensOp} {e : OpEntry} {cls : EndClass}
    {cause : Cause} {resume : Resume} (lens : kind = .home ∨ kind = .move ∨ kind = .zoom ∨ kind = .park)
    (owner : (s.axis a).owner = some (.op kind o.tag)) (settling : (s.axis a).state = .settling)
    (timer : (s.axis a).timer.isSome = true) (op : s.lensOp o.tag = some o) (found : s.entry o.tag = some e)
    (none : s.csq.capture = none)
    (rest : ∀ b, claims o.body b = true → b ≠ a → (s.axis b).state = .held ∨ (s.axis b).state = .released)
    (quiet : claims o.body .iris = true → s.ldu.pendingIris = .none ∧ s.ldu.waitList = [])
    (outcome : (heldAt s a).lensOutcome o = (cls, cause, resume)) :
    exec (.settleTimeout a) s = .next (endedState (heldAt s a) (heldAt s a).axis o e cls cause resume) := by
  have claimed : ((heldAt s a).axis a).owner = some (.op kind o.tag) := by
    rw [heldAt, State.axis_setAxis_same]
    exact owner
  have still (b : Axis) (member : b ∈ claimedAxes o.body) : ((heldAt s a).axis b).atRest = true := by
    by_cases same : b = a
    · rw [same, heldAt, State.axis_setAxis_same]
      rfl
    · have named : claims o.body b = true := by
        rw [claimedAxes_eq] at member
        exact (List.mem_filter.mp member).2
      rw [heldAt, State.axis_setAxis_ne _ _ same, AxisRec.atRest]
      obtain state | state := rest b named same <;> rw [state]
  have ends : (heldAt s a).checkLensEnd o.tag = endedState (heldAt s a) (heldAt s a).axis o e cls cause resume := by
    have op' : (heldAt s a).lensOp o.tag = some o := (LensSteps.setAxis_lensOp s a _ o.tag).trans op
    have found' : (heldAt s a).entry o.tag = some e := by
      rw [State.entry, heldAt, State.setAxis_opt]
      exact found
    have quiet' : claims o.body .iris = true → (heldAt s a).ldu.pendingIris = .none ∧ (heldAt s a).ldu.waitList = [] := by
      rw [heldAt, State.setAxis_pendingIris, State.setAxis_waitList]
      exact quiet
    simp only [State.checkLensEnd, op', if_pos (List.all_eq_true.mpr still)]
    exact endLensOp_eq outcome found' quiet'
  rw [exec_settleTimeout settling timer]
  show Host.Outcome.next ((heldAt s a).axisHeld a) = _
  rw [axisHeld_lensOp lens claimed, lensOpHeld_idle, ends]
  rw [ends]
  exact (congrArg Csq.capture (State.setAxis_csq s a _)).trans none

/-! ## The general ending, told of the state before -/

theorem heldAt_pp (s : State) (a b : Axis) : ((heldAt s a).axis b).pp = (s.axis b).pp := by
  cases a <;> cases b <;> rfl

theorem failureOf_heldAt (s : State) (a : Axis) (body : LensBody) : failureOf (heldAt s a) body = failureOf s body := by
  cases body with
  | move c v clampFlag => simp only [failureOf, heldAt_pp]
  | home z f i => rfl
  | zoom start v follow clampFlag lost => rfl
  | park lost => rfl

theorem atEnd_heldAt (s : State) (a : Axis) (body : LensBody) : atEnd (heldAt s a) body ↔ atEnd s body := by
  have zoom := heldAt_pp s a .zoom
  have focus := heldAt_pp s a .focus
  have iris := heldAt_pp s a .iris
  simp only [State.axis] at zoom focus iris
  cases body with
  | home z f i => exact Iff.rfl
  | move c v clampFlag => simp only [atEnd, heldAt_pp]
  | zoom start v follow clampFlag lost => simp only [atEnd, zoom]
  | park lost => simp only [atEnd, zoom, focus, iris]

/-- The record of an axis after the ending. -/
def axisAfter (s : State) (a b : Axis) : AxisRec :=
  if b = a then
    { s.axis b with state := .held, homing := .none, after := .goOn,
                    timer := if (s.axis b).setup.hold = 0 then none else some (s.axis b).setup.hold }
  else s.axis b

theorem endedState_heldAt (s : State) (a : Axis) (o : LensOp) (e : OpEntry) (cls : EndClass) (cause : Cause)
    (resume : Resume) :
    endedState (heldAt s a) (heldAt s a).axis o e cls cause resume =
      endedState s (axisAfter s a) o e cls cause resume := by
  obtain ⟨tag, body, stopped⟩ := o
  cases body with
  | home z f i => cases a <;> rfl
  | move c v clampFlag => cases a <;> cases c <;> rfl
  | zoom start v follow clampFlag lost => cases a <;> rfl
  | park lost => cases a <;> rfl

/-- The hypotheses under which the last axis of a lens operation settles. -/
structure Settles (a : Axis) (kind : OpKind) (s : State) (o : LensOp) (e : OpEntry) : Prop where
  lens : kind = .home ∨ kind = .move ∨ kind = .zoom ∨ kind = .park
  owner : (s.axis a).owner = some (.op kind o.tag)
  settling : (s.axis a).state = .settling
  timer : (s.axis a).timer.isSome = true
  op : s.lensOp o.tag = some o
  found : s.entry o.tag = some e
  none : s.csq.capture = none
  rest : ∀ b, claims o.body b = true → b ≠ a → (s.axis b).state = .held ∨ (s.axis b).state = .released
  quiet : claims o.body .iris = true → s.ldu.pendingIris = .none ∧ s.ldu.waitList = []

theorem lensOp_ends {a : Axis} {kind : OpKind} {s : State} {o : LensOp} {e : OpEntry} (h : Settles a kind s o e) :
    let ends (cls : EndClass) (cause : Cause) (resume : Resume) : Prop :=
      exec (.settleTimeout a) s = .next (endedState s (axisAfter s a) o e cls cause resume)
    (∀ cause, failureOf s o.body = some cause → ends .terminated cause .absent) ∧
    (failureOf s o.body = none → o.waitStopped = true → ends .suppressed (stopOf e) .absent) ∧
    (failureOf s o.body = none → o.waitStopped = false → atEnd s o.body → ends .complete .none .absent) ∧
    (failureOf s o.body = none → o.waitStopped = false → ¬ atEnd s o.body →
      ends .partialEnd (stopOf e) (againOf o.body)) := by
  have found : (heldAt s a).entry o.tag = some e := by
    rw [State.entry, heldAt, State.setAxis_opt]
    exact h.found
  obtain ⟨terminated, other⟩ := lensOutcome_eq found
  rw [failureOf_heldAt] at terminated other
  rw [atEnd_heldAt] at other
  have ends {cls : EndClass} {cause : Cause} {resume : Resume}
      (outcome : (heldAt s a).lensOutcome o = (cls, cause, resume)) :
      exec (.settleTimeout a) s = .next (endedState s (axisAfter s a) o e cls cause resume) :=
    (settleTimeout_ends h.lens h.owner h.settling h.timer h.op h.found h.none h.rest h.quiet outcome).trans
      (congrArg Host.Outcome.next (endedState_heldAt s a o e cls cause resume))
  exact ⟨fun cause fails => ends (terminated cause fails), fun clean waited => ends ((other clean).1 waited),
    fun clean ran arrived => ends ((other clean).2.1 ran arrived),
    fun clean ran short => ends ((other clean).2.2 ran short)⟩

/-- Settles O18: a MOVE at its target, and every ending of a HOME, MOVE, ZOOM or PARK. -/
theorem moveEnds : Obligations.MoveEnds := by
  refine ⟨?_, ?_⟩
  · rintro a tag v clampFlag s r e rfl lens owner settling timer pp op found none
    let o : LensOp := { tag := tag, body := .move a v clampFlag, waitStopped := false }
    have h : Settles a .move s o e :=
      { lens := .inr (.inl rfl), owner, settling, timer, op, found, none,
        rest := fun b named other => absurd (by simpa [o, claims] using named) other,
        quiet := fun named => absurd (by simpa [o, claims] using named) (Ne.symm lens) }
    have clean : failureOf s o.body = .none := by simp only [o, failureOf, pp, reduceCtorEq, if_false]
    have arrived : atEnd s o.body := pp
    rw [(lensOp_ends h).2.2.1 clean rfl arrived]
    have fields : endingFields s (endingD s o.body .complete) o.body =
        .move a (some v) clampFlag v (endingD s o.body .complete) := congrArg
      (fun p => EndFields.move a p clampFlag v (endingD s o.body .complete)) pp
    rw [endedState, fields]
    cases a with
    | iris => exact absurd rfl lens
    | zoom => rfl
    | focus => rfl
  · intro a kind s o e lens owner settling timer op found none idle pending
    dsimp only
    intro rest
    obtain ⟨tag, body, stopped⟩ := o
    cases body with
    | home z f i =>
      exact lensOp_ends ⟨lens, owner, settling, timer, op, found, none, rest, fun _ => ⟨pending, idle⟩⟩
    | move c v clampFlag =>
      cases c <;> exact lensOp_ends ⟨lens, owner, settling, timer, op, found, none, rest, fun _ => ⟨pending, idle⟩⟩
    | zoom start v follow clampFlag lost =>
      exact lensOp_ends ⟨lens, owner, settling, timer, op, found, none, rest, fun _ => ⟨pending, idle⟩⟩
    | park lost =>
      exact lensOp_ends ⟨lens, owner, settling, timer, op, found, none, rest, fun _ => ⟨pending, idle⟩⟩

end Sys2Proof.Proofs.LensEndings
end

section
/-! PROOFS. ZOOM: its refusals and begin, the focus it takes along, its steps (R33, R34, R49). -/

namespace Sys2Proof.Proofs.Zooming
open Sys2Proof Sys2Proof.Machine Sys2Proof.Proofs.LensRequests Sys2Proof.Proofs.LensSteps Sys2Proof.Proofs.HomingFacts

-- one declaration after another: each unfolds operations whose equations another would be waiting for
set_option Elab.async false

/-! ## F(z, d) (R49) -/

theorem forwardFocus_rising {a b : Int} {d : Nat} (order : a ≤ b) (low : 0 ≤ a) :
    (forwardFocus a b d : Int) = a + (b - a) * d / 1024 := by
  have product : 0 ≤ (b - a) * (d : Int) := Int.mul_nonneg (by omega) (by omega)
  rw [forwardFocus, Int.tdiv_eq_ediv_of_nonneg product, Int.toNat_of_nonneg (by omega)]

theorem forwardFocus_falling {a b : Int} {d : Nat} (order : b ≤ a) (low : 0 ≤ b) (small : d ≤ 1024) :
    (forwardFocus a b d : Int) = a - (a - b) * d / 1024 := by
  have product : 0 ≤ (a - b) * (d : Int) := Int.mul_nonneg (by omega) (by omega)
  have most : (a - b) * (d : Int) ≤ (a - b) * 1024 := Int.mul_le_mul_of_nonneg_left (by omega) (by omega)
  have mirrored : (b - a) * (d : Int) = -((a - b) * d) := by rw [← Int.neg_mul, Int.neg_sub]
  rw [forwardFocus, mirrored, Int.neg_tdiv, Int.tdiv_eq_ediv_of_nonneg product, Int.toNat_of_nonneg (by omega)]
  omega

/-- F(z, d) depends on the table alone. -/
theorem focusFor_otb {s t : State} (same : s.otb = t.otb) (z d : Nat) : s.focusFor z d = t.focusFor z d := by
  simp only [State.focusFor, State.reading, same]

/-! ## The focus at a follow point (R21, R25, R34) -/

/-- The focus given a follow point's position: it turns at its next step, stays, or begins. -/
def followed (q : AxisRec) (f goal : Nat) : AxisRec :=
  match q.state with
  | .moving => { q with target := some goal, after := .goOn }
  | _ =>
    if goal = f then { q with target := some goal }
    else { q with target := some goal, state := .moving, timer := none, after := .goOn, stepUp := decide (f < goal),
                  stepTime := q.setup.interval }

theorem grantOne_nil {s : State} (idle : s.ldu.waitList = []) : s.grantOne = s := by
  rw [State.grantOne, idle]

theorem grantOne_one {s : State} {a : Axis} (waits : s.ldu.waitList = [a]) (slots : s.slotHolders.length < 2) :
    s.grantOne = State.granted { s with ldu := { s.ldu with waitList := [] } } a := by
  simp [State.grantOne, waits, slots]

theorem followed_moving {q : AxisRec} (moving : q.state = .moving) (f goal : Nat) :
    followed q f goal = { q with target := some goal, after := .goOn } := by
  simp only [followed, moving]

theorem followed_held {q : AxisRec} (held : q.state = .held) (f goal : Nat) :
    followed q f goal =
      if goal = f then { q with target := some goal }
      else { q with target := some goal, state := .moving, timer := none, after := .goOn, stepUp := decide (f < goal),
                    stepTime := q.setup.interval } := by
  simp only [followed, held]

/-- The focus under a ZOOM is granted its first step (R22). -/
theorem granted_focus {s : State} {r : AxisRec} {tag f goal : Nat} (stands : s.ldu.focus = r)
    (owner : r.owner = some (.op .zoom tag)) (homing : r.homing = .none) (pp : r.pp = some f)
    (target : r.target = some goal) (apart : goal ≠ f) :
    s.granted .focus =
      s.setAxis .focus
        { r with state := .moving, timer := none, after := .goOn, stepUp := decide (f < goal),
                 stepTime := r.setup.interval } := by
  subst stands
  have underway : s.ldu.focus.arrived = false := by simp [AxisRec.arrived, pp, target, apart]
  have asks : ¬ s.ldu.focus.homing = .pending := by rw [homing]; decide
  simp only [State.granted, State.axis, if_neg asks, underway, owner, State.beginStep, pp, target, Option.getD_some]
  rfl

/-- The focus takes the position of a follow point, and a slot where it needs one. -/
theorem follow_grantOne {s : State} {q : AxisRec} {tag f : Nat} (goal : Nat) (stands : s.ldu.focus = q)
    (owner : q.owner = some (.op .zoom tag)) (homing : q.homing = .none) (pp : q.pp = some f)
    (idle : s.ldu.waitList = [])
    (ready : q.state = .moving ∨ (q.state = .held ∧ s.ldu.iris.stepping = false)) :
    (s.giveTarget .focus goal).1.grantOne = s.setAxis .focus (followed q f goal) := by
  subst stands
  obtain moving | ⟨held, free⟩ := ready
  · have given : (s.giveTarget .focus goal).1 = s.setAxis .focus (followed s.ldu.focus f goal) := by
      simp only [State.giveTarget, State.axis, pp, followed_moving moving, moving]
    rw [given]
    exact grantOne_nil idle
  · by_cases here : goal = f
    · have given : (s.giveTarget .focus goal).1 = s.setAxis .focus (followed s.ldu.focus f goal) := by
        rw [State.giveTarget_held_here s .focus goal (by rw [here]; exact pp) held, followed_held held, if_pos here]
        rfl
      rw [given]
      exact grantOne_nil idle
    · let waits : AxisRec := { s.ldu.focus with target := some goal, state := .awaitingSlot, timer := none }
      let joined := s.joinWait .focus { s.ldu.focus with target := some goal }
      have given : (s.giveTarget .focus goal).1 = joined :=
        congrArg Prod.fst (State.giveTarget_held s .focus goal f pp here held)
      have emptied : ({ joined with ldu := { joined.ldu with waitList := [] } } : State) = s.setAxis .focus waits := by
        simp only [joined, State.joinWait, State.setAxis]
        rw [← idle]
      have list : joined.ldu.waitList = [.focus] := by simp [joined, State.joinWait, idle]
      have slots : joined.slotHolders.length < 2 := by
        rw [State.slotHolders_eq]
        show (slotList s.ldu.zoom.stepping false s.ldu.iris.stepping).length < 2
        rw [free]
        cases s.ldu.zoom.stepping <;> decide
      have grants := granted_focus (s := s.setAxis .focus waits) (tag := tag) (f := f) (goal := goal) rfl owner homing pp
        rfl here
      rw [given, grantOne_one list slots, emptied, grants, followed_held held, if_neg here]
      rfl

/-! ## The zoom's first slot (R25, R34) -/

theorem stepInterval_zoom {s : State} {tag : Nat} (owner : s.ldu.zoom.owner = some (.op .zoom tag)) :
    s.stepInterval .zoom = s.activeSlot.interval.getD s.ldu.zoom.setup.interval := by
  simp only [State.stepInterval, State.axis, owner]

/-- The zoom's record as its step toward `v` begins. -/
def zoomBegun (r : AxisRec) (z v time : Nat) : AxisRec :=
  { r with state := .moving, timer := none, after := .goOn, stepUp := decide (z < v), stepTime := time }

/-- The zoom is granted its first slot: its first unit begins, and focus gets the first follow point. -/
theorem granted_zoom {s : State} {r : AxisRec} {tag z v : Nat} (stands : s.ldu.zoom = r)
    (owner : r.owner = some (.op .zoom tag)) (homing : r.homing = .none) (pp : r.pp = some z)
    (target : r.target = some v) (apart : z ≠ v) :
    s.granted .zoom =
      (((s.setAxis .zoom (zoomBegun r z v (s.activeSlot.interval.getD r.setup.interval))).beginUnit tag).giveTarget
        .focus (s.focusFor z s.ldu.d)).1 := by
  subst stands
  have underway : s.ldu.zoom.arrived = false := by simp [AxisRec.arrived, pp, target, Ne.symm apart]
  have asks : ¬ s.ldu.zoom.homing = .pending := by rw [homing]; decide
  have begins : s.beginStep .zoom =
      s.setAxis .zoom (zoomBegun s.ldu.zoom z v (s.activeSlot.interval.getD s.ldu.zoom.setup.interval)) := by
    rw [State.beginStep, stepInterval_zoom owner]
    simp only [State.axis, pp, target, Option.getD_some, zoomBegun]
  have at_ : ((s.beginStep .zoom).beginUnit tag).zoomStep = z := by
    rw [begins, State.zoomStep, show (((s.setAxis .zoom
      (zoomBegun s.ldu.zoom z v (s.activeSlot.interval.getD s.ldu.zoom.setup.interval))).beginUnit tag).ldu.zoom.pp) =
        some z from pp]
  have grants : s.granted .zoom = ((s.beginStep .zoom).beginUnit tag).followPoint := by
    simp only [State.granted, State.axis, if_neg asks, underway, owner, if_true, Bool.false_eq_true, if_false]
  rw [grants, State.followPoint, at_, begins]
  rfl

theorem settleAtOnce_off {s : State} {a : Axis} (other : (s.axis a).state ≠ .settling) : s.settleAtOnce a = s :=
  if_neg fun both => other both.1

/-- The energize time of a ZOOM's zoom ends with both slots free: it begins, and focus with it where it has to. -/
theorem energized_zoom {s : State} {r q : AxisRec} {tag z v f : Nat} (zoom : s.ldu.zoom = r) (focus : s.ldu.focus = q)
    (owner : r.owner = some (.op .zoom tag)) (other : q.owner = some (.op .zoom tag)) (homing : r.homing = .none)
    (still : q.homing = .none) (pp : r.pp = some z) (target : r.target = some v) (place : q.pp = some f)
    (idle : s.ldu.waitList = []) (energizing : r.state = .energizing) (apart : z ≠ v) (held : q.state = .held)
    (free : s.ldu.iris.stepping = false) :
    s.energized .zoom =
      ((s.beginUnit tag).setAxis .zoom (zoomBegun r z v (s.activeSlot.interval.getD r.setup.interval))).setAxis .focus
        (followed q f (s.focusFor z s.ldu.d)) := by
  subst zoom focus
  let waits : AxisRec := { s.ldu.zoom with state := .awaitingSlot, timer := none }
  let begun : State := ((s.setAxis .zoom
    (zoomBegun s.ldu.zoom z v (s.activeSlot.interval.getD s.ldu.zoom.setup.interval))).beginUnit tag)
  let joined := s.joinWait .zoom s.ldu.zoom
  have emptied : ({ joined with ldu := { joined.ldu with waitList := [] } } : State) = s.setAxis .zoom waits := by
    simp only [joined, State.joinWait, State.setAxis]
    rw [← idle]
  have list : joined.ldu.waitList = [.zoom] := by simp [joined, State.joinWait, idle]
  have slots : joined.slotHolders.length < 2 := by
    rw [State.slotHolders_eq]
    show (slotList false s.ldu.focus.stepping s.ldu.iris.stepping).length < 2
    rw [free]
    cases s.ldu.focus.stepping <;> decide
  have grants : (s.setAxis .zoom waits).granted .zoom = (begun.giveTarget .focus (s.focusFor z s.ldu.d)).1 :=
    granted_zoom (s := s.setAxis .zoom waits) (r := waits) rfl owner homing pp target apart
  have follows : (begun.giveTarget .focus (s.focusFor z s.ldu.d)).1.grantOne =
      begun.setAxis .focus (followed s.ldu.focus f (s.focusFor z s.ldu.d)) :=
    follow_grantOne (s := begun) (s.focusFor z s.ldu.d) rfl other still place idle (.inr ⟨held, free⟩)
  show State.settleAtOnce joined.arbitrate .zoom = _
  rw [State.arbitrate, grantOne_one list slots, emptied, grants, follows]
  have state : ((begun.setAxis .focus (followed s.ldu.focus f (s.focusFor z s.ldu.d))).axis .zoom).state = .moving := rfl
  exact settleAtOnce_off (by rw [state]; decide)

/-! ## A zoom step (R22, R34) -/

theorem countStep_zoom {s : State} {tag : Nat} (owner : s.ldu.zoom.owner = some (.op .zoom tag))
    (runs : ∀ o, s.lensOp tag = some o → o.waitStopped = false) :
    s.countStep .zoom = (s.beginUnit tag).countUnit tag := by
  simp only [State.countStep, State.axis, owner, if_true, countLens_runs runs]

/-- A zoom step is a follow point at the target and at the multiples of the follow interval. -/
theorem isFollowPoint_iff {s : State} {tag start v follow : Nat} {clampFlag : Bool}
    (owner : s.ldu.zoom.owner = some (.op .zoom tag))
    (op : s.lensOp tag = some { tag := tag, body := .zoom start v follow clampFlag none, waitStopped := false })
    (p : Nat) :
    s.isFollowPoint p false = true ↔ p = v ∨ distance start p % follow = 0 := by
  simp only [State.isFollowPoint, owner, op, Bool.false_or, Bool.or_eq_true, beq_iff_eq]
  rfl

/-- The hypotheses of a step of the zoom under a ZOOM. -/
structure ZoomSteps (s : State) (r q : AxisRec) (tag start v follow z f : Nat) (clampFlag : Bool) : Prop where
  zoom : s.ldu.zoom = r
  focus : s.ldu.focus = q
  owner : r.owner = some (.op .zoom tag)
  other : q.owner = some (.op .zoom tag)
  op : s.lensOp tag = some { tag := tag, body := .zoom start v follow clampFlag none, waitStopped := false }
  homing : r.homing = .none
  after : r.after = .goOn
  pp : r.pp = some z
  target : r.target = some v
  place : q.pp = some f
  calm : q.homing = .none
  idle : s.ldu.waitList = []
  still : s.fsu.scan = none
  moving : r.state = .moving
  settle : r.setup.settle ≠ 0
  ready : q.state = .moving ∨ (q.state = .held ∧ s.ldu.iris.stepping = false)

/-- The state after a zoom step, before the focus follows. -/
def zoomStepped (s : State) (r : AxisRec) (tag p v : Nat) : State :=
  (homed s .zoom tag).setAxis .zoom (stepped r p v (s.activeSlot.interval.getD r.setup.interval))

theorem zoomStepped_facts (s : State) (r : AxisRec) (tag p v : Nat) :
    (zoomStepped s r tag p v).ldu.focus = s.ldu.focus ∧ (zoomStepped s r tag p v).ldu.iris = s.ldu.iris ∧
      (zoomStepped s r tag p v).ldu.waitList = s.ldu.waitList ∧ (zoomStepped s r tag p v).ldu.d = s.ldu.d ∧
      (zoomStepped s r tag p v).fsu = s.fsu ∧ (zoomStepped s r tag p v).otb = s.otb := by
  have ldu : (homed s .zoom tag).ldu = s.ldu := homed_ldu s .zoom tag
  refine ⟨?_, ?_, ?_, ?_, (reportStep_others s .zoom).2.1, homed_otb s .zoom tag⟩
  · exact show (homed s .zoom tag).ldu.focus = _ from congrArg Ldu.focus ldu
  · exact show (homed s .zoom tag).ldu.iris = _ from congrArg Ldu.iris ldu
  · exact show (homed s .zoom tag).ldu.waitList = _ from congrArg Ldu.waitList ldu
  · exact show (homed s .zoom tag).ldu.d = _ from congrArg Ldu.d ldu

theorem stepped_pp (r : AxisRec) (q v time : Nat) : (stepped r q v time).pp = some q := by
  unfold stepped
  split <;> rfl

/-- A zoom step that the flag does not contradict (R22, R34). -/
theorem moveStep_zoom {s : State} {r q : AxisRec} {tag start v follow z f p : Nat} {clampFlag : Bool}
    (h : ZoomSteps s r q tag start v follow z f clampFlag) (next : (if r.stepUp then z + 1 else z - 1) = p)
    (kept : lostAt .zoom (flagLevel s.ldu.flags .zoom) p = false) :
    s.moveStep .zoom =
      (if p = v ∨ distance start p % follow = 0 then
        (zoomStepped s r tag p v).setAxis .focus (followed q f (s.focusFor p s.ldu.d))
       else zoomStepped s r tag p v, .stepped) := by
  have runs : ∀ o, s.lensOp tag = some o → o.waitStopped = false := fun o found => by
    rw [h.op] at found
    cases found
    rfl
  let c := homed s .zoom tag
  have counts : State.countStep ((s.reportStep .zoom).setAxis .zoom { r with pp := some p }) .zoom =
      c.setAxis .zoom { r with pp := some p } :=
    (countStep_zoom (s := (s.reportStep .zoom).setAxis .zoom { r with pp := some p }) h.owner
      (by rw [setAxis_lensOp, reportStep_lensOp]; exact runs)).trans (counted_setAxis _ .zoom _ tag)
  have slots : (c.setAxis .zoom { r with pp := some p }).activeSlot = s.activeSlot := by
    have pcs : (c.setAxis .zoom { r with pp := some p }).pcs = s.pcs := (reportStep_others s .zoom).2.2.2.2.2
    simp only [State.activeSlot, State.slot, State.activeIndex, pcs]
  have interval : State.stepInterval (c.setAxis .zoom { r with pp := some p }) .zoom =
      s.activeSlot.interval.getD r.setup.interval :=
    (stepInterval_zoom (s := c.setAxis .zoom { r with pp := some p }) h.owner).trans
      (congrArg (fun slot : Slot => slot.interval.getD r.setup.interval) slots)
  have step := moveStep_toward (s := s) (a := .zoom) h.zoom h.homing h.after h.pp h.target next kept counts
    (wideMove_other (s := c.setAxis .zoom { r with pp := some p }) h.owner (by decide)) interval
  obtain ⟨focus, iris, list, d, -, otb⟩ := zoomStepped_facts s r tag p v
  have op : (zoomStepped s r tag p v).lensOp tag = s.lensOp tag :=
    (setAxis_lensOp c .zoom _ tag).trans (reportStep_lensOp s .zoom tag)
  have points := isFollowPoint_iff (s := zoomStepped s r tag p v)
    ((stepped_owner r p v _).trans h.owner) (op.trans h.op) p
  rw [step]
  refine congrArg (fun u : State => (u, StepResult.stepped)) ?_
  show State.arbitrate (if Axis.zoom = .zoom ∧ (zoomStepped s r tag p v).isFollowPoint p false = true then
    (zoomStepped s r tag p v).followPoint else zoomStepped s r tag p v) = _
  simp only [true_and, points]
  split
  · have at_ : (zoomStepped s r tag p v).zoomStep = p := by
      rw [State.zoomStep, show (zoomStepped s r tag p v).ldu.zoom.pp = some p from stepped_pp r p v _]
    have follows := follow_grantOne (s := zoomStepped s r tag p v) (f := f) (s.focusFor p s.ldu.d) (focus.trans h.focus) h.other h.calm
      h.place (list.trans h.idle) (by rw [iris]; exact h.ready)
    rw [State.followPoint, at_, d, focusFor_otb otb, State.arbitrate, follows]
    exact grantOne_nil (list.trans h.idle)
  · exact State.arbitrate_nil _ (list.trans h.idle)

theorem stepCompleted_zoom {s : State} {r q : AxisRec} {tag start v follow z f p : Nat} {clampFlag : Bool}
    (h : ZoomSteps s r q tag start v follow z f clampFlag) (next : (if r.stepUp then z + 1 else z - 1) = p)
    (kept : lostAt .zoom (flagLevel s.ldu.flags .zoom) p = false) :
    s.stepCompleted .zoom =
      if p = v ∨ distance start p % follow = 0 then
        (zoomStepped s r tag p v).setAxis .focus (followed q f (s.focusFor p s.ldu.d))
      else zoomStepped s r tag p v := by
  obtain ⟨focus, iris, -, -, fsu, -⟩ := zoomStepped_facts s r tag p v
  have completes := (completeStep_moving (s := s) (a := .zoom) (by rw [State.axis, h.zoom]; exact h.moving)).trans
    (moveStep_zoom h next kept)
  have focusSteps : (s.axis .focus).state ≠ .awaitingSlot := by
    rw [State.axis, h.focus]
    obtain moving | ⟨held, -⟩ := h.ready
    · rw [moving]; decide
    · rw [held]; decide
  refine stepCompleted_steps completes ?_ ?_ fun b other waits => ?_
  · split <;> exact (congrArg Fsu.scan fsu).trans h.still
  · split <;> exact stepped_timer h.settle
  · cases b with
    | zoom => exact absurd rfl other
    | focus => exact absurd waits focusSteps
    | iris =>
      have same : ((if p = v ∨ distance start p % follow = 0 then
          (zoomStepped s r tag p v).setAxis .focus (followed q f (s.focusFor p s.ldu.d))
        else zoomStepped s r tag p v).axis .iris) = s.ldu.iris := by
        split <;> exact iris
      rw [same, show s.ldu.iris.state = .awaitingSlot from waits]
      decide

/-! ## The request (R33) -/

theorem zoomFault_noTable {s : State} (detail : Nat) (table : s.noTable = some detail) :
    s.zoomFault = some (.noTable, detail) := by
  simp only [State.zoomFault, table]

theorem zoomFault_valid {s : State} (valid : s.otb.state = .valid) : s.zoomFault = s.contextLensFault := by
  have table : s.noTable = none := by rw [State.noTable, valid]
  simp only [State.zoomFault, table]

/-- Zoom and focus must have no owner and a position; zoom is looked at first. -/
theorem contextLensFault_eq (s : State) :
    s.contextLensFault =
      if s.ldu.zoom.owner ≠ none then some (.busy, 0)
      else if s.ldu.focus.owner ≠ none then some (.busy, 1)
      else if s.ldu.zoom.pp = none then some (.unreferenced, 0)
      else if s.ldu.focus.pp = none then some (.unreferenced, 1) else none := by
  simp only [State.contextLensFault, State.firstOwned, State.firstUnreferenced, List.find?_cons, List.find?_nil,
    State.axis]
  cases s.ldu.zoom.owner <;> cases s.ldu.focus.owner <;> cases s.ldu.zoom.pp <;> cases s.ldu.focus.pp <;> rfl

/-- An accepted ZOOM whose zoom has no current: it energizes (R33). -/
theorem zoomRequest_accepted {t : State} {tag target z : Nat} (clear : t.zoomFault = none)
    (pp : t.ldu.zoom.pp = some z) (room : t.hasRoom tag) (apart : max t.wideEnd (min t.teleEnd target) ≠ z)
    (idle : t.ldu.waitList = []) (released : t.ldu.zoom.state = .released) (slow : t.ldu.zoom.setup.energize ≠ 0) :
    let v := max t.wideEnd (min t.teleEnd target)
    let w := t.accepted tag .zoom .waiting (some (distance z v))
    t.zoomRequest tag target =
      { w with ldu := { w.ldu with
          ops := w.ldu.ops ++
            [{ tag := tag, body := .zoom z v w.otb.glob.follow (v != target) none, waitStopped := false }],
          zoom := { w.ldu.zoom with
            owner := some (.op .zoom tag), target := some v, state := .energizing,
            timer := some w.ldu.zoom.setup.energize },
          focus := { w.ldu.focus with owner := some (.op .zoom tag) } } } := by
  intro v w
  have at_ : t.zoomStep = z := by rw [State.zoomStep, pp]
  let u : State := w.addLensOp tag .zoom (.zoom z v w.otb.glob.follow (v != target) none)
  have given := State.giveTarget_released u .zoom v z pp apart released slow
  have begins : t.zoomRequest tag target = (u.giveTarget .zoom v).1.arbitrate := by
    simp only [State.zoomRequest, clear, State.accept_room room, at_]
    exact endIfPlannedNone_goes (distance_ne_zero apart) tag _
  rw [begins, given]
  exact State.arbitrate_nil _ idle

/-- Settles O20: F(z, d), the follow points at the grant and at the steps, and the request. -/
theorem zoomBegins : Obligations.ZoomBegins := by
  refine ⟨fun s z d => ⟨fun order low => forwardFocus_rising order low, fun order low small =>
    forwardFocus_falling order low small⟩, ?_, ?_⟩
  · intro tag start v follow z f clampFlag flags s r q zoom focus owner other op homing after pp target place calm idle
      still
    let read := s.readFlags flags
    refine ⟨fun energizing timer apart held free => ?_, fun moving settle ready kept => ?_⟩
    · have asked : exec (.energizeTimeout .zoom flags) s = .next (read.energized .zoom) :=
        congrArg Host.Outcome.next (if_pos ⟨by rw [State.axis, zoom]; exact energizing,
          by rw [State.axis, zoom]; exact timer⟩)
      have begins := energized_zoom (s := read) zoom focus owner other homing calm pp target place idle energizing apart
        held free
      rw [asked, begins]
      obtain ⟨pp', state', target', owner', setup', count', homing', after', up', time', timer'⟩ := r
      cases after
      rfl
    · have h : ZoomSteps read r q tag start v follow z f clampFlag :=
        ⟨zoom, focus, owner, other, op, homing, after, pp, target, place, calm, idle, still, moving, settle, ready⟩
      have asked := exec_axisStepComplete flags (s := s) (a := .zoom) (.inl (by rw [State.axis, zoom]; exact moving))
      have step := stepCompleted_zoom h rfl (Bool.eq_false_iff.mpr fun lost => kept ((lostAt_iff _ _ _).mp lost))
      rw [asked, step]
      obtain ⟨pp', state', target', owner', setup', count', homing', after', up', time', timer'⟩ := r
      cases homing
      cases after
      cases moving
      refine ⟨fun point => congrArg Host.Outcome.next (if_pos point), fun short off => ?_⟩
      exact congrArg Host.Outcome.next (if_neg (not_or.mpr ⟨short, off⟩))
  · intro tag target s t reaches
    have asked : exec (.zoom tag target) s = .next (t.zoomRequest tag target) :=
      congrArg Host.Outcome.next (State.onRequest_reaches reaches _)
    have refused {code : Code} {detail : Nat} (fault : t.zoomFault = some (code, detail)) :
        exec (.zoom tag target) s = .next (t.reply tag (.refused code detail)) := by
      rw [asked, State.zoomRequest, fault]
      rfl
    refine ⟨fun empty => ?_, fun staged => ?_, fun valid => ⟨fun owned => ?_, fun free owned => ?_,
      fun freeZoom freeFocus => ⟨fun lost => ?_, fun known lost => ?_, fun z pp known room => ?_⟩⟩⟩
    · exact refused (zoomFault_noTable 0 (by rw [State.noTable, empty]))
    · exact refused (zoomFault_noTable 1 (by rw [State.noTable, staged]))
    · exact refused (by rw [zoomFault_valid valid, contextLensFault_eq, if_pos owned])
    · exact refused (by rw [zoomFault_valid valid, contextLensFault_eq, if_neg (not_not.mpr free), if_pos owned])
    · exact refused (by rw [zoomFault_valid valid, contextLensFault_eq, if_neg (not_not.mpr freeZoom),
        if_neg (not_not.mpr freeFocus), if_pos lost])
    · exact refused (by rw [zoomFault_valid valid, contextLensFault_eq, if_neg (not_not.mpr freeZoom),
        if_neg (not_not.mpr freeFocus), if_neg known, if_pos lost])
    · intro v apart idle released slow
      have clear : t.zoomFault = none := by
        rw [zoomFault_valid valid, contextLensFault_eq, if_neg (not_not.mpr freeZoom),
          if_neg (not_not.mpr freeFocus), if_neg (by rw [pp]; exact Option.some_ne_none z), if_neg known]
      rw [asked]
      exact congrArg Host.Outcome.next (zoomRequest_accepted clear pp room apart idle released slow)

end Sys2Proof.Proofs.Zooming
end

section
/-! PROOFS. The steadying unit: STEADY-SET and GYRO-CAL, and what a sample event does (R111 to R125). -/

namespace Sys2Proof.Proofs.Steadying
open Sys2Proof Sys2Proof.Machine Sys2Proof.Proofs.CardFacts Sys2Proof.Proofs.Programs Sys2Proof.Proofs.Pictures
  Sys2Proof.Proofs.Optics

-- one declaration after another: each unfolds operations whose equations another would be waiting for
set_option Elab.async false

/-! ## The state derived afresh (R117, R118) -/

/-- A steadying axis at rest in a state; a locked stage reads 0. -/
def resting (row : StuState) (a : SteadyAxis) : SteadyAxis :=
  { theta := 0, target := 0, measured := if row = .off ∨ row = .fault then 0 else a.measured, saturated := 0,
    supervised := 0 }

theorem rest_locks (row : StuState) (a : SteadyAxis) : a.rest row.locks = resting row a := by
  cases row <;> rfl

theorem steadies_eq (state : StuState) :
    state.steadies = [StuState.active, .panning, .recentering].contains state := by
  cases state <;> rfl

/-- The row's state, the axes at rest, unless ACTIVE leaves what steadies standing. -/
theorem deriveStu_eq (s : State) :
    s.deriveStu =
      { s with stu :=
          if s.stuRow == .active && [StuState.active, .panning, .recentering].contains s.stu.state then s.stu
          else { s.stu with state := s.stuRow, yaw := resting s.stuRow s.stu.yaw,
                            pitch := resting s.stuRow s.stu.pitch } } := by
  rw [← steadies_eq]
  unfold State.deriveStu
  cases row : s.stuRow with
  | active => cases steadies : s.stu.state.steadies <;> rfl
  | _ => simp only [State.onSteady, rest_locks]; rfl

theorem centred_other {s : State} (other : s.csq.state ≠ .recentring) (late : Bool) : s.centred late = s := by
  unfold State.centred
  split
  · exact absurd (by assumption) other
  · rfl

/-! ## STEADY-SET and GYRO-CAL (R113, R116, R125) -/

theorem takeSteady_eq (t : State) (m : SteadyMode) (leak : Nat) :
    let fault := t.stu.fault && (m == t.stu.mode)
    let row : StuState :=
      if fault then .fault
      else if m = .off then .off
      else if t.activeKind = .review ∨ (m = .shotOnly ∧ t.stu.window = false) then .hold
      else if t.stu.offset = none then .uncalibrated
      else .active
    let taking : Stu := { t.stu with mode := m, leak := leak, fault := fault }
    t.takeSteady m leak =
      { t with stu :=
          if row == .active && [StuState.active, .panning, .recentering].contains t.stu.state then taking
          else { taking with state := row, yaw := resting row t.stu.yaw, pitch := resting row t.stu.pitch } } := by
  intro fault row taking
  have derived := deriveStu_eq { t with stu := taking }
  have rows : State.stuRow { t with stu := taking } = row := by
    simp only [State.stuRow, Option.isNone_iff_eq_none]
    rfl
  rw [rows] at derived
  exact derived

theorem exec_gyroCal {tag : Nat} {s t : State} (reaches : s.reaches (.gyroCal tag) tag t) :
    exec (.gyroCal tag) s = .next (t.gyroRequest tag) :=
  congrArg Host.Outcome.next (State.onRequest_reaches reaches _)

/-- Settles O34: STEADY-SET derives the state, GYRO-CAL is refused or opens its first window. -/
theorem steadyRequests : Obligations.SteadyRequests := by
  refine ⟨fun tag mode leak s t reaches => ?_, fun tag s t reaches => ?_⟩
  · have asked : exec (.steadySet tag mode leak) s = .next (t.steadySet tag mode leak) :=
      congrArg Host.Outcome.next (State.onRequest_reaches reaches _)
    dsimp only
    rw [asked]
    refine ⟨fun beyond => ?_, ?_⟩
    · rw [State.steadySet, steadyModeOf_none beyond]
      rfl
    · rintro m rfl elsewhere
      have taken := takeSteady_eq t m (bringLeak leak)
      have answered : (if t.stu.state = .recentering ∧ (t.takeSteady m (bringLeak leak)).stu.state ≠ .recentering then
          (t.takeSteady m (bringLeak leak)).centred false else t.takeSteady m (bringLeak leak)) =
          t.takeSteady m (bringLeak leak) := by
        rw [centred_other, ite_self]
        rw [taken]
        exact elsewhere
      simp only [State.steadySet, steadyModeOf_code, answered]
      rw [taken]
      rfl
  · rw [exec_gyroCal reaches]
    refine ⟨fun runs => ?_, fun none => ⟨fun busy => ?_, fun idle fault => ?_, fun idle sound room => ?_⟩⟩
    · rw [State.gyroRequest, State.gyroFault, if_pos runs]
      rfl
    · rw [State.gyroRequest, State.gyroFault, if_neg (by rw [none]; decide), if_pos busy]
      rfl
    · rw [State.gyroRequest, State.gyroFault, if_neg (by rw [none]; decide), if_neg (not_not.mpr idle), if_pos fault]
      rfl
    · rw [State.gyroRequest, State.gyroFault, if_neg (by rw [none]; decide), if_neg (not_not.mpr idle), if_neg sound]
      exact congrArg Host.Outcome.next (State.accept_room room _ _ _ _)

/-! ## The steps of a sample event (R111) -/

/-- The measured shifts as read: a locked stage reads 0. -/
def shiftsRead (u : Stu) (x : Sample) : Stu :=
  let read (v : Int) : Int := if u.state = .off ∨ u.state = .fault then 0 else v
  { u with yaw := { u.yaw with measured := read x.shiftYaw }, pitch := { u.pitch with measured := read x.shiftPitch } }

theorem readShift_eq (s : State) (x : Sample) : s.readShift x = { s with stu := shiftsRead s.stu x } := by
  have locked : s.lockEngaged = true ↔ s.stu.state = .off ∨ s.stu.state = .fault := by
    simp only [State.lockEngaged, Bool.or_eq_true, beq_iff_eq]
  simp only [State.readShift, locked]
  rfl

/-- With no calibration the sample's rates go to no window. -/
theorem calibrate_none {s : State} (none : s.stu.cal = none) (x : Sample) : s.calibrate x = s := by
  simp only [State.calibrate, none]

theorem superviseStage_stands {s : State} (stands : s.stu.state.runs = false) : s.superviseStage = s := by
  simp only [State.superviseStage, stands, Bool.false_eq_true, if_false]

theorem integrateStage_stands {s : State} (stands : s.stu.state.runs = false) (x : Sample) : s.integrateStage x = s := by
  simp only [State.integrateStage, stands, Bool.false_eq_true, if_false]

theorem checkCentred_off {s : State} (off : s.stu.state ≠ .recentering) : s.checkCentred = (s, false) :=
  if_neg fun all => off all.1

/-- A sample that answers no recentre. -/
theorem sample_quiet {s t : State} {x : Sample}
    (reaches : (((s.readShift x).calibrate x).superviseStage).integrateStage x = t)
    (off : t.stu.state ≠ .recentering) : s.sample x = t := by
  rw [State.sample, State.sampleStu, reaches, checkCentred_off off]

/-- A sample while nothing steadies: the shifts are read, and a window takes the rates. -/
theorem sample_stands {s : State} {x : Sample} (stands : ((s.readShift x).calibrate x).stu.state.runs = false)
    (off : ((s.readShift x).calibrate x).stu.state ≠ .recentering) :
    s.sample x = (s.readShift x).calibrate x := by
  refine sample_quiet ?_ off
  rw [superviseStage_stands stands, integrateStage_stands stands]

/-! ## Recentring (R123) -/

theorem sample_recentering {s : State} {x : Sample} (none : s.stu.cal = none) (runs : s.stu.state = .recentering) :
    s.sample x =
      if x.shiftYaw.natAbs ≤ 50 ∧ x.shiftPitch.natAbs ≤ 50 then
        (State.enterStu { s with stu := shiftsRead s.stu x } .active).centred false
      else { s with stu := shiftsRead s.stu x } := by
  let t : State := { s with stu := shiftsRead s.stu x }
  have state : t.stu.state = .recentering := runs
  have stands : t.stu.state.runs = false := by rw [state]; rfl
  have shifts : t.stu.yaw.measured = x.shiftYaw ∧ t.stu.pitch.measured = x.shiftPitch := by
    simp only [t, shiftsRead, runs, reduceCtorEq, or_self, if_false, and_self]
  have reaches : (((s.readShift x).calibrate x).superviseStage).integrateStage x = t := by
    rw [readShift_eq, calibrate_none (s := t) none, superviseStage_stands (s := t) stands,
      integrateStage_stands (s := t) stands]
  rw [State.sample, State.sampleStu, reaches, State.checkCentred]
  simp only [state, shifts.1, shifts.2, true_and]
  by_cases inside : x.shiftYaw.natAbs ≤ 50 ∧ x.shiftPitch.natAbs ≤ 50
  · simp only [if_pos inside]
    rfl
  · simp only [if_neg inside]
    rfl

/-! ## Supervision (R125) -/

/-- The axes after the supervision of a sample. -/
def supervised (a : SteadyAxis) (shift : Int) : SteadyAxis := SteadyAxis.supervise { a with measured := shift }

theorem supervised_count {a : SteadyAxis} (few : a.supervised < 19) (shift : Int) :
    (supervised a shift).supervised = if 200 < (shift - a.target).natAbs then a.supervised + 1 else 0 := by
  show (if 200 < (shift - a.target).natAbs then min 20 (a.supervised + 1) else 0) = _
  split
  · exact min_eq_right (by omega)
  · rfl

theorem supervised_sound {a : SteadyAxis} (few : a.supervised < 19) (shift : Int) :
    (supervised a shift).supervised ≠ 20 := by
  rw [supervised_count few]
  split <;> omega

/-- A sample in ACTIVE or PANNING that latches no fault, before the integrator. -/
theorem superviseStage_sound {s : State} {x : Sample} (none : s.stu.cal = none)
    (runs : s.stu.state = .active ∨ s.stu.state = .panning) (yaw : s.stu.yaw.supervised < 19)
    (pitch : s.stu.pitch.supervised < 19) :
    ((s.readShift x).calibrate x).superviseStage =
      { s with stu := { s.stu with
          yaw := supervised s.stu.yaw x.shiftYaw, pitch := supervised s.stu.pitch x.shiftPitch } } := by
  have read : shiftsRead s.stu x =
      { s.stu with yaw := { s.stu.yaw with measured := x.shiftYaw },
                   pitch := { s.stu.pitch with measured := x.shiftPitch } } := by
    have free : ¬ (s.stu.state = .off ∨ s.stu.state = .fault) := by
      obtain state | state := runs <;> rw [state] <;> decide
    simp only [shiftsRead, if_neg free]
  have steers : s.stu.state.runs = true := (runs_iff _).mpr runs
  have first := supervised_sound yaw x.shiftYaw
  have second := supervised_sound pitch x.shiftPitch
  rw [readShift_eq, read, calibrate_none (by exact none), State.superviseStage]
  simp only [steers, if_true]
  refine (if_neg ?_).trans (if_neg ?_)
  · exact first
  · exact second

/-! ## The integrator (R119 to R121) -/

theorem reportClamped_stu (s : State) : s.reportClamped.stu = s.stu := by
  unfold State.reportClamped State.markOpen
  split <;> rfl

/-- A saturated sample marks the open record. -/
def clampMarked (s : State) : State :=
  if 0 < s.stu.yaw.saturated ∨ 0 < s.stu.pitch.saturated then s.reportClamped else s

theorem clampMarked_stu (s : State) : (clampMarked s).stu = s.stu := by
  unfold clampMarked
  split
  · exact reportClamped_stu s
  · rfl

/-- Both axes updated by the net rates under a leak. -/
def updated (u : State) (x : Sample) (o : Int × Int) (leak : Nat) : State :=
  let gain := u.reading (·.gain) u.zoomStep
  { u with stu := { u.stu with
      yaw := u.stu.yaw.update (x.yaw - o.1) leak gain u.otb.glob.stroke,
      pitch := u.stu.pitch.update (x.pitch - o.2) leak gain u.otb.glob.stroke } }

/-- Both axes supervised and integrated under a leak. -/
def integrated (s : State) (x : Sample) (oy op : Int) (leak : Nat) : State :=
  let after (a : SteadyAxis) (net shift : Int) : SteadyAxis :=
    (supervised a shift).update net leak (s.reading (·.gain) s.zoomStep) s.otb.glob.stroke
  { s with stu := { s.stu with
      yaw := after s.stu.yaw (x.yaw - oy) x.shiftYaw, pitch := after s.stu.pitch (x.pitch - op) x.shiftPitch } }

/-- The raw shifts of both axes lie below a quarter of the stroke. -/
def rawSmall (s : State) : Bool :=
  let gain := s.reading (·.gain) s.zoomStep
  (rawShift s.stu.yaw.theta gain).natAbs < s.otb.glob.stroke / 4 &&
    (rawShift s.stu.pitch.theta gain).natAbs < s.otb.glob.stroke / 4

theorem integrateStage_runs {u : State} (steers : u.stu.state.runs = true) (geometry : u.lensGeometry = true)
    (x : Sample) :
    u.integrateStage x =
      (clampMarked (updated u x (u.stu.offset.getD (0, 0)) u.leakInForce)).panning
        (rawSmall (updated u x (u.stu.offset.getD (0, 0)) u.leakInForce)) := by
  rw [State.integrateStage]
  exact (if_pos steers).trans (if_pos geometry)

/-- The hypotheses of a sample that steadies. -/
structure Steers (s : State) (oy op : Int) : Prop where
  none : s.stu.cal = none
  runs : s.stu.state = .active ∨ s.stu.state = .panning
  offset : s.stu.offset = some (oy, op)
  geometry : s.lensGeometry = true
  yaw : s.stu.yaw.supervised < 19
  pitch : s.stu.pitch.supervised < 19

theorem panning_off {s : State} {small : Bool} (runs : s.stu.state = .active ∨ s.stu.state = .panning) :
    (s.panning small).stu.state ≠ .recentering := by
  obtain active | panning := runs
  · simp only [State.panning, active]
    split
    · exact fun h => absurd (show StuState.panning = .recentering from h) (by decide)
    · rw [active]
      decide
  · simp only [State.panning, panning]
    split
    · exact fun h => absurd (show StuState.active = .recentering from h) (by decide)
    · rw [panning]
      decide

/-- A sample that steadies: both axes integrate, a clamped one marks the record, and PANNING begins or ends. -/
theorem sample_steers {s : State} {x : Sample} {oy op : Int} (h : Steers s oy op) :
    s.sample x = (clampMarked (integrated s x oy op s.leakInForce)).panning
      (rawSmall (integrated s x oy op s.leakInForce)) := by
  have steers : s.stu.state.runs = true := (runs_iff _).mpr h.runs
  refine sample_quiet ?_ (panning_off ?_)
  · let u : State :=
      { s with stu := { s.stu with
          yaw := supervised s.stu.yaw x.shiftYaw, pitch := supervised s.stu.pitch x.shiftPitch } }
    have runs := integrateStage_runs (u := u) steers h.geometry x
    have offset : u.stu.offset.getD (0, 0) = (oy, op) := by rw [show u.stu.offset = some (oy, op) from h.offset]; rfl
    rw [offset] at runs
    rw [superviseStage_sound h.none h.runs h.yaw h.pitch]
    exact runs
  · rw [clampMarked_stu]
    exact h.runs

/-- A record's field given as it stands. -/
theorem stu_state {u : Stu} {state : StuState} (stands : u.state = state) (yaw pitch : SteadyAxis) :
    { u with yaw := yaw, pitch := pitch } = { u with state := state, yaw := yaw, pitch := pitch } := by
  cases stands
  rfl

/-- An axis held centred, its supervision counted or not. -/
def centredAxis (counts : Prop) [Decidable counts] (a : SteadyAxis) (shift : Int) : SteadyAxis :=
  { theta := 0, target := 0, measured := shift, saturated := 0,
    supervised := if counts ∧ 200 < (shift - a.target).natAbs then a.supervised + 1 else 0 }

theorem centre_supervised {a : SteadyAxis} (few : a.supervised < 19) {counts : Prop} [Decidable counts]
    (holds : counts) (shift : Int) : (supervised a shift).centre = centredAxis counts a shift := by
  have count := supervised_count few shift
  simp only [SteadyAxis.centre, centredAxis, holds, true_and, count]
  rfl

theorem centre_uncounted {a : SteadyAxis} {counts : Prop} [Decidable counts] (fails : ¬ counts) (shift : Int) :
    { (supervised a shift).centre with supervised := 0, saturated := 0 } = centredAxis counts a shift := by
  simp only [centredAxis, fails, false_and, if_false]
  rfl

/-- A sample without lens geometry: the lens is held centred (R120). -/
theorem sample_blind {s : State} {x : Sample} (none : s.stu.cal = none)
    (runs : s.stu.state = .active ∨ s.stu.state = .panning) (geometry : s.lensGeometry = false)
    (yaw : s.stu.yaw.supervised < 19) (pitch : s.stu.pitch.supervised < 19) :
    s.sample x =
      { s with stu := { s.stu with
          state := .active, yaw := centredAxis (s.stu.state = .active) s.stu.yaw x.shiftYaw,
          pitch := centredAxis (s.stu.state = .active) s.stu.pitch x.shiftPitch } } := by
  have steers : s.stu.state.runs = true := (runs_iff _).mpr runs
  let t : State :=
    { s with stu := { s.stu with
        yaw := (supervised s.stu.yaw x.shiftYaw).centre, pitch := (supervised s.stu.pitch x.shiftPitch).centre } }
  have reaches : (((s.readShift x).calibrate x).superviseStage).integrateStage x = t.panning true := by
    rw [superviseStage_sound none runs yaw pitch, State.integrateStage]
    refine (if_pos steers).trans (if_neg ?_)
    rw [Bool.not_eq_true]
    exact geometry
  rw [sample_quiet reaches (panning_off runs)]
  obtain active | panning := runs
  · have stands : t.panning true = t := by
      simp only [State.panning, show t.stu.state = .active from active]
      exact if_neg (by show ¬ (0 = 200 ∨ 0 = 200); decide)
    rw [stands, ← centre_supervised yaw active, ← centre_supervised pitch active, ← stu_state active]
  · have leaves : t.panning true = (t.enterStu .active).onSteady fun a => { a with saturated := 0 } := by
      simp only [State.panning, show t.stu.state = .panning from panning, if_true]
    have off : ¬ s.stu.state = .active := by rw [panning]; decide
    rw [leaves, ← centre_uncounted off, ← centre_uncounted off]
    rfl

/-! ## RATE_SAMPLE (R111) -/

theorem shiftsRead_free {u : Stu} (free : ¬ (u.state = .off ∨ u.state = .fault)) (x : Sample) :
    shiftsRead u x =
      { u with yaw := { u.yaw with measured := x.shiftYaw }, pitch := { u.pitch with measured := x.shiftPitch } } := by
  simp only [shiftsRead, if_neg free]

/-- The axis a sample leaves, written out. -/
def sampledAxis (gain stroke : Int) (a : SteadyAxis) (net shift : Int) (leak : Nat) : SteadyAxis :=
  let theta := max (-(2 ^ 30)) (min (2 ^ 30) (a.theta + net - a.theta.tdiv (2 ^ leak)))
  let raw := (theta * gain).tdiv (2 ^ 24)
  let target := max (-stroke) (min stroke raw)
  { theta := theta, target := target, measured := shift,
    saturated := if raw = target then 0 else min 200 (a.saturated + 1),
    supervised := if 200 < (shift - a.target).natAbs then a.supervised + 1 else 0 }

theorem update_supervised {a : SteadyAxis} (few : a.supervised < 19) (net shift gain : Int) (leak stroke : Nat) :
    (supervised a shift).update net leak gain stroke = sampledAxis gain stroke a net shift leak := by
  have count := supervised_count few shift
  simp only [SteadyAxis.update, sampledAxis, count]
  rfl

theorem update_saturated {a : SteadyAxis} (few : a.saturated < 199) (net shift gain : Int) (leak stroke : Nat) :
    ((supervised a shift).update net leak gain stroke).saturated ≠ 200 := by
  show (if _ then 0 else min 200 (a.saturated + 1)) ≠ 200
  rw [min_eq_right (by omega)]
  split
  · decide
  · exact Nat.ne_of_lt (Nat.succ_lt_succ few)

theorem panning_stays {s : State} {small : Bool} (active : s.stu.state = .active)
    (few : ¬ (s.stu.yaw.saturated = 200 ∨ s.stu.pitch.saturated = 200)) : s.panning small = s := by
  simp only [State.panning, active, if_neg few]

theorem panning_begins {s : State} {small : Bool} (active : s.stu.state = .active)
    (many : s.stu.yaw.saturated = 200 ∨ s.stu.pitch.saturated = 200) : s.panning small = s.enterStu .panning := by
  simp only [State.panning, active, if_pos many]

theorem panning_ends {s : State} {small : Bool} (panning : s.stu.state = .panning) :
    s.panning small = if small then (s.enterStu .active).onSteady fun a => { a with saturated := 0 } else s := by
  simp only [State.panning, panning]

theorem integrated_eq {s : State} (yaw : s.stu.yaw.supervised < 19) (pitch : s.stu.pitch.supervised < 19) (x : Sample)
    (oy op : Int) (leak : Nat) :
    integrated s x oy op leak =
      { s with stu := { s.stu with
          yaw := sampledAxis (s.reading (·.gain) s.zoomStep) s.otb.glob.stroke s.stu.yaw (x.yaw - oy) x.shiftYaw leak,
          pitch := sampledAxis (s.reading (·.gain) s.zoomStep) s.otb.glob.stroke s.stu.pitch (x.pitch - op) x.shiftPitch
            leak } } := by
  simp only [integrated, update_supervised yaw, update_supervised pitch]

theorem rawSmall_iff (s : State) (x : Sample) (oy op : Int) (leak : Nat) :
    rawSmall (integrated s x oy op leak) = true ↔
      (rawShift (clampMarked (integrated s x oy op leak)).stu.yaw.theta (s.reading (·.gain) s.zoomStep)).natAbs <
        s.otb.glob.stroke / 4 ∧
      (rawShift (clampMarked (integrated s x oy op leak)).stu.pitch.theta (s.reading (·.gain) s.zoomStep)).natAbs <
        s.otb.glob.stroke / 4 := by
  rw [clampMarked_stu]
  show (decide _ && decide _) = true ↔ _
  rw [Bool.and_eq_true, decide_eq_true_eq, decide_eq_true_eq]
  rfl

/-- Settles O35: the four kinds of state a sample finds. -/
theorem sampleIntegrates : Obligations.SampleIntegrates := by
  intro x s none
  have asked : exec (.rateSample x) s = .next (s.sample x) := rfl
  dsimp only
  rw [asked]
  refine ⟨fun stands => ?_, fun runs geometry yaw pitch => ?_, fun runs => ⟨fun outside => ?_,
    fun c h sp inside state capture hand split => ?_⟩, fun oy op offset geometry yaw pitch => ⟨fun active few few' => ?_,
      fun panning => ⟨fun large => ?_, fun small small' => ?_⟩⟩⟩
  · have read : (s.readShift x).calibrate x = { s with stu := shiftsRead s.stu x } := by
      rw [readShift_eq]
      exact calibrate_none (s := { s with stu := shiftsRead s.stu x }) none x
    have still : s.stu.state.runs = false ∧ s.stu.state ≠ .recentering := by
      obtain state | state | state | state := stands <;> rw [state] <;> decide
    rw [sample_stands (by rw [read]; exact still.1) (by rw [read]; exact still.2), read]
    rfl
  · exact congrArg Host.Outcome.next (sample_blind none runs geometry yaw pitch)
  · rw [sample_recentering none runs, if_neg outside, shiftsRead_free (by rw [runs]; decide)]
  · rw [sample_recentering none runs, if_pos inside, shiftsRead_free (by rw [runs]; decide)]
    exact congrArg Host.Outcome.next (centred_eq
      (s := State.enterStu
        { s with stu := { s.stu with
            yaw := { s.stu.yaw with measured := x.shiftYaw },
            pitch := { s.stu.pitch with measured := x.shiftPitch } } } .active) state capture hand split false)
  · have h : Steers s oy op := ⟨none, .inl active, offset, geometry, yaw, pitch⟩
    have leak : s.leakInForce = s.stu.leak := if_neg (by rw [active]; decide)
    have stays := panning_stays (s := clampMarked (integrated s x oy op s.stu.leak))
      (small := rawSmall (integrated s x oy op s.stu.leak))
      (by rw [clampMarked_stu]; exact active)
      (by rw [clampMarked_stu]; exact not_or.mpr ⟨update_saturated few _ _ _ _ _, update_saturated few' _ _ _ _ _⟩)
    rw [sample_steers h, leak, stays, integrated_eq yaw pitch]
    rfl
  all_goals
    have h : Steers s oy op := ⟨none, .inr panning, offset, geometry, yaw, pitch⟩
    have leak : s.leakInForce = 4 := if_pos panning
    have ends := panning_ends (s := clampMarked (integrated s x oy op 4)) (small := rawSmall (integrated s x oy op 4))
      (by rw [clampMarked_stu]; exact panning)
    rw [sample_steers h, leak, ends]
  all_goals
    have judged := rawSmall_iff s x oy op 4
    rw [integrated_eq yaw pitch] at judged ⊢
  · exact congrArg Host.Outcome.next (if_neg fun small => large (judged.mp small))
  · exact congrArg Host.Outcome.next (if_pos (judged.mpr ⟨small, small'⟩))

/-! ## The samples that are events of their own (R112, R114, R121, R125) -/

/-- The calibration with the sample taken. -/
def taken (c : Calibration) (x : Sample) : Calibration :=
  { c with samples := c.samples + 1, yaw := c.yaw.take (c.samples == 0) x.yaw,
           pitch := c.pitch.take (c.samples == 0) x.pitch }

theorem endsWindow_eq {s : State} {c : Calibration} (cal : s.stu.cal = some c) :
    s.endsWindow = decide (512 ≤ c.samples + 1) := by
  rw [State.endsWindow, cal]

theorem calibrate_full {s : State} {c : Calibration} (cal : s.stu.cal = some c) (full : c.samples = 511) (x : Sample) :
    s.calibrate x = s.judgeWindow (taken c x) := by
  have ends : 512 ≤ (taken c x).samples := by
    show 512 ≤ c.samples + 1
    omega
  simp only [State.calibrate, cal]
  exact if_pos ends

/-- What a window reports of itself. -/
def reportOf (c : Calibration) : WindowReport :=
  { spreadYaw := c.yaw.spread, spreadPitch := c.pitch.spread, meanYaw := c.yaw.mean, meanPitch := c.pitch.mean }

theorem judgeWindow_eq {s : State} {e : OpEntry} (kind : s.entryOfKind .gyroCal = some e) (c : Calibration) :
    s.judgeWindow c =
      (let t := State.countUnit { s with stu := { s.stu with cal := none } } e.tag
       if c.yaw.spread ≤ 64 ∧ c.pitch.spread ≤ 64 then
         (t.setOffset c.yaw.mean c.pitch.mean).endCalibration .complete .none (some 0) (c.judged + 1)
           (some (reportOf c))
       else if 4 ≤ c.failed + 1 then
         t.endCalibration .complete .none (some 1) (c.judged + 1) (some (reportOf c))
       else if e.state = .stopping then
         t.endCalibration .partialEnd (s.recordedCause e.tag) none (c.judged + 1) (some (reportOf c))
       else
         { t with stu := { t.stu with
             cal := some { failed := c.failed + 1, judged := c.judged + 1, samples := 0, yaw := emptyWindow,
                           pitch := emptyWindow, last := some (reportOf c) } } }) := by
  simp only [State.judgeWindow, kind]
  rfl

/-- The GYRO-CAL ends with its unit counted. -/
theorem endCalibration_counted {s : State} {e : OpEntry} (kind : s.entryOfKind .gyroCal = some e)
    (found : s.entry e.tag = some e) (cls : EndClass) (cause : Cause) (result : Option Nat) (judged : Nat)
    (last : Option WindowReport) :
    (s.countUnit e.tag).endCalibration cls cause result judged last =
      { s with opt :=
          { table := s.opt.table.filter fun f => f.tag != e.tag,
            outbox := s.opt.outbox ++
              [.ending { tag := e.tag, kind := e.kind, cls := cls, cause := cause, done := min 65535 (e.done + 1),
                         resume := .absent, result := result, fields := .gyro s.stu.offset judged last }] } } := by
  have counted : (s.countUnit e.tag).entryOfKind .gyroCal = some { e with done := min 65535 (e.done + 1) } :=
    entryOfKind_updateEntry kind fun _ => rfl
  simp only [State.endCalibration, counted]
  exact ending_countUnit found cls cause .absent result _

theorem setOffset_off {s : State} (mode : s.stu.mode = .off) (sound : s.stu.fault = false) (yaw pitch : Int) :
    s.setOffset yaw pitch =
      { s with stu := { s.stu with
          state := .off, offset := some (yaw, pitch), yaw := resting .off s.stu.yaw,
          pitch := resting .off s.stu.pitch } } := by
  let t : State := State.onSteady { s with stu := { s.stu with offset := some (yaw, pitch) } } SteadyAxis.stop
  have row : t.stuRow = .off := by
    rw [State.stuRow, if_neg (by rw [show t.stu.fault = false from sound]; decide)]
    exact if_pos mode
  have derived := deriveStu_eq t
  rw [row] at derived
  exact derived

theorem shiftsRead_locked {u : Stu} (locked : u.state = .off ∨ u.state = .fault) (x : Sample) :
    shiftsRead u x = { u with yaw := { u.yaw with measured := 0 }, pitch := { u.pitch with measured := 0 } } := by
  simp only [shiftsRead, if_pos locked]

/-- The last sample of a window. -/
theorem taken_last {c : Calibration} (full : c.samples = 511) (x : Sample) :
    taken c x =
      { c with
          samples := c.samples + 1,
          yaw := { sum := c.yaw.sum + x.yaw, largest := max c.yaw.largest x.yaw, smallest := min c.yaw.smallest x.yaw },
          pitch := { sum := c.pitch.sum + x.pitch, largest := max c.pitch.largest x.pitch,
                     smallest := min c.pitch.smallest x.pitch } } := by
  have later : (c.samples == 0) = false := by rw [full]; rfl
  simp only [taken, later, WindowAxis.take, Bool.false_eq_true, if_false]

/-- The hypotheses of a window's last sample, the stage OFF. -/
structure Judges (s : State) (c : Calibration) (e : OpEntry) : Prop where
  cal : s.stu.cal = some c
  full : c.samples = 511
  kind : s.entryOfKind .gyroCal = some e
  found : s.entry e.tag = some e
  state : s.stu.state = .off
  mode : s.stu.mode = .off
  sound : s.stu.fault = false

/-- The state in which the window is judged. -/
def lockedRead (s : State) : State :=
  { s with stu := { s.stu with
      yaw := { s.stu.yaw with measured := 0 }, pitch := { s.stu.pitch with measured := 0 } } }

theorem windowEnd_sample {s : State} {c : Calibration} {e : OpEntry} (h : Judges s c e) {x : Sample} {t : State}
    (judged : (lockedRead s).judgeWindow (taken c x) = t) (off : t.stu.state = .off) :
    exec (.gyroCalWindowEnd x) s = .next t := by
  have read : (s.readShift x).calibrate x = t := by
    rw [readShift_eq, shiftsRead_locked (.inl h.state)]
    exact (calibrate_full (s := lockedRead s) h.cal h.full x).trans judged
  have ends : s.endsWindow = true := by
    rw [endsWindow_eq h.cal, h.full]
    rfl
  have sampled := sample_stands (s := s) (x := x) (by rw [read, off]; rfl) (by rw [read, off]; decide)
  exact congrArg Host.Outcome.next ((if_pos ends).trans (sampled.trans read))

/-- The state with the GYRO-CAL ended. -/
def calibrated (s : State) (e : OpEntry) (stu : Stu) (code judged : Nat) (report : WindowReport) : State :=
  { s with
      stu := { stu with cal := none },
      opt := { table := s.opt.table.filter (fun f => f.tag != e.tag),
               outbox := s.opt.outbox ++
                 [.ending { tag := e.tag, kind := e.kind, cls := .complete, cause := .none,
                            done := min 65535 (e.done + 1), resume := .absent, result := some code,
                            fields := .gyro stu.offset judged (some report) }] } }

theorem windowEnd_set {s : State} {c : Calibration} {e : OpEntry} (h : Judges s c e) {x : Sample}
    (steady : (taken c x).yaw.spread ≤ 64 ∧ (taken c x).pitch.spread ≤ 64) :
    exec (.gyroCalWindowEnd x) s =
      .next
        (calibrated s e
          { s.stu with
              offset := some ((taken c x).yaw.mean, (taken c x).pitch.mean),
              yaw := resting .off s.stu.yaw, pitch := resting .off s.stu.pitch }
          0 (c.judged + 1) (reportOf (taken c x))) := by
  have stands := stu_state
    (u := { s.stu with offset := some ((taken c x).yaw.mean, (taken c x).pitch.mean) }) h.state
    (resting .off s.stu.yaw) (resting .off s.stu.pitch)
  refine Eq.trans ?_ (congrArg
    (fun u : Stu => Host.Outcome.next (calibrated s e u 0 (c.judged + 1) (reportOf (taken c x)))) stands.symm)
  refine windowEnd_sample h ?_ rfl
  rw [judgeWindow_eq (s := lockedRead s) h.kind]
  refine (if_pos steady).trans ?_
  let u : State := { lockedRead s with stu := { (lockedRead s).stu with cal := none } }
  have offset := setOffset_off (s := u.countUnit e.tag) h.mode h.sound (taken c x).yaw.mean (taken c x).pitch.mean
  refine (congrArg (fun v : State => v.endCalibration .complete .none (some 0) ((taken c x).judged + 1)
    (some (reportOf (taken c x)))) offset).trans ?_
  exact endCalibration_counted
    (s := { u with stu := { u.stu with
      state := .off, offset := some ((taken c x).yaw.mean, (taken c x).pitch.mean),
      yaw := resting .off u.stu.yaw, pitch := resting .off u.stu.pitch } }) h.kind h.found .complete .none (some 0)
    ((taken c x).judged + 1) (some (reportOf (taken c x)))

theorem windowEnd_notStill {s : State} {c : Calibration} {e : OpEntry} (h : Judges s c e) {x : Sample}
    (unsteady : ¬ ((taken c x).yaw.spread ≤ 64 ∧ (taken c x).pitch.spread ≤ 64)) (last : 3 ≤ c.failed) :
    exec (.gyroCalWindowEnd x) s =
      .next (calibrated s e (lockedRead s).stu 1 (c.judged + 1) (reportOf (taken c x))) := by
  refine windowEnd_sample h ?_ h.state
  rw [judgeWindow_eq (s := lockedRead s) h.kind]
  refine (if_neg unsteady).trans ((if_pos (show 4 ≤ c.failed + 1 by omega)).trans ?_)
  exact endCalibration_counted (s := { lockedRead s with stu := { (lockedRead s).stu with cal := none } }) h.kind h.found
    .complete .none (some 1) ((taken c x).judged + 1) (some (reportOf (taken c x)))

theorem windowEnd_next {s : State} {c : Calibration} {e : OpEntry} (h : Judges s c e) {x : Sample}
    (unsteady : ¬ ((taken c x).yaw.spread ≤ 64 ∧ (taken c x).pitch.spread ≤ 64)) (more : c.failed < 3)
    (runs : e.state ≠ .stopping) :
    exec (.gyroCalWindowEnd x) s =
      .next
        (State.countUnit
          { s with stu := { (lockedRead s).stu with
              cal := some { failed := c.failed + 1, judged := c.judged + 1, samples := 0, yaw := emptyWindow,
                            pitch := emptyWindow, last := some (reportOf (taken c x)) } } } e.tag) := by
  refine windowEnd_sample h ?_ h.state
  rw [judgeWindow_eq (s := lockedRead s) h.kind]
  refine (if_neg unsteady).trans ((if_neg (show ¬ 4 ≤ c.failed + 1 by omega)).trans ((if_neg runs).trans ?_))
  rfl

theorem attention_stu (s : State) (source : Source) (condition : Condition) (detail : Nat) :
    (s.attention source condition detail).stu = s.stu := by
  unfold State.attention
  split <;> rfl

/-- The fault is latched with no calibration in progress: FAULT, the stage locked, ATTENTION (R125). -/
theorem latchFault_eq {s : State} (none : s.stu.cal = none) (detail : Nat) :
    s.latchFault detail =
      State.attention
        { s with stu := { s.stu with
            state := .fault, fault := true, yaw := resting .fault s.stu.yaw, pitch := resting .fault s.stu.pitch } }
        .steady .actuatorFault detail := by
  let t : State := { s with stu := { s.stu with fault := true } }
  have derived := deriveStu_eq t
  have row : t.stuRow = .fault := if_pos rfl
  rw [row] at derived
  have latched := congrArg (fun v : State => v.attention .steady .actuatorFault detail) derived
  have cal : ((t.deriveStu).attention .steady .actuatorFault detail).stu.cal = .none := by
    rw [attention_stu, derived]
    exact none
  rw [State.latchFault]
  show (match ((t.deriveStu).attention .steady .actuatorFault detail).stu.cal with
    | .none => (t.deriveStu).attention .steady .actuatorFault detail
    | some c => _) = _
  rw [cal]
  exact latched

/-- The fault of the yaw axis is latched (R125). -/
theorem sample_faults {s : State} {x : Sample} (none : s.stu.cal = none)
    (runs : s.stu.state = .active ∨ s.stu.state = .panning) (count : s.stu.yaw.supervised = 19)
    (far : 200 < (x.shiftYaw - s.stu.yaw.target).natAbs) :
    s.sample x =
      State.attention
        { s with stu := { s.stu with
            state := .fault, fault := true, yaw := resting .fault s.stu.yaw, pitch := resting .fault s.stu.pitch } }
        .steady .actuatorFault 0 := by
  have free : ¬ (s.stu.state = .off ∨ s.stu.state = .fault) := by
    obtain state | state := runs <;> rw [state] <;> decide
  have steers : s.stu.state.runs = true := (runs_iff _).mpr runs
  have full : (supervised s.stu.yaw x.shiftYaw).supervised = 20 := by
    show (if 200 < (x.shiftYaw - s.stu.yaw.target).natAbs then min 20 (s.stu.yaw.supervised + 1) else 0) = 20
    rw [if_pos far, count]
    rfl
  let t : State :=
    { s with stu := { s.stu with
        yaw := supervised s.stu.yaw x.shiftYaw, pitch := supervised s.stu.pitch x.shiftPitch } }
  have latched : ((s.readShift x).calibrate x).superviseStage = t.latchFault 0 := by
    rw [readShift_eq, shiftsRead_free free, calibrate_none (by exact none), State.superviseStage]
    exact (if_pos steers).trans (if_pos full)
  have state : (t.latchFault 0).stu.state = .fault := by
    rw [latchFault_eq (s := t) none, attention_stu]
  refine (sample_quiet (t := t.latchFault 0) ?_ (by rw [state]; decide)).trans (latchFault_eq (s := t) none 0)
  rw [latched]
  exact integrateStage_stands (by rw [state]; rfl) x

/-- The mark in the open record is no part of the steadying unit. -/
theorem reportClamped_enterStu (s : State) (state : StuState) :
    s.reportClamped.enterStu state = (s.enterStu state).reportClamped := by
  simp only [State.reportClamped, State.markOpen, State.enterStu, State.onSteady]
  cases s.fmn.ring.reverse <;> rfl

/-- Settles O36: the end of a window, the entry into PANNING, the fault latched. -/
theorem sampleEvents : Obligations.SampleEvents := by
  intro x s
  refine ⟨fun c cal early => ?_, fun c e cal full kind found state mode sound => ?_, fun other => ?_,
    fun oy op active none offset geometry few few' => ?_, fun fault => ?_, fun sound none runs count far => ?_⟩
  · exact congrArg Host.Outcome.next (if_neg (by
      rw [endsWindow_eq cal, decide_eq_true_eq]
      exact show ¬ 512 ≤ c.samples + 1 by omega))
  · have h : Judges s c e := ⟨cal, full, kind, found, state, mode, sound⟩
    have last := taken_last full x
    dsimp only
    refine ⟨fun steady => ?_, fun unsteady many => ?_, fun unsteady more goes => ?_⟩
    · have ends := windowEnd_set h (x := x) (by rw [last]; exact steady)
      rw [last] at ends
      exact ends
    · have ends := windowEnd_notStill h (x := x) (by rw [last]; exact unsteady) many
      rw [last] at ends
      exact ends
    · have ends := windowEnd_next h (x := x) (by rw [last]; exact unsteady) more goes
      rw [last] at ends
      exact ends
  · exact congrArg Host.Outcome.next (if_neg fun both => other both.1)
  · have h : Steers s oy op := ⟨none, .inl active, offset, geometry, few, few'⟩
    have leak : s.leakInForce = s.stu.leak := if_neg (by rw [active]; decide)
    have sampled := sample_steers (x := x) h
    rw [leak] at sampled
    have marked : (clampMarked (integrated s x oy op s.stu.leak)).stu = (integrated s x oy op s.stu.leak).stu :=
      clampMarked_stu _
    refine ⟨fun below below' => ?_, fun reached => ?_⟩
    · have stays := panning_stays (s := clampMarked (integrated s x oy op s.stu.leak))
        (small := rawSmall (integrated s x oy op s.stu.leak)) (by rw [marked]; exact active)
        (by rw [marked]; exact not_or.mpr ⟨Nat.ne_of_lt below, Nat.ne_of_lt below'⟩)
      have stands : (s.sample x).stu.state = .active := by
        rw [sampled, stays, marked]
        exact active
      exact congrArg Host.Outcome.next (if_neg fun both => absurd (stands.symm.trans both.2) (by decide))
    · have begins := panning_begins (s := clampMarked (integrated s x oy op s.stu.leak))
        (small := rawSmall (integrated s x oy op s.stu.leak)) (by rw [marked]; exact active)
        (by rw [marked]; exact reached)
      have clamps : clampMarked (integrated s x oy op s.stu.leak) = (integrated s x oy op s.stu.leak).reportClamped := by
        refine if_pos ?_
        obtain full | full := reached
        · exact .inl (lt_of_lt_of_eq (by decide : 0 < 200) full.symm)
        · exact .inr (lt_of_lt_of_eq (by decide : 0 < 200) full.symm)
      have enters : s.sample x = ((integrated s x oy op s.stu.leak).enterStu .panning).reportClamped := by
        rw [sampled, begins, clamps, reportClamped_enterStu]
      have panning : (s.sample x).stu.state = .panning := by
        rw [enters, reportClamped_stu]
        rfl
      exact congrArg Host.Outcome.next ((if_pos ⟨active, panning⟩).trans enters)
  · exact congrArg Host.Outcome.next (if_neg fun both => absurd (both.1.symm.trans fault) (by decide))
  · have faults := sample_faults none runs count far
    have latched : s.stu.fault = false ∧ (s.sample x).stu.fault = true := by
      rw [faults, attention_stu]
      exact ⟨sound, rfl⟩
    exact congrArg Host.Outcome.next ((if_pos latched).trans faults)

end Sys2Proof.Proofs.Steadying
end

section
/-! PROOFS. What the lens drive and the exposure computer do at a frame start they do whatever FMN, FSU and CSQ hold
beside (R25, R27, R84 to R87): they commute with a graft of those blocks. -/

namespace Sys2Proof.Proofs.Grafts
open Sys2Proof Sys2Proof.Machine

-- one declaration after another: each unfolds operations whose equations another would be waiting for
set_option Elab.async false

/-- The state with the frame records, the focus search, the capture and the gyro offset of another. -/
def graft (s q : State) : State :=
  { s with fmn := q.fmn, fsu := q.fsu, csq := q.csq, stu := { s.stu with offset := q.stu.offset } }

variable (s q : State)

@[simp] theorem graft_self : graft s s = s := rfl

@[simp] theorem graft_axis (a : Axis) : (graft s q).axis a = s.axis a := by cases a <;> rfl

@[simp] theorem graft_setAxis (a : Axis) (r : AxisRec) : (graft s q).setAxis a r = graft (s.setAxis a r) q := by
  cases a <;> rfl

@[simp] theorem graft_ldu : (graft s q).ldu = s.ldu := rfl

@[simp] theorem graft_updateEntry (tag : Nat) (f : OpEntry → OpEntry) :
    (graft s q).updateEntry tag f = graft (s.updateEntry tag f) q := rfl

@[simp] theorem graft_beginUnit (tag : Nat) : (graft s q).beginUnit tag = graft (s.beginUnit tag) q := rfl

@[simp] theorem graft_leaveWait (a : Axis) : (graft s q).leaveWait a = graft (s.leaveWait a) q := rfl

@[simp] theorem graft_joinWait (a : Axis) (r : AxisRec) : (graft s q).joinWait a r = graft (s.joinWait a r) q := by
  cases a <;> rfl

@[simp] theorem graft_energizeAxis (a : Axis) (r : AxisRec) :
    (graft s q).energizeAxis a r = graft (s.energizeAxis a r) q := by
  unfold State.energizeAxis
  split
  · exact graft_joinWait s q a r
  · exact graft_setAxis s q a _

/-- A target given to an axis (R21). -/
@[simp] theorem graft_giveTarget (a : Axis) (v : Nat) :
    (graft s q).giveTarget a v = (graft (s.giveTarget a v).1 q, (s.giveTarget a v).2) := by
  simp only [State.giveTarget, graft_axis]
  cases (s.axis a).pp with
  | none => rfl
  | some p =>
    cases (s.axis a).state with
    | homing => rfl
    | _ => dsimp only; (try split) <;> simp

@[simp] theorem graft_centreStu : (graft s q).centreStu = graft s.centreStu q := by
  show (if s.stu.state.runs then (graft s q).onSteady SteadyAxis.centre else graft s q) =
    graft (if s.stu.state.runs then s.onSteady SteadyAxis.centre else s) q
  split <;> rfl

@[simp] theorem graft_referenceLost (a : Axis) : (graft s q).referenceLost a = graft (s.referenceLost a) q := by
  cases a with
  | zoom => exact graft_centreStu s.excLost q
  | focus => rfl
  | iris => rfl

@[simp] theorem graft_stepInterval (a : Axis) : (graft s q).stepInterval a = s.stepInterval a := by
  simp only [State.stepInterval, graft_axis]
  rfl

@[simp] theorem graft_beginStep (a : Axis) : (graft s q).beginStep a = graft (s.beginStep a) q := by
  simp only [State.beginStep, graft_axis, graft_stepInterval, graft_setAxis]

@[simp] theorem graft_beginHoming (a : Axis) : (graft s q).beginHoming a = graft (s.beginHoming a) q := by
  simp only [State.beginHoming, graft_axis, graft_stepInterval, graft_setAxis, graft_referenceLost, graft_ldu]
  split <;> rfl

@[simp] theorem graft_followPoint : (graft s q).followPoint = graft s.followPoint q := by
  have focus : (graft s q).focusFor (graft s q).zoomStep (graft s q).ldu.d = s.focusFor s.zoomStep s.ldu.d := rfl
  rw [State.followPoint, State.followPoint, focus, graft_giveTarget]

/-- A slot granted (R25). -/
@[simp] theorem graft_granted (a : Axis) : (graft s q).granted a = graft (s.granted a) q := by
  simp only [State.granted, graft_axis, graft_beginHoming, graft_setAxis, graft_beginStep, graft_beginUnit,
    graft_followPoint]
  split
  · rfl
  · split
    · rfl
    · split <;> try rfl
      split <;> rfl

@[simp] theorem graft_grantOne : (graft s q).grantOne = graft s.grantOne q := by
  simp only [State.grantOne, graft_ldu]
  split
  · rfl
  · rename_i a rest waits
    have slots : (graft s q).slotHolders = s.slotHolders := rfl
    rw [slots]
    split
    · exact graft_granted { s with ldu := { s.ldu with waitList := rest } } q a
    · rfl

@[simp] theorem graft_arbitrate : (graft s q).arbitrate = graft s.arbitrate q := by
  simp only [State.arbitrate, graft_grantOne]

/-- The pending iris target (R27). -/
@[simp] theorem graft_actIris :
    (graft s q).actIris = (graft s.actIris.1 q, s.actIris.2) := by
  simp only [State.actIris, graft_ldu]
  split
  · rfl
  · split
    · rfl
    · rw [graft_giveTarget]
      generalize s.giveTarget .iris _ = given
      obtain ⟨u, reach⟩ := given
      cases reach <;> rfl

@[simp] theorem graft_writeIris (v : Nat) (writer : Writer) :
    (graft s q).writeIris v writer = (graft (s.writeIris v writer).1 q, (s.writeIris v writer).2) := by
  let t : State := { s with ldu := { s.ldu with pendingIris := some { value := min 96 v, writer := writer } } }
  have acts := graft_actIris t q
  show ((graft t q).actIris.1.arbitrate, (graft t q).actIris.2) = (graft t.actIris.1.arbitrate q, t.actIris.2)
  rw [acts, graft_arbitrate]

/-! ## The exposure computer's part of a frame start (R84 to R87) -/

theorem graft_placeExposure (n : Notice) : (graft s q).placeExposure n = graft (s.placeExposure n) q := by
  show (if s.opt.outbox.any isExposure then
      { graft s q with opt := { s.opt with outbox := s.opt.outbox.map fun m => if isExposure m then n else m } }
    else (graft s q).place n) = graft (s.placeExposure n) q
  unfold State.placeExposure
  split <;> rfl

theorem graft_sendExposure (e : ExpEntry) : (graft s q).sendExposure e = graft (s.sendExposure e) q := by
  have notice : (graft s q).exposureNotice e = s.exposureNotice e := rfl
  simp only [State.sendExposure, notice, graft_placeExposure]
  rfl

theorem graft_issue (e : ExpEntry) : (graft s q).issue e = graft (s.issue e) q :=
  graft_sendExposure
    { s with exc := { s.exc with
        ring := (s.exc.ring ++ [e]).drop ((s.exc.ring ++ [e]).length - 8),
        nextSerial := nextNumber s.exc.nextSerial } } q e

theorem graft_issueOrKeep (e : ExpEntry) : (graft s q).issueOrKeep e = graft (s.issueOrKeep e) q := by
  have exc : (graft s q).exc = s.exc := rfl
  simp only [State.issueOrKeep, exc, graft_issue, graft_sendExposure]
  split
  · rfl
  · split
    · rfl
    · split <;> rfl

/-- EXC's part of a frame start reads the frame records, and nothing else of what is grafted. -/
theorem graft_excFrame (same : q.fmn = s.fmn) : (graft s q).excFrame = graft s.excFrame q := by
  have asks : (graft s q).issueX = s.issueX := rfl
  have splits (tvHi : Nat) (x : Int) : (graft s q).split tvHi x = s.split tvHi x := by
    have steady : (graft s q).relief = s.relief := by
      have recent : (graft s q).recentlyUnsteady = s.recentlyUnsteady := by
        show State.recentlyUnsteady { s with fmn := q.fmn } = _
        rw [same]
      simp only [State.relief, recent]
      rfl
    simp only [State.split, steady]
    rfl
  simp only [State.excFrame, asks]
  split
  · rfl
  · rename_i x asked
    have locked : (graft s q).excState = s.excState := rfl
    have high : (graft s q).otb = s.otb := rfl
    have low : (graft s q).avLow = s.avLow := rfl
    have forms (sp : Split) : (graft s q).formSetting x sp = s.formSetting x sp := rfl
    rw [locked, high, low, splits, forms, graft_writeIris]
    split <;> exact graft_issueOrKeep _ q _

/-- EXC's part of a frame start leaves the frame records, the focus search, the capture and the gyro offset. -/
theorem excFrame_leaves :
    s.excFrame.fmn = s.fmn ∧ s.excFrame.fsu = s.fsu ∧ s.excFrame.csq = s.csq ∧
      s.excFrame.stu.offset = s.stu.offset := by
  have same := graft_excFrame s s rfl
  rw [graft_self] at same
  exact ⟨(congrArg (fun u : State => u.fmn) same).trans rfl, (congrArg (fun u : State => u.fsu) same).trans rfl,
    (congrArg (fun u : State => u.csq) same).trans rfl, (congrArg (fun u : State => u.stu.offset) same).trans rfl⟩

/-! ## A frame start with nothing beside (R54, R56) -/

/-- No record with a held offer is closed, and no scan runs: the new record opens and EXC takes the frame start. -/
theorem frameBegun_quiet {s : State} (quiet : ∀ r, s.fmn.ring.getLast? = some r → r.offerHeld = false) :
    s.frameBegun = s.openFrame.excFrame := by
  cases found : s.openRecord with
  | none => simp only [State.frameBegun, found, State.heldOffer]
  | some r => simp only [State.frameBegun, found, State.heldOffer, quiet r found, Bool.false_eq_true, if_false]

theorem frameStart_counts {s : State} (quiet : ∀ r, s.fmn.ring.getLast? = some r → r.offerHeld = false)
    (still : s.fsu.scan = none) : s.frameStart = s.openFrame.excFrame.countInterval := by
  have scan : s.openFrame.excFrame.fsu.scan = none := by
    rw [(excFrame_leaves s.openFrame).2.1]
    exact still
  have unheard (closed : Option Nat) : s.openFrame.excFrame.fsuFrame closed = (s.openFrame.excFrame, .none) := by
    simp only [State.fsuFrame, scan]
  rw [State.frameStart, frameBegun_quiet quiet, unheard]
  rfl

theorem frameStart_quiet {s : State} (quiet : ∀ r, s.fmn.ring.getLast? = some r → r.offerHeld = false)
    (still : s.fsu.scan = none) (outside : s.csq.state ≠ .interval) : s.frameStart = s.openFrame.excFrame := by
  rw [frameStart_counts quiet still, State.countInterval, if_neg]
  rw [(excFrame_leaves s.openFrame).2.2.1]
  exact outside

end Sys2Proof.Proofs.Grafts
end

section
/-! PROOFS. EXC at a frame start: the iris target written and the setting issued or kept (R15, R27, R84 to R88), and what
no block changes at a frame start (R54, R56). -/

namespace Sys2Proof.Proofs.FrameStarts
open Sys2Proof Sys2Proof.Machine Sys2Proof.Proofs.Grafts Sys2Proof.Proofs.Zooming

-- one declaration after another: each unfolds operations whose equations another would be waiting for
set_option Elab.async false

/-! ## The iris target written (R27, R84) -/

theorem splitEnd_av (floor tvHi av tv gv : Int) : (splitEnd floor tvHi (av, tv, gv)).av = av := by
  unfold splitEnd
  dsimp only
  split
  · rfl
  · split <;> rfl

/-- A split's aperture is at most 96 above the open one (R81, R82). -/
theorem split_av_le (s : State) (tvHi : Nat) (x : Int) : (s.split tvHi x).av ≤ s.avLow + 96 := by
  have high : s.avHigh ≤ s.avLow + 96 := min_le_left _ _
  unfold State.split
  dsimp only
  generalize (max _ _ : Int) = limit
  unfold splitSteps
  dsimp only
  split
  · rw [splitEnd_av]
    omega
  · split <;> (rw [splitEnd_av]; omega)

/-- Nothing waits for a slot, or none is free. -/
def NoGrant (s : State) : Prop := s.ldu.waitList = [] ∨ 2 ≤ s.slotHolders.length

theorem arbitrate_noGrant {s : State} (quiet : NoGrant s) : s.arbitrate = s := by
  obtain empty | full := quiet
  · exact State.arbitrate_nil s empty
  · exact State.arbitrate_full s (Nat.not_lt.mpr full)

/-- The state with the iris target pending. -/
def pended (s : State) (v : Nat) : State :=
  { s with ldu := { s.ldu with pendingIris := some { value := v, writer := .exc } } }

theorem writeIris_acts {s : State} {v : Nat} (small : v ≤ 96) :
    (s.writeIris v .exc).1 = (pended s v).actIris.1.arbitrate := by
  simp only [State.writeIris, min_eq_right small]
  rfl

theorem writeIris_owned {s : State} {v : Nat} (small : v ≤ 96) {o : Owner} (owned : s.ldu.iris.owner = some o)
    (quiet : NoGrant s) : (s.writeIris v .exc).1 = pended s v := by
  have acts : (pended s v).actIris = (pended s v, .underway) := by
    have due : (pended s v).ldu.pendingIris = some { value := v, writer := .exc } := rfl
    have owner : (pended s v).ldu.iris.owner = some o := owned
    simp only [State.actIris, due, owner]
  rw [writeIris_acts small, acts]
  exact arbitrate_noGrant quiet

/-- The unowned iris stands at the target: it is taken out. -/
theorem writeIris_arrived {s u : State} {v : Nat} (small : v ≤ 96) (free : s.ldu.iris.owner = none)
    (given : (pended s v).giveTarget .iris v = (u, .arrived)) :
    (s.writeIris v .exc).1 =
      State.arbitrate { u with ldu := { u.ldu with pendingIris := none, irisWriter := some .exc } } := by
  have due : (pended s v).ldu.pendingIris = some { value := v, writer := .exc } := rfl
  have owner : (pended s v).ldu.iris.owner = none := free
  rw [writeIris_acts small]
  simp only [State.actIris, due, owner, given]

/-- The unowned iris is on its way to the target. -/
theorem writeIris_underway {s u : State} {v : Nat} (small : v ≤ 96) (free : s.ldu.iris.owner = none)
    (given : (pended s v).giveTarget .iris v = (u, .underway)) :
    (s.writeIris v .exc).1 = State.arbitrate { u with ldu := { u.ldu with irisWriter := some .exc } } := by
  have due : (pended s v).ldu.pendingIris = some { value := v, writer := .exc } := rfl
  have owner : (pended s v).ldu.iris.owner = none := free
  rw [writeIris_acts small]
  simp only [State.actIris, due, owner, given]

/-- The lens drive with the iris on its way to EXC's target. -/
def irisUnder (s : State) (v : Nat) (r : AxisRec) (list : List Axis) : Ldu :=
  { s.ldu with
      iris := { r with target := some v }, waitList := list, pendingIris := some { value := v, writer := .exc },
      irisWriter := some .exc }

/-- The state with the iris on its way to EXC's target. -/
def withIris (s : State) (v : Nat) (r : AxisRec) (list : List Axis) : State := { s with ldu := irisUnder s v r list }

/-- The hypotheses of an iris that takes EXC's target. -/
structure IrisTakes (s : State) (v p : Nat) : Prop where
  small : v ≤ 96
  free : s.ldu.iris.owner = none
  pp : s.ldu.iris.pp = some p
  homing : s.ldu.iris.homing = .none

section
variable {s : State} {a : Axis} {v p : Nat} (pp : (s.axis a).pp = some p)
include pp

theorem giveTarget_moving (moving : (s.axis a).state = .moving) :
    s.giveTarget a v = (s.setAxis a { s.axis a with target := some v, after := .goOn }, .underway) := by
  simp [State.giveTarget, pp, moving]

theorem giveTarget_energizing (energizing : (s.axis a).state = .energizing) :
    s.giveTarget a v = (s.setAxis a { s.axis a with target := some v }, .underway) := by
  simp [State.giveTarget, pp, energizing]

theorem giveTarget_settling_here (settling : (s.axis a).state = .settling) (here : v = p) :
    s.giveTarget a v = (s.setAxis a { s.axis a with target := some v }, .underway) := by
  simp [State.giveTarget, pp, settling, here]

theorem giveTarget_awaiting (waits : (s.axis a).state = .awaitingSlot) (apart : v ≠ p) :
    s.giveTarget a v = (s.setAxis a { s.axis a with target := some v }, .underway) := by
  simp [State.giveTarget, pp, waits, apart]

theorem giveTarget_awaiting_here (waits : (s.axis a).state = .awaitingSlot) (here : v = p) :
    s.giveTarget a v = ((s.leaveWait a).setAxis a (AxisRec.hold { s.axis a with target := some v }), .arrived) := by
  simp [State.giveTarget, pp, waits, here]

theorem giveTarget_joins (rests : (s.axis a).state = .held ∨ (s.axis a).state = .settling) (apart : v ≠ p) :
    s.giveTarget a v = (s.joinWait a { s.axis a with target := some v }, .underway) := by
  obtain held | settling := rests
  · exact State.giveTarget_held s a v p pp apart held
  · simp [State.giveTarget, pp, settling, apart]

end

/-- An iris that steps as it did before takes no slot and gives none. -/
theorem slotHolders_iris {s : State} {l : Ldu} (zoom : l.zoom = s.ldu.zoom) (focus : l.focus = s.ldu.focus)
    (steps : l.iris.stepping = s.ldu.iris.stepping) : State.slotHolders { s with ldu := l } = s.slotHolders := by
  rw [State.slotHolders_eq, State.slotHolders_eq, zoom, focus, steps]

theorem slotHolders_withIris {s : State} {v : Nat} {r : AxisRec} {list : List Axis}
    (before : s.ldu.iris.stepping = false) (after : r.stepping = false) :
    (withIris s v r list).slotHolders = s.slotHolders :=
  slotHolders_iris (s := s) (l := irisUnder s v r list) rfl rfl (after.trans before.symm)

theorem not_stepping {r : AxisRec} (still : r.state ≠ .moving) (homed : r.state ≠ .homing) : r.stepping = false := by
  unfold AxisRec.stepping
  split
  · exact absurd (by assumption) still
  · exact absurd (by assumption) homed
  · rfl

section
variable {s : State} {v p : Nat}

theorem writeIris_here (h : IrisTakes s v p) (here : v = p)
    (rests : s.ldu.iris.state = .held ∨ s.ldu.iris.state = .released) (quiet : NoGrant s) :
    (s.writeIris v .exc).1 =
      { s with ldu := { s.ldu with
          iris := { s.ldu.iris with target := some v }, pendingIris := none, irisWriter := some .exc } } := by
  have pp : (pended s v).ldu.iris.pp = some v := by rw [here]; exact h.pp
  have given : (pended s v).giveTarget .iris v =
      ((pended s v).setAxis .iris { s.ldu.iris with target := some v }, .arrived) := by
    obtain held | released := rests
    · exact State.giveTarget_held_here (pended s v) .iris v pp held
    · exact State.giveTarget_released_here (pended s v) .iris v pp released
  rw [writeIris_arrived h.small h.free given]
  exact arbitrate_noGrant quiet

theorem writeIris_turns (h : IrisTakes s v p) (moving : s.ldu.iris.state = .moving) (quiet : NoGrant s) :
    (s.writeIris v .exc).1 =
      withIris s v { s.ldu.iris with after := .goOn } s.ldu.waitList := by
  rw [writeIris_underway h.small h.free (giveTarget_moving (s := pended s v) (a := .iris) h.pp moving)]
  exact arbitrate_noGrant quiet

/-- The target changes and nothing else, where the iris energizes, waits for its slot, or settles at it. -/
theorem writeIris_stays (h : IrisTakes s v p)
    (state : s.ldu.iris.state = .energizing ∨ (s.ldu.iris.state = .settling ∧ v = p) ∨
      (s.ldu.iris.state = .awaitingSlot ∧ v ≠ p)) (quiet : NoGrant s) :
    (s.writeIris v .exc).1 = withIris s v s.ldu.iris s.ldu.waitList := by
  have given : (pended s v).giveTarget .iris v =
      ((pended s v).setAxis .iris { s.ldu.iris with target := some v }, .underway) := by
    obtain energizing | ⟨settling, here⟩ | ⟨waits, apart⟩ := state
    · exact giveTarget_energizing (s := pended s v) (a := .iris) h.pp energizing
    · exact giveTarget_settling_here (s := pended s v) (a := .iris) h.pp settling here
    · exact giveTarget_awaiting (s := pended s v) (a := .iris) h.pp waits apart
  rw [writeIris_underway h.small h.free given]
  exact arbitrate_noGrant quiet

/-- An axis that homes no more is held with its homing as it is (R23). -/
theorem hold_unhomed {r : AxisRec} (homing : r.homing = .none) :
    r.hold = { r with state := .held, after := .goOn,
                      timer := if r.setup.hold = 0 then none else some r.setup.hold } := by
  obtain ⟨_, _, _, _, _, _, asked, _, _, _, _⟩ := r
  obtain rfl : asked = .none := homing
  rfl

theorem writeIris_leaves (h : IrisTakes s v p) (waits : s.ldu.iris.state = .awaitingSlot) (here : v = p)
    (full : 2 ≤ s.slotHolders.length) :
    (s.writeIris v .exc).1 =
      { s with ldu := { s.ldu with
          iris := { s.ldu.iris with target := some v, state := .held, after := .goOn,
                                    timer := if s.ldu.iris.setup.hold = 0 then none else some s.ldu.iris.setup.hold },
          waitList := s.ldu.waitList.filter fun a => a != .iris, pendingIris := none, irisWriter := some .exc } } := by
  have unhomed : AxisRec.hold { s.ldu.iris with target := some v } = _ := hold_unhomed h.homing
  rw [writeIris_arrived h.small h.free (giveTarget_awaiting_here (s := pended s v) (a := .iris) h.pp waits here)]
  let after : State :=
    { s with ldu := { s.ldu with
        iris := AxisRec.hold { s.ldu.iris with target := some v },
        waitList := s.ldu.waitList.filter fun a => a != .iris, pendingIris := none, irisWriter := some .exc } }
  have still : s.ldu.iris.stepping = false := not_stepping (by rw [waits]; decide) (by rw [waits]; decide)
  have slots : after.slotHolders = s.slotHolders := slotHolders_iris (s := s) (l := after.ldu) rfl rfl still.symm
  exact (State.arbitrate_full after (by rw [slots]; exact Nat.not_lt.mpr full)).trans (by simp only [after, unhomed])

theorem writeIris_energizes (h : IrisTakes s v p) (released : s.ldu.iris.state = .released) (apart : v ≠ p)
    (slow : s.ldu.iris.setup.energize ≠ 0) (quiet : NoGrant s) :
    (s.writeIris v .exc).1 =
      withIris s v { s.ldu.iris with state := .energizing, timer := some s.ldu.iris.setup.energize } s.ldu.waitList := by
  rw [writeIris_underway h.small h.free
    (State.giveTarget_released (pended s v) .iris v p h.pp apart released slow)]
  have still : s.ldu.iris.stepping = false := not_stepping (by rw [released]; decide) (by rw [released]; decide)
  refine arbitrate_noGrant
    (s := withIris s v { s.ldu.iris with state := .energizing, timer := some s.ldu.iris.setup.energize } s.ldu.waitList)
    ?_
  rw [NoGrant, slotHolders_withIris still rfl]
  exact quiet

theorem resting_still {r : AxisRec} (rests : r.state = .held ∨ r.state = .settling) : r.stepping = false := by
  obtain state | state := rests <;> exact not_stepping (by rw [state]; decide) (by rw [state]; decide)

theorem writeIris_joins (h : IrisTakes s v p) (rests : s.ldu.iris.state = .held ∨ s.ldu.iris.state = .settling)
    (apart : v ≠ p) (full : 2 ≤ s.slotHolders.length) :
    (s.writeIris v .exc).1 =
      withIris s v { s.ldu.iris with state := .awaitingSlot, timer := none } (s.ldu.waitList ++ [.iris]) := by
  rw [writeIris_underway h.small h.free (giveTarget_joins (s := pended s v) (a := .iris) h.pp rests apart)]
  refine State.arbitrate_full
    (withIris s v { s.ldu.iris with state := .awaitingSlot, timer := none } (s.ldu.waitList ++ [.iris])) ?_
  rw [slotHolders_withIris (resting_still rests) rfl]
  exact Nat.not_lt.mpr full

/-- An axis whose first step from `p` toward `v` begins. -/
def stepBegun (r : AxisRec) (p v : Nat) : AxisRec :=
  { r with state := .moving, timer := none, after := .goOn, stepUp := decide (p < v), stepTime := r.setup.interval }

/-- The iris that nothing commands is granted its first step toward EXC's target. -/
theorem granted_iris {u : State} {r : AxisRec} (stands : u.ldu.iris = r) (free : r.owner = none)
    (homing : r.homing = .none) (pp : r.pp = some p) (target : r.target = some v) (apart : v ≠ p) :
    u.granted .iris =
      u.setAxis .iris (stepBegun r p v) := by
  subst stands
  have underway : u.ldu.iris.arrived = false := by simp [AxisRec.arrived, pp, target, apart]
  have asks : ¬ u.ldu.iris.homing = .pending := by rw [homing]; decide
  simp only [State.granted, State.axis, if_neg asks, underway, free, State.beginStep, pp, target, Option.getD_some,
    stepBegun, Bool.false_eq_true, if_false]
  rfl

theorem writeIris_begins (h : IrisTakes s v p) (rests : s.ldu.iris.state = .held ∨ s.ldu.iris.state = .settling)
    (apart : v ≠ p) (slots : s.slotHolders.length < 2) (idle : s.ldu.waitList = []) :
    (s.writeIris v .exc).1 =
      withIris s v (stepBegun s.ldu.iris p v) [] := by
  let waits : State :=
    withIris s v { s.ldu.iris with state := .awaitingSlot, timer := none } []
  have grants := granted_iris (u := waits) (p := p) (v := v) rfl h.free h.homing h.pp rfl apart
  have joined := writeIris_underway h.small h.free
    (giveTarget_joins (s := pended s v) (a := .iris) h.pp rests apart)
  have one := State.arbitrate_one
    (withIris s v { s.ldu.iris with state := .awaitingSlot, timer := none } (s.ldu.waitList ++ [.iris])) .iris
    (by show s.ldu.waitList ++ [.iris] = [.iris]; rw [idle, List.nil_append])
    (by rw [slotHolders_withIris (resting_still rests) rfl]; exact slots)
    ((congrArg (fun u : State => u.ldu.waitList) grants).trans rfl)
  exact joined.trans (one.trans grants)

end

/-! ## The setting issued, sent again, or kept (R15, R86 to R88) -/

/-- The outbox with an EXPOSURE placed (R15). -/
def exposed (notice : Notice) (outbox : List Notice) : List Notice :=
  if outbox.any isExposure then outbox.map fun m => if isExposure m then notice else m else outbox ++ [notice]

/-- The state with EXC's registers and an EXPOSURE of a setting placed. -/
def sending (s : State) (e : ExpEntry) (exc : Exc) : State :=
  { s with
      exc := { exc with sent := s.exc.clamp },
      opt := { s.opt with outbox := exposed (s.exposureNotice e) s.opt.outbox } }

theorem sendExposure_eq (s : State) (e : ExpEntry) : s.sendExposure e = sending s e s.exc := by
  unfold State.sendExposure State.placeExposure sending exposed
  split <;> rfl

/-- The registers of EXC with a new setting in its ring. -/
def issuedExc (s : State) (e : ExpEntry) : Exc :=
  { s.exc with ring := (s.exc.ring ++ [e]).drop (s.exc.ring.length + 1 - 8),
               nextSerial := if 65535 ≤ s.exc.nextSerial then 1 else s.exc.nextSerial + 1 }

theorem issue_eq (s : State) (e : ExpEntry) : s.issue e = sending s e (issuedExc s e) := by
  have long : (s.exc.ring ++ [e]).length = s.exc.ring.length + 1 := List.length_append
  have issues := sendExposure_eq { s with exc := issuedExc s e } e
  rw [State.issue, long]
  exact issues

theorem sameSetting_false {a b : ExpEntry} : sameSetting a b = false ↔ ¬ (a.av = b.av ∧ a.tv = b.tv ∧ a.gv = b.gv) := by
  rw [← Bool.not_eq_true]
  simp [sameSetting, and_assoc]

/-- What EXC makes of a setting it has formed. -/
structure Leads (s : State) (e : ExpEntry) (t : State) : Prop where
  first : s.exc.ring = [] → t = sending s e (issuedExc s e)
  other : ∀ newest, s.exc.ring.getLast? = some newest →
    ¬ (newest.av = e.av ∧ newest.tv = e.tv ∧ newest.gv = e.gv) → t = sending s e (issuedExc s e)
  clamped : ∀ newest, s.exc.ring.getLast? = some newest →
    (newest.av = e.av ∧ newest.tv = e.tv ∧ newest.gv = e.gv) → s.exc.clamp ≠ s.exc.sent →
      t = sending s newest s.exc
  equal : ∀ newest, s.exc.ring.getLast? = some newest →
    (newest.av = e.av ∧ newest.tv = e.tv ∧ newest.gv = e.gv) → s.exc.clamp = s.exc.sent → t = s

theorem issueOrKeep_leads (s : State) (e : ExpEntry) : Leads s e (s.issueOrKeep e) where
  first empty := by
    rw [← issue_eq]
    simp only [State.issueOrKeep, empty, List.getLast?_nil]
  other newest last new := by
    rw [← issue_eq]
    simp only [State.issueOrKeep, last, if_pos (sameSetting_false.mpr new)]
  clamped newest last same changed := by
    rw [← sendExposure_eq]
    simp only [State.issueOrKeep, last, if_neg (mt sameSetting_false.mp (not_not.mpr same)), if_pos changed]
  equal newest last same kept := by
    simp only [State.issueOrKeep, last, if_neg (mt sameSetting_false.mp (not_not.mpr same)), if_neg (not_not.mpr kept)]

/-! ## EXC's part of a frame start, by its state (R84, R85) -/

theorem excFrame_still {s : State} (rests : s.excState = .suspended ∨ s.excState = .waitLens) : s.excFrame = s := by
  have asks : s.issueX = none := by
    obtain state | state := rests <;> simp only [State.issueX, state]
  simp only [State.excFrame, asks]

theorem excFrame_locked {s : State} {x : Int} (locked : s.excState = .locked) (held : s.exc.lock = .held x) :
    s.excFrame = s.issueOrKeep (s.formSetting x (s.split s.otb.glob.tvMaxElectronic x)) := by
  have asks : s.issueX = some x := by simp only [State.issueX, State.xLocked, locked, held]
  simp only [State.excFrame, asks, locked, if_true]

theorem excFrame_writes {s : State} {x : Int}
    (state : (s.excState = .running ∧ s.exc.x = some x) ∨
      (s.excState = .noResult ∧ x = bringInt s.lowerBound s.upperBound (s.avLow + 192))) :
    s.excFrame =
      State.issueOrKeep (s.writeIris ((s.split s.otb.glob.tvMaxElectronic x).av - s.avLow).toNat .exc).1
        (s.formSetting x (s.split s.otb.glob.tvMaxElectronic x)) := by
  obtain ⟨running, current⟩ | ⟨noResult, start⟩ := state
  · have asks : s.issueX = some x := by simp only [State.issueX, running, current]
    simp only [State.excFrame, asks, running, reduceCtorEq, if_false]
  · have asks : s.issueX = some x := by simp only [State.issueX, noResult, start]
    simp only [State.excFrame, asks, noResult, reduceCtorEq, if_false]

/-- A frame start with nothing beside, in the three states of EXC that form a setting. -/
theorem frameStart_issues (s : State) (alone : s.frameStart = s.openFrame.excFrame) :
    let w := s.openFrame
    (s.excState = .suspended ∨ s.excState = .waitLens → exec .frameStart s = .next w) ∧
    ∀ x : Int,
      let sp := w.split s.otb.glob.tvMaxElectronic x
      let e := w.formSetting x sp
      let leads (ldu : Ldu) : Prop := ∃ t, exec .frameStart s = .next t ∧ Leads { w with ldu := ldu } e t
      (s.excState = .locked → s.exc.lock = .held x → leads s.ldu) ∧
      ((s.excState = .running ∧ s.exc.x = some x) ∨
          (s.excState = .noResult ∧ x = bringInt s.lowerBound s.upperBound (s.avLow + 192)) →
        ∀ ldu, (w.writeIris (sp.av - s.avLow).toNat .exc).1 = { w with ldu := ldu } → leads ldu) := by
  have starts : exec .frameStart s = .next s.openFrame.excFrame := congrArg Host.Outcome.next alone
  refine ⟨fun rests => starts.trans (congrArg _ (excFrame_still (s := s.openFrame) rests)), fun x =>
    ⟨fun locked held => ?_, fun state ldu written => ?_⟩⟩
  · exact ⟨_, starts.trans (congrArg _ (excFrame_locked (s := s.openFrame) locked held)), issueOrKeep_leads _ _⟩
  · have writes := excFrame_writes (s := s.openFrame) state
    exact ⟨_, starts.trans (congrArg _ (writes.trans (congrArg (fun t : State => t.issueOrKeep _) written))),
      issueOrKeep_leads _ _⟩

/-- What a command leads to where EXC forms a setting. -/
theorem leads_unpacked {i : Instr} {s w : State} {e : ExpEntry} (led : ∃ t, exec i s = .next t ∧ Leads w e t) :
    (w.exc.ring = [] → exec i s = .next (sending w e (issuedExc w e))) ∧
    ∀ newest, w.exc.ring.getLast? = some newest →
      (¬ (newest.av = e.av ∧ newest.tv = e.tv ∧ newest.gv = e.gv) →
        exec i s = .next (sending w e (issuedExc w e))) ∧
      ((newest.av = e.av ∧ newest.tv = e.tv ∧ newest.gv = e.gv) → w.exc.clamp ≠ w.exc.sent →
        exec i s = .next (sending w newest w.exc)) ∧
      ((newest.av = e.av ∧ newest.tv = e.tv ∧ newest.gv = e.gv) → w.exc.clamp = w.exc.sent →
        exec i s = .next w) := by
  obtain ⟨t, starts, ⟨first, other, clamped, equal⟩⟩ := led
  exact ⟨fun empty => starts.trans (congrArg _ (first empty)), fun newest last =>
    ⟨fun new => starts.trans (congrArg _ (other newest last new)),
     fun same changed => starts.trans (congrArg _ (clamped newest last same changed)),
     fun same kept => starts.trans (congrArg _ (equal newest last same kept))⟩⟩

end Sys2Proof.Proofs.FrameStarts
end

section
/-! PROOFS. The frame ring and the gyro offset belong to the frame start and to nothing that hears it (R54, R56): what
the lens drive, EXC, FSU and CSQ do at a frame start, or with a record offered to them, keeps both. -/

namespace Sys2Proof.Proofs.FrameRecords
open Sys2Proof Sys2Proof.Machine Sys2Proof.Proofs.Grafts Sys2Proof.Proofs.FrameStarts

-- one declaration after another: each unfolds operations whose equations another would be waiting for
set_option Elab.async false

@[simp] theorem foldl_fmn (f : State → Axis → State) (h : ∀ t a, (f t a).fmn = t.fmn) (l : List Axis) (s : State) :
    (l.foldl f s).fmn = s.fmn := by
  induction l generalizing s with
  | nil => rfl
  | cons a l ih => rw [List.foldl_cons, ih, h]

@[simp] theorem foldl_offset (f : State → Axis → State) (h : ∀ t a, (f t a).stu.offset = t.stu.offset) (l : List Axis)
    (s : State) : (l.foldl f s).stu.offset = s.stu.offset := by
  induction l generalizing s with
  | nil => rfl
  | cons a l ih => rw [List.foldl_cons, ih, h]

@[simp] theorem beginUnit_records (s : State) (tag : Nat) :
    (s.beginUnit tag).fmn = s.fmn ∧ (s.beginUnit tag).stu.offset = s.stu.offset := by
  and_intros <;> rfl

@[simp] theorem countUnit_records (s : State) (tag : Nat) :
    (s.countUnit tag).fmn = s.fmn ∧ (s.countUnit tag).stu.offset = s.stu.offset := by
  and_intros <;> rfl

@[simp] theorem removeEntry_records (s : State) (tag : Nat) :
    (s.removeEntry tag).fmn = s.fmn ∧ (s.removeEntry tag).stu.offset = s.stu.offset := by
  and_intros <;> rfl

@[simp] theorem ending_records (s : State) (tag : Nat) (c : EndClass) (u : Cause) (r : Resume) (n : Option Nat) (f : EndFields) :
    (s.ending tag c u r n f).fmn = s.fmn ∧ (s.ending tag c u r n f).stu.offset = s.stu.offset := by
  unfold State.ending; split <;> simp

@[simp] theorem onSteady_records (s : State) (f : SteadyAxis → SteadyAxis) :
    (s.onSteady f).fmn = s.fmn ∧ (s.onSteady f).stu.offset = s.stu.offset := by
  and_intros <;> rfl

@[simp] theorem centreStu_records (s : State) :
    s.centreStu.fmn = s.fmn ∧ s.centreStu.stu.offset = s.stu.offset := by
  unfold State.centreStu; split <;> simp [State.onSteady]

@[simp] theorem geometryLost_records (s : State) :
    s.geometryLost.fmn = s.fmn ∧ s.geometryLost.stu.offset = s.stu.offset := by
  simp [State.geometryLost, State.excLost]

@[simp] theorem referenceLost_records (s : State) (a : Axis) :
    (s.referenceLost a).fmn = s.fmn ∧ (s.referenceLost a).stu.offset = s.stu.offset := by
  cases a <;> simp [State.referenceLost, State.excLost]

@[simp] theorem joinWait_records (s : State) (a : Axis) (r : AxisRec) :
    (s.joinWait a r).fmn = s.fmn ∧ (s.joinWait a r).stu.offset = s.stu.offset := by
  simp [State.joinWait]

@[simp] theorem leaveWait_records (s : State) (a : Axis) :
    (s.leaveWait a).fmn = s.fmn ∧ (s.leaveWait a).stu.offset = s.stu.offset := by
  and_intros <;> rfl

@[simp] theorem energizeAxis_records (s : State) (a : Axis) (r : AxisRec) :
    (s.energizeAxis a r).fmn = s.fmn ∧ (s.energizeAxis a r).stu.offset = s.stu.offset := by
  unfold State.energizeAxis; split <;> simp

@[simp] theorem giveTarget_records (s : State) (a : Axis) (v : Nat) :
    (s.giveTarget a v).1.fmn = s.fmn ∧ (s.giveTarget a v).1.stu.offset = s.stu.offset := by
  unfold State.giveTarget; dsimp only; (repeat' split) <;> simp

@[simp] theorem beginStep_records (s : State) (a : Axis) :
    (s.beginStep a).fmn = s.fmn ∧ (s.beginStep a).stu.offset = s.stu.offset := by
  simp [State.beginStep]

@[simp] theorem beginHoming_records (s : State) (a : Axis) :
    (s.beginHoming a).fmn = s.fmn ∧ (s.beginHoming a).stu.offset = s.stu.offset := by
  unfold State.beginHoming; dsimp only; (repeat' split) <;> simp

@[simp] theorem followPoint_records (s : State) :
    s.followPoint.fmn = s.fmn ∧ s.followPoint.stu.offset = s.stu.offset := by
  simp [State.followPoint]

@[simp] theorem granted_records (s : State) (a : Axis) :
    (s.granted a).fmn = s.fmn ∧ (s.granted a).stu.offset = s.stu.offset := by
  unfold State.granted; dsimp only; (repeat' split) <;> simp

@[simp] theorem grantOne_records (s : State) :
    s.grantOne.fmn = s.fmn ∧ s.grantOne.stu.offset = s.stu.offset := by
  unfold State.grantOne; (repeat' split) <;> simp

@[simp] theorem arbitrate_records (s : State) :
    s.arbitrate.fmn = s.fmn ∧ s.arbitrate.stu.offset = s.stu.offset := by
  simp [State.arbitrate]

@[simp] theorem actIris_records (s : State) :
    s.actIris.1.fmn = s.fmn ∧ s.actIris.1.stu.offset = s.stu.offset := by
  and_intros <;> (unfold State.actIris; repeat' split) <;>
    first | (simp; done) | simp_all [pair_eq]

@[simp] theorem claim_records (s : State) (l : List Axis) (o : Owner) :
    (s.claim l o).fmn = s.fmn ∧ (s.claim l o).stu.offset = s.stu.offset := by
  simp [State.claim]

@[simp] theorem release_records (s : State) (l : List Axis) :
    (s.release l).fmn = s.fmn ∧ (s.release l).stu.offset = s.stu.offset := by
  unfold State.release; split <;> simp

@[simp] theorem setX_records (s : State) (x : Int) :
    (s.setX x).fmn = s.fmn ∧ (s.setX x).stu.offset = s.stu.offset := by
  unfold State.setX; (repeat' split) <;> simp

@[simp] theorem converge_records (s : State) (x : Int) :
    (s.converge x).1.fmn = s.fmn ∧ (s.converge x).1.stu.offset = s.stu.offset := by
  unfold State.converge; dsimp only; (repeat' split) <;> simp

@[simp] theorem excOffer_records (s : State) (r : FrameRec) :
    (s.excOffer r).1.fmn = s.fmn ∧ (s.excOffer r).1.stu.offset = s.stu.offset := by
  unfold State.excOffer; (repeat' split) <;> simp

@[simp] theorem giveUpLock_records (s : State) :
    s.giveUpLock.fmn = s.fmn ∧ s.giveUpLock.stu.offset = s.stu.offset := by
  and_intros <;> rfl

@[simp] theorem deriveStu_records (s : State) :
    s.deriveStu.fmn = s.fmn ∧ s.deriveStu.stu.offset = s.stu.offset := by
  unfold State.deriveStu; (repeat' split) <;> simp

@[simp] theorem setWindow_records (s : State) (b : Bool) :
    (s.setWindow b).fmn = s.fmn ∧ (s.setWindow b).stu.offset = s.stu.offset := by
  simp [State.setWindow]

@[simp] theorem setScan_records (s : State) (c : Option Scan) :
    (s.setScan c).fmn = s.fmn ∧ (s.setScan c).stu.offset = s.stu.offset := by
  and_intros <;> rfl

@[simp] theorem beginScanUnit_records (s : State) (c : Scan) :
    (s.beginScanUnit c).fmn = s.fmn ∧ (s.beginScanUnit c).stu.offset = s.stu.offset := by
  unfold State.beginScanUnit; split <;> simp

@[simp] theorem countScanUnit_records (s : State) (c : Scan) :
    (s.countScanUnit c).fmn = s.fmn ∧ (s.countScanUnit c).stu.offset = s.stu.offset := by
  unfold State.countScanUnit; split <;> simp

@[simp] theorem finishScan_records (s : State) (c : Scan) (k : EndClass) (u : Cause) (r : Option ScanResult) (w n : Option Nat) :
    (s.finishScan c k u r w n).1.fmn = s.fmn ∧ (s.finishScan c k u r w n).1.stu.offset = s.stu.offset := by
  and_intros <;> rfl

@[simp] theorem recomputeD_records (s : State) :
    s.recomputeD.fmn = s.fmn ∧ s.recomputeD.stu.offset = s.stu.offset := by
  and_intros <;> rfl

@[simp] theorem scanLost_records (s : State) (c : Scan) :
    (s.scanLost c).1.fmn = s.fmn ∧ (s.scanLost c).1.stu.offset = s.stu.offset := by
  unfold State.scanLost; split <;> simp

@[simp] theorem enterFrameWait_records (s : State) (c : Scan) :
    (s.enterFrameWait c).fmn = s.fmn ∧ (s.enterFrameWait c).stu.offset = s.stu.offset := by
  and_intros <;> rfl

@[simp] theorem finalArrival_records (s : State) (c : Scan) :
    (s.finalArrival c).1.fmn = s.fmn ∧ (s.finalArrival c).1.stu.offset = s.stu.offset := by
  unfold State.finalArrival; dsimp only; (repeat' split) <;> simp

@[simp] theorem travelFinal_records (s : State) (c : Scan) (p : Nat) (g : ScanGoal) :
    (s.travelFinal c p g).1.fmn = s.fmn ∧ (s.travelFinal c p g).1.stu.offset = s.stu.offset := by
  and_intros <;> (unfold State.travelFinal; repeat' split) <;>
    first | (simp; done) | simp_all [pair_eq]

@[simp] theorem travelUnit_records (s : State) (c : Scan) (i : Nat) :
    (s.travelUnit c i).1.fmn = s.fmn ∧ (s.travelUnit c i).1.stu.offset = s.stu.offset := by
  and_intros <;> (unfold State.travelUnit; dsimp only; repeat' split) <;>
    first | (simp; done) | simp_all [pair_eq]

@[simp] theorem startScan_records (s : State) (u : ScanUser) (p : ScanPlan) :
    (s.startScan u p).1.fmn = s.fmn ∧ (s.startScan u p).1.stu.offset = s.stu.offset := by
  simp [State.startScan]

@[simp] theorem infinityStep_records (s : State) :
    s.infinityStep.1.fmn = s.fmn ∧ s.infinityStep.1.stu.offset = s.stu.offset := by
  unfold State.infinityStep; split <;> simp

@[simp] theorem positionsOut_records (s : State) (c : Scan) :
    (s.positionsOut c).1.fmn = s.fmn ∧ (s.positionsOut c).1.stu.offset = s.stu.offset := by
  unfold State.positionsOut; dsimp only; (repeat' split) <;> simp

@[simp] theorem compareRecord_records (s : State) (c : Scan) (r : FrameRec) :
    (s.compareRecord c r).1.fmn = s.fmn ∧ (s.compareRecord c r).1.stu.offset = s.stu.offset := by
  unfold State.compareRecord; dsimp only; (repeat' split) <;> simp

@[simp] theorem waitFails_records (s : State) (c : Scan) (u : Cause) :
    (s.waitFails c u).1.fmn = s.fmn ∧ (s.waitFails c u).1.stu.offset = s.stu.offset := by
  unfold State.waitFails; (repeat' split) <;> simp

@[simp] theorem fsuOffer_records (s : State) (r : FrameRec) :
    (s.fsuOffer r).1.fmn = s.fmn ∧ (s.fsuOffer r).1.stu.offset = s.stu.offset := by
  unfold State.fsuOffer; (repeat' split) <;> simp

@[simp] theorem fsuFrame_records (s : State) (n : Option Nat) :
    (s.fsuFrame n).1.fmn = s.fmn ∧ (s.fsuFrame n).1.stu.offset = s.stu.offset := by
  unfold State.fsuFrame; dsimp only; (repeat' split) <;> simp

@[simp] theorem setRequest_records (s : State) (b : Bool) :
    (s.setRequest b).fmn = s.fmn ∧ (s.setRequest b).stu.offset = s.stu.offset := by
  and_intros <;> rfl

@[simp] theorem setCsq_records (s : State) (c : CsqState) :
    (s.setCsq c).fmn = s.fmn ∧ (s.setCsq c).stu.offset = s.stu.offset := by
  and_intros <;> rfl

@[simp] theorem onCapture_records (s : State) (f : Capture → Capture) :
    (s.onCapture f).fmn = s.fmn ∧ (s.onCapture f).stu.offset = s.stu.offset := by
  and_intros <;> rfl

@[simp] theorem csqIdle_records (s : State) :
    s.csqIdle.fmn = s.fmn ∧ s.csqIdle.stu.offset = s.stu.offset := by
  simp [State.csqIdle]

@[simp] theorem endShoot_records (s : State) (c : Capture) (k : EndClass) (u : Cause) :
    (s.endShoot c k u).fmn = s.fmn ∧ (s.endShoot c k u).stu.offset = s.stu.offset := by
  simp [State.endShoot]

@[simp] theorem endPrepare_records (s : State) (c : Capture) (k : EndClass) (u : Cause) (r : Option ScanResult) (f : ScanFields) (n : Option Nat) :
    (s.endPrepare c k u r f n).fmn = s.fmn ∧ (s.endPrepare c k u r f n).stu.offset = s.stu.offset := by
  unfold State.endPrepare; split <;> simp

@[simp] theorem checkFinish_records (s : State) :
    s.checkFinish.fmn = s.fmn ∧ s.checkFinish.stu.offset = s.stu.offset := by
  unfold State.checkFinish; (repeat' split) <;> simp

@[simp] theorem enterFinishing_records (s : State) :
    s.enterFinishing.fmn = s.fmn ∧ s.enterFinishing.stu.offset = s.stu.offset := by
  simp [State.enterFinishing]

@[simp] theorem recordFailure_records (s : State) (k : EndClass) (u : Cause) :
    (s.recordFailure k u).fmn = s.fmn ∧ (s.recordFailure k u).stu.offset = s.stu.offset := by
  and_intros <;> rfl

@[simp] theorem beginPicture_records (s : State) (p : Nat) :
    (s.beginPicture p).fmn = s.fmn ∧ (s.beginPicture p).stu.offset = s.stu.offset := by
  and_intros <;> rfl

@[simp] theorem checkInterval_records (s : State) :
    s.checkInterval.fmn = s.fmn ∧ s.checkInterval.stu.offset = s.stu.offset := by
  unfold State.checkInterval; (repeat' split) <;> simp

@[simp] theorem refineReported_records (s : State) (r : RefineReport) :
    (s.refineReported r).fmn = s.fmn ∧ (s.refineReported r).stu.offset = s.stu.offset := by
  unfold State.refineReported; dsimp only; (repeat' split) <;> simp

@[simp] theorem preparationEnded_records (s : State) (e : ScanEnd) :
    (s.preparationEnded e).fmn = s.fmn ∧ (s.preparationEnded e).stu.offset = s.stu.offset := by
  unfold State.preparationEnded; dsimp only; (repeat' split) <;> simp

@[simp] theorem askScan_records (s : State) (u : ScanUser) (p : ScanPlan) :
    (s.askScan u p).fmn = s.fmn ∧ (s.askScan u p).stu.offset = s.stu.offset := by
  and_intros <;> (unfold State.askScan; repeat' split) <;>
    first | (simp; done) | simp_all [pair_eq]

@[simp] theorem goOnPreparing_records (s : State) :
    s.goOnPreparing.fmn = s.fmn ∧ s.goOnPreparing.stu.offset = s.stu.offset := by
  unfold State.goOnPreparing; (repeat' split) <;> simp

@[simp] theorem lensFreed_records (s : State) (tag : Nat) :
    (s.lensFreed tag).fmn = s.fmn ∧ (s.lensFreed tag).stu.offset = s.stu.offset := by
  unfold State.lensFreed; dsimp only; (repeat' split) <;> simp

@[simp] theorem deliver_records (p : State × FsuReport) :
    (State.deliver p).fmn = p.1.fmn ∧ (State.deliver p).stu.offset = p.1.stu.offset := by
  unfold State.deliver; (repeat' split) <;> simp

@[simp] theorem offer_records (s : State) (r : FrameRec) :
    (s.offer r).fmn = s.fmn ∧ (s.offer r).stu.offset = s.stu.offset := by
  unfold State.offer; dsimp only; (repeat' split) <;> simp

@[simp] theorem countInterval_records (s : State) :
    s.countInterval.fmn = s.fmn ∧ s.countInterval.stu.offset = s.stu.offset := by
  unfold State.countInterval; split <;> simp

/-! ## The ring at a frame start (R54) -/

/-- The ring stands as a frame start leaves it. -/
def Advanced (s t : State) : Prop :=
  t.fmn.counter = (s.fmn.counter + 1) % 65536 ∧ t.fmn.ring.length = min 8 (s.fmn.ring.length + 1) ∧
    (t.fmn.ring.getLast?).map (·.number) = some ((s.fmn.counter + 1) % 65536)

theorem openFrame_advanced (s : State) : Advanced s s.openFrame := by
  refine ⟨rfl, ?_, ?_⟩
  · simp only [State.openFrame, List.length_drop, List.length_append, List.length_singleton]
    omega
  · have kept : (s.fmn.ring ++ [s.newRecord ((s.fmn.counter + 1) % 65536)]).length - 8 ≤ s.fmn.ring.length := by
      rw [List.length_append, List.length_singleton]
      omega
    simp only [State.openFrame, List.drop_append_of_le_length kept, List.getLast?_append, List.getLast?_singleton,
      Option.some_or, Option.map_some]
    rfl

theorem Advanced.clearOffer {s t : State} (advanced : Advanced s t) (n : Nat) : Advanced s (t.clearOffer n) := by
  obtain ⟨counter, long, last⟩ := advanced
  refine ⟨counter, (List.length_map _).trans long, ?_⟩
  rw [State.clearOffer, List.getLast?_map, ← last]
  cases t.fmn.ring.getLast? with
  | none => rfl
  | some r =>
    dsimp only [Option.map_some]
    split <;> rfl

theorem Advanced.heldOffer {s t : State} (advanced : Advanced s t) (o : Option FrameRec) :
    Advanced s (t.heldOffer o) := by
  cases o with
  | none => exact advanced
  | some r =>
    rw [State.heldOffer]
    split
    · refine Advanced.clearOffer ?_ r.number
      rw [Advanced, (offer_records t r).1]
      exact advanced
    · exact advanced

theorem frameStart_advanced (s : State) : Advanced s s.frameStart := by
  have begun : Advanced s s.frameBegun := by
    refine Advanced.heldOffer ?_ s.openRecord
    rw [Advanced, (excFrame_leaves s.openFrame).1]
    exact openFrame_advanced s
  simpa [State.frameStart, Advanced] using begun

theorem frameStart_offset (s : State) : s.frameStart.stu.offset = s.stu.offset := by
  have held (t : State) (o : Option FrameRec) : (t.heldOffer o).stu.offset = t.stu.offset := by
    cases o with
    | none => rfl
    | some r =>
      rw [State.heldOffer]
      split
      · exact (offer_records t r).2
      · rfl
  have begun : s.frameBegun.stu.offset = s.stu.offset := by
    rw [State.frameBegun, held, (excFrame_leaves s.openFrame).2.2.2]
    rfl
  simpa [State.frameStart] using begun

/-- Settles O27: EXC's part by its state and by where the iris stands; the ring's part through what every listener of a
frame start keeps. -/
theorem frameStartAdvances : Obligations.FrameStartAdvances := by
  unfold Obligations.FrameStartAdvances
  refine ⟨fun s => ?_, fun s quiet still outside => ?_⟩
  · obtain ⟨counter, long, last⟩ := frameStart_advanced s
    obtain ⟨-, lif, otb, pcs, csu⟩ := State.frameStart_frame s
    exact ⟨s.frameStart, rfl, counter, long, last, lif, otb, State.frameStart_memory s, congrArg Csu.pool csu,
      congrArg Pcs.programs pcs, frameStart_offset s⟩
  · obtain ⟨rests, forms⟩ := frameStart_issues s (frameStart_quiet quiet still outside)
    refine ⟨rests, fun x => ?_⟩
    obtain ⟨locked, writes⟩ := forms x
    refine ⟨fun state held => leads_unpacked (locked state held), fun state => ?_⟩
    have small : ((s.openFrame.split s.otb.glob.tvMaxElectronic x).av - s.avLow).toNat ≤ 96 := by
      have bounded : (s.openFrame.split s.otb.glob.tvMaxElectronic x).av ≤ s.avLow + 96 :=
        split_av_le s.openFrame s.otb.glob.tvMaxElectronic x
      omega
    refine ⟨fun o owned quiet => leads_unpacked (writes state _ (writeIris_owned (s := s.openFrame) small owned quiet)),
      fun p unowned pp homing => ?_⟩
    have takes : IrisTakes s.openFrame _ p := ⟨small, unowned, pp, homing⟩
    exact ⟨fun here rests quiet => leads_unpacked (writes state _ (writeIris_here takes here rests quiet)),
      fun moving quiet => leads_unpacked (writes state _ (writeIris_turns takes moving quiet)),
      fun still quiet => leads_unpacked (writes state _ (writeIris_stays takes (still.imp_right Or.inl) quiet)),
      fun waits full =>
        ⟨fun apart => leads_unpacked
          (writes state _ (writeIris_stays takes (.inr (.inr ⟨waits, apart⟩)) (.inr full))),
         fun here => leads_unpacked (writes state _ (writeIris_leaves takes waits here full))⟩,
      fun released apart slow quiet =>
        leads_unpacked (writes state _ (writeIris_energizes takes released apart slow quiet)),
      fun rests apart =>
        ⟨fun full => leads_unpacked (writes state _ (writeIris_joins takes rests apart full)),
         fun slots idle => leads_unpacked (writes state _ (writeIris_begins takes rests apart slots idle))⟩⟩

end Sys2Proof.Proofs.FrameRecords
end

section
/-! PROOFS. The intake limit of a capture's head picture, and the frame starts an interval counts (R152 to R154). -/

namespace Sys2Proof.Proofs.Intervals
open Sys2Proof Sys2Proof.Machine Sys2Proof.Proofs.CardFacts Sys2Proof.Proofs.CaptureFacts
open Sys2Proof.Proofs.Exposures Sys2Proof.Proofs.Grafts Sys2Proof.Proofs.FrameRecords

-- one declaration after another: each unfolds operations whose equations another would be waiting for
set_option Elab.async false

/-! ## The intake limit (R152, R166) -/

/-- The engine after the head picture is dropped at its limit. -/
def limitEngine (s : State) (r : PicRecord) : Engine :=
  if r.state = .filling then drainFor (r.length.getD 0 - r.received) else s.pbf.engine

theorem dropAtLimit_eq {s : State} {id : Nat} {r : PicRecord} (found : s.record id = some r) :
    s.dropAtLimit id =
      { s with
          pbf := { s.pbf with freePages := s.pbf.freePages ++ (r.pages ++ r.reserved),
                              records := s.pbf.records.erase r, engine := limitEngine s r },
          csu := { s.csu with queue := s.csu.queue.filter fun p => p != id } } := by
  simp only [State.dropAtLimit, found, freeRecord_found found, limitEngine]
  split <;> rfl

theorem limit_drops {s : State} {id : Nat} {rest : List Nat} {c : Capture} {r : PicRecord}
    (pending : s.csq.pendingIntake = id :: rest) (capture : s.csq.capture = some c) (state : s.csq.state = .exposing)
    (found : s.record id = some r) :
    exec .intakeLimitExpiry s =
      .next
        { s with
            pbf := { s.pbf with freePages := s.pbf.freePages ++ (r.pages ++ r.reserved),
                                records := s.pbf.records.erase r, engine := limitEngine s r },
            csu := { s.csu with queue := s.csu.queue.filter fun p => p != id },
            csq := { s.csq with
              pendingIntake := rest,
              capture := some
                { c with pictures := outcomeSet c id .dropped,
                         failure := failureKept c (.terminated, .intakeTimeout) } } } := by
  have expires : exec .intakeLimitExpiry s =
      .next ((s.dropAtLimit id).leaveIntake id .dropped (some .intakeTimeout)) := by
    show Host.Outcome.next _ = _
    rw [pending]
  rw [expires, dropAtLimit_eq found]
  refine congrArg Host.Outcome.next (leaveIntake_fails ?_ ?_ ?_ _ _)
  · exact pending
  · exact capture
  · exact state

/-! ## An interval's frame starts (R153) -/

theorem intervalOver_iff {c : Capture} {p : Program} (program : c.program = some p) :
    c.intervalOver = true ↔ p.interval ≤ c.frames ∧ (p.refine = true → c.refine = .reported) := by
  have wanted : (!p.refine || c.refine == .reported) = true ↔ (p.refine = true → c.refine = .reported) := by
    cases p.refine <;> simp
  simp only [Capture.intervalOver, program, Bool.and_eq_true, decide_eq_true_eq, wanted]

/-- EXC's part of a frame start does not read CSQ's registers. -/
theorem excFrame_csq (s : State) (q : Csq) :
    s.openFrame.excFrame = { State.excFrame { s.openFrame with csq := q } with csq := s.csq } := by
  have own := graft_excFrame s.openFrame s.openFrame rfl
  have other := graft_excFrame s.openFrame { s.openFrame with csq := q } rfl
  rw [graft_self] at own
  have there : graft s.openFrame { s.openFrame with csq := q } = { s.openFrame with csq := q } := rfl
  rw [← there, other, own]
  rfl

section
variable {s t : State} {c : Capture} {p : Program} (capture : t.csq.capture = some c) (program : c.program = some p)
  (state : t.csq.state = .interval)
include capture program state

/-- A frame counted in an interval that goes on. -/
theorem countInterval_goesOn (short : ¬ (p.interval ≤ c.frames + 1 ∧ (p.refine = true → c.refine = .reported))) :
    t.countInterval = { t with csq := { t.csq with capture := some { c with frames := c.frames + 1 } } } := by
  rw [State.countInterval, if_pos state, onCapture_eq capture]
  refine checkInterval_goesOn (c := { c with frames := c.frames + 1 }) rfl ?_
  rw [← Bool.not_eq_true]
  exact mt (intervalOver_iff (c := { c with frames := c.frames + 1 }) program).mp short

/-- The last frame of an interval (R153). -/
theorem countInterval_ends {b : Pbf} (buffer : t.pbf = b)
    (full : p.interval ≤ c.frames + 1 ∧ (p.refine = true → c.refine = .reported)) :
    t.countInterval =
      { t with
          csq := { t.csq with
            state := .waitBuffer,
            capture := some { c with pos := c.pos + 1, hand := none, frames := 0, refine := .none } },
          pbf := { b with request := true } } := by
  rw [← buffer, State.countInterval, if_pos state, onCapture_eq capture]
  have ends := checkInterval_ends
    (s := { t with csq := { t.csq with capture := some { c with frames := c.frames + 1 } } })
    (c := { c with frames := c.frames + 1 }) rfl state ((intervalOver_iff (c := { c with frames := c.frames + 1 }) program).mpr full)
  exact ends.trans (beginPicture_eq
    (s := { t with csq := { t.csq with capture := some { c with frames := c.frames + 1 } } })
    (c := { c with frames := c.frames + 1 }) rfl _)

end

/-- INTERVAL_END is the frame start that ends the interval (log 4). -/
theorem exec_intervalEnd (s : State) :
    exec .intervalEnd s = .next (if s.frameEndsInterval then s.frameStart else s) := rfl

theorem frameEndsInterval_iff {s : State} (state : s.csq.state = .interval) :
    s.frameEndsInterval = true ↔ s.frameStart.csq.state = .waitBuffer := by
  simp [State.frameEndsInterval, state]

/-- Settles O47: the limit drops the head picture, and an interval's frame start is the frame start out of an interval
with the frame counted. -/
theorem intakeLimitAndInterval : Obligations.IntakeLimitAndInterval := by
  unfold Obligations.IntakeLimitAndInterval
  refine ⟨fun s empty => ?_, fun s id rest c r pending capture state found => limit_drops pending capture state found,
    fun s other => ?_, fun s c p state capture program still quiet => ?_⟩
  · show Host.Outcome.next _ = _
    rw [empty]
  · rw [exec_intervalEnd, State.frameEndsInterval, beq_false_of_ne other]
    rfl
  · let out : State := { s with csq := { s.csq with state := .waitBuffer } }
    have starts : out.frameStart = State.excFrame { s.openFrame with csq := out.csq } :=
      frameStart_quiet (s := out) quiet still (show CsqState.waitBuffer ≠ .interval by decide)
    let back : State := { State.excFrame { s.openFrame with csq := out.csq } with csq := s.csq }
    have counts : s.frameStart = back.countInterval := by
      rw [frameStart_counts quiet still, excFrame_csq s out.csq]
    obtain ⟨counter, -, -⟩ := frameStart_advanced out
    rw [starts] at counter
    refine ⟨_, congrArg Host.Outcome.next starts, counter, fun short => ?_, fun full => ?_⟩
    · have goesOn := counts.trans (countInterval_goesOn (t := back) capture program state short)
      refine ⟨?_, congrArg Host.Outcome.next goesOn⟩
      rw [exec_intervalEnd, if_neg]
      rw [frameEndsInterval_iff state, goesOn]
      show ¬ s.csq.state = .waitBuffer
      rw [state]
      decide
    · have buffer : State.pbf (State.excFrame { s.openFrame with csq := out.csq }) = s.pbf := by
        simp only [State.excFrame_frame, State.openFrame_frame]
      have ends := counts.trans (countInterval_ends (t := back) capture program state buffer full)
      refine ⟨?_, congrArg Host.Outcome.next ends⟩
      rw [exec_intervalEnd, if_pos ((frameEndsInterval_iff state).mpr (by rw [ends])), ends]

end Sys2Proof.Proofs.Intervals
end

section
/-! PROOFS. A STATS feed filed in its record, judged, and metered (R60 to R63, R73, R75 to R80). -/

namespace Sys2Proof.Proofs.Metering
open Sys2Proof Sys2Proof.Machine

-- one declaration after another: each unfolds operations whose equations another would be waiting for
set_option Elab.async false

/-! ## X_current and its bounds (R80) -/

/-- X brought into the live bounds. -/
def broughtX (s : State) (x : Int) : Int :=
  if s.upperBound < x then s.upperBound else if x < s.lowerBound then s.lowerBound else x

/-- The clamp state of an X. -/
def clampOf (s : State) (x : Int) : Clamp :=
  if s.upperBound < x then .over (x - s.upperBound).toNat
  else if x < s.lowerBound then .under (s.lowerBound - x).toNat
  else .none

theorem setX_eq (s : State) (x : Int) :
    s.setX x = { s with exc := { s.exc with x := some (broughtX s x), clamp := clampOf s x } } := by
  unfold State.setX broughtX clampOf
  split
  · rfl
  · split <;> rfl

/-- The state that has metered a target and taken an X. -/
def met (s : State) (target x : Int) (lock : Lock) : State :=
  { s with exc := { s.exc with latest := some target, x := some (broughtX s x), clamp := clampOf s x, lock := lock } }

/-! ## What a metered target does (R69, R79) -/

/-- The state with a target metered and nothing taken. -/
def targeted (s : State) (target : Int) : State := { s with exc := { s.exc with latest := some target } }

theorem converge_running {s : State} {x : Int} (running : s.excState = .running) (current : s.exc.x = some x)
    (target : Int) :
    s.converge target = (met s target (x + convergenceStep s.exc.live (target - x)) s.exc.lock, false) := by
  simp only [State.converge, running, current]
  exact Prod.ext (setX_eq (targeted s target) _) rfl

theorem converge_noResult {s : State} (noResult : s.excState = .noResult) (target : Int) :
    s.converge target =
      (met s target target (if s.exc.lock = .pending then .held (broughtX s target) else s.exc.lock),
        decide (s.exc.lock = .pending)) := by
  simp only [State.converge, noResult, setX_eq]
  cases lock : s.exc.lock <;> rfl

theorem converge_locked {s : State} (locked : s.excState = .locked) (target : Int) :
    s.converge target = (targeted s target, false) := by
  simp only [State.converge, locked]
  rfl

theorem converge_fsu (s : State) (target : Int) : (s.converge target).1.fsu = s.fsu := by
  unfold State.converge
  dsimp only
  (repeat' split) <;> simp [setX_eq]

/-! ## An offered record (R75, R76) -/

theorem excOffer_still {s : State} (off : s.excState.meters = false) (r : FrameRec) : s.excOffer r = (s, false) := by
  simp only [State.excOffer, off, Bool.false_eq_true, if_false]

theorem excOffer_none {s : State} {r : FrameRec}
    (none : r.serial.bind s.expEntry = none ∨ weightSum s.exc.live s.exc.window = 0) : s.excOffer r = (s, false) := by
  unfold State.excOffer
  split
  · obtain missing | empty := none
    · simp only [missing]
    · cases r.serial.bind s.expEntry with
      | none => rfl
      | some e => simp only [empty, if_true]
  · rfl

theorem excOffer_meters {s : State} {r : FrameRec} {e : ExpEntry} (meters : s.excState.meters = true)
    (entry : r.serial.bind s.expEntry = some e) (weights : weightSum s.exc.live s.exc.window ≠ 0) :
    s.excOffer r = s.converge (s.meterTarget s.exc.window e r.zones) := by
  simp only [State.excOffer, meters, entry, if_true, if_neg weights]

theorem excOffer_fsu (s : State) (r : FrameRec) : (s.excOffer r).1.fsu = s.fsu := by
  unfold State.excOffer
  split
  · split
    · rfl
    · split
      · rfl
      · exact converge_fsu s _
  · rfl

theorem goOnPreparing_other {s : State} (other : s.csq.state ≠ .preparing) : s.goOnPreparing = s := by
  unfold State.goOnPreparing
  cases s.csq.capture with
  | none => rfl
  | some c => exact if_neg fun asks => other asks.1

theorem fsuOffer_none {s : State} (still : s.fsu.scan = none) (r : FrameRec) : s.fsuOffer r = (s, .none) := by
  simp only [State.fsuOffer, still]

/-- An offer to EXC alone: no scan runs, and no preparation goes on with the lock. -/
theorem offer_alone {s t : State} {r : FrameRec} {locked : Bool} (takes : s.excOffer r = (t, locked))
    (still : s.fsu.scan = none) (goesOn : locked = true → s.csq.state ≠ .preparing) : s.offer r = t := by
  have kept : t.fsu.scan = none := by
    have same := excOffer_fsu s r
    rw [takes] at same
    rw [same, still]
  have prepares : (if locked then t.goOnPreparing else t) = t := by
    cases locked with
    | false => rfl
    | true =>
      refine goOnPreparing_other ?_
      have same : (s.excOffer r).1.csq = s.csq := by simp only [State.excOffer_frame]
      rw [takes] at same
      rw [same]
      exact goesOn rfl
  simp only [State.offer, takes, prepares, fsuOffer_none kept]
  rfl

/-! ## The zone weights as R73 gives them -/

/-- The weight of a zone under the mode in force. -/
def weightOf (live : MeterSettings) (window z : Nat) : Nat :=
  match live.mode with
  | .matrix => live.weights.getD z 0
  | .center =>
    if z ∈ windowZones 0 then 4 else if z ∈ [10, 11, 12, 13, 18, 21, 26, 29, 34, 35, 36, 37] then 2 else 1
  | .spot => if z ∈ windowZones 0 then 1 else 0
  | .focusLinked => if z ∈ windowZones window then 4 * live.weights.getD z 0 else live.weights.getD z 0

theorem zoneWeight_eq (live : MeterSettings) (window : Nat) : zoneWeight live window = weightOf live window := by
  funext z
  unfold zoneWeight weightOf
  cases live.mode with
  | matrix => rfl
  | center => simp only [List.contains_iff_mem]
  | spot => simp only [List.contains_iff_mem]
  | focusLinked => simp only [List.contains_iff_mem]

theorem weightSum_eq (live : MeterSettings) (window : Nat) :
    weightSum live window = ((List.range 48).map (weightOf live window)).sum := by
  rw [weightSum, zoneWeight_eq]

/-- The error E in R76's terms. -/
def errorOf (live : MeterSettings) (window : Nat) (zones : List Nat) : Int :=
  let mean := ((List.range 48).map fun z => weightOf live window z * zones.getD z 0).sum /
    ((List.range 48).map (weightOf live window)).sum
  let clipped := ((List.range 48).filter fun z => zones.getD z 0 = 4095 ∧ 0 < weightOf live window z).length
  (lg mean : Int) - lg live.target +
    (if live.highlight < clipped then min 64 (8 * (clipped - live.highlight)) else 0 : Nat)

theorem meterError_eq (live : MeterSettings) (window : Nat) (zones : List Nat) :
    meterError live window zones = errorOf live window zones := by
  have clipped : clippedZones live window zones =
      ((List.range 48).filter fun z => zones.getD z 0 = 4095 ∧ 0 < weightOf live window z).length := by
    rw [clippedZones, zoneWeight_eq]
    congr 2
    funext z
    rw [Bool.decide_and]
    rfl
  rw [meterError, clipped, zoneMean, weightSum_eq, zoneWeight_eq]
  rfl

/-! ## The record filed (R60 to R62) -/

theorem exec_stats {f : StatsFeed} {s t : State} (taken : s.takeHanded (.stats f) = some t) :
    exec (.stats f) s = .next (t.fileStats f) :=
  congrArg Host.Outcome.next (State.onFeed_taken taken _)

theorem expEntry_isNone (s : State) (n : Nat) : (s.expEntry n).isNone = !(s.exc.ring.any fun e => e.serial == n) := by
  rw [State.expEntry]
  induction s.exc.ring with
  | nil => rfl
  | cons e ring ih =>
    rw [List.find?_cons, List.any_cons]
    cases e.serial == n with
    | true => rfl
    | false => exact ih

theorem fileStats_dropped {t : State} {f : StatsFeed}
    (dropped : (t.fmn.ring.find? fun r => r.number == f.frame) = none ∨
      ∃ r, (t.fmn.ring.find? fun r => r.number == f.frame) = some r ∧ r.stats = true) :
    t.fileStats f = t.dropStats := by
  obtain missing | ⟨r, found, filed⟩ := dropped
  · simp only [State.fileStats, missing]
  · simp only [State.fileStats, found, filed, if_true]

/-- The EXP_CHANGED judgement in R62's terms. -/
def changedOf (t : State) (frame : Nat) (serial : Option Nat) : Bool :=
  match serial with
  | none => true
  | some n =>
    !(t.exc.ring.any fun e => e.serial == n) ||
      (match ((t.fmn.ring.takeWhile fun q => q.number != frame).filter (·.stats)).getLast? with
       | none => true
       | some q => q.serial != some n)

theorem judgeChanged_eq (t : State) (frame : Nat) (serial : Option Nat) :
    t.judgeChanged frame serial = changedOf t frame serial := by
  cases serial with
  | none => rfl
  | some n =>
    rw [State.judgeChanged, expEntry_isNone]
    rfl

/-- The record stands as the open one. -/
def standsOpen (t : State) (r : FrameRec) : Bool := t.fmn.ring.getLast?.map (·.number) == some r.number

/-- The record of a feed. -/
def filedOf (t : State) (r : FrameRec) (f : StatsFeed) : FrameRec :=
  { r with stats := true, serial := if f.serial = 0 then none else some f.serial, hostMark := f.hostMark != 0,
           zones := f.zones.map (min 4095), contrasts := f.contrasts,
           expChanged := changedOf t f.frame (if f.serial = 0 then none else some f.serial),
           offerHeld := standsOpen t r }

/-- The state with a feed filed. -/
def keptOf (t : State) (r : FrameRec) (f : StatsFeed) : State :=
  { t with fmn := { t.fmn with
      ring := updateFirst (fun x => x.number == f.frame) (fun _ => filedOf t r f) t.fmn.ring } }

theorem fileStats_files {t : State} {f : StatsFeed} {r : FrameRec}
    (found : (t.fmn.ring.find? fun r => r.number == f.frame) = some r) (fresh : r.stats = false) :
    t.fileStats f = if standsOpen t r then keptOf t r f else (keptOf t r f).offer (filedOf t r f) := by
  have number : r.number = f.frame := beq_iff_eq.mp (List.find?_some (p := fun q : FrameRec => q.number == f.frame) found)
  have judged : t.judgeChanged r.number (if f.serial = 0 then none else some f.serial) =
      changedOf t f.frame (if f.serial = 0 then none else some f.serial) := by
    rw [number, judgeChanged_eq]
  simp only [State.fileStats, found, fresh, Bool.false_eq_true, if_false, State.filed, judged]
  rfl

/-! ## The filed record metered -/

section
variable {t : State} {f : StatsFeed} {r : FrameRec} {s : State} (taken : s.takeHanded (.stats f) = some t)
  (found : (t.fmn.ring.find? fun r => r.number == f.frame) = some r) (fresh : r.stats = false)
include taken found fresh

theorem stats_open (isOpen : standsOpen t r = true) : exec (.stats f) s = .next (keptOf t r f) := by
  rw [exec_stats taken, fileStats_files found fresh, if_pos isOpen]

theorem stats_offered {u : State} {locked : Bool} (closed : standsOpen t r = false)
    (takes : (keptOf t r f).excOffer (filedOf t r f) = (u, locked)) (still : t.fsu.scan = none)
    (goesOn : locked = true → t.csq.state ≠ .preparing) : exec (.stats f) s = .next u := by
  rw [exec_stats taken, fileStats_files found fresh, if_neg (by rw [closed]; exact Bool.false_ne_true)]
  exact congrArg _ (offer_alone takes still goesOn)

end

/-- Settles O28, by the state of the exposure unit an offered record finds. -/
theorem statsFiled : Obligations.StatsFiled := by
  unfold Obligations.StatsFiled
  refine fun f s t taken => ⟨fun dropped => ?_, fun r found fresh => ?_⟩
  · rw [exec_stats taken, fileStats_dropped dropped]
    rfl
  · refine ⟨fun quiet => ?_, fun closed still idle => ⟨fun none => ?_, fun e entry weights => ?_⟩⟩
    · by_cases isOpen : standsOpen t r = true
      · exact stats_open taken found fresh isOpen
      · obtain opened | ⟨off, still⟩ := quiet
        · exact absurd opened isOpen
        · exact stats_offered taken found fresh (Bool.not_eq_true _ ▸ isOpen) (excOffer_still (s := keptOf t r f) off _) still
            fun locks => absurd locks Bool.false_ne_true
    · refine stats_offered taken found fresh closed (excOffer_none ?_) still fun _ => idle
      rw [weightSum_eq]
      exact none
    · have sum : weightSum t.exc.live t.exc.window ≠ 0 := by
        rw [weightSum_eq]
        exact weights
      have offered (meters : t.excState.meters = true) :=
        excOffer_meters (s := keptOf t r f) (r := filedOf t r f) meters entry sum
      simp only [State.meterTarget, meterError_eq] at offered
      refine ⟨fun x running current => ?_, fun noResult => ?_, fun locked => ?_⟩
      · exact stats_offered taken found fresh closed
          ((offered (by rw [running]; rfl)).trans (converge_running (s := keptOf t r f) running current _)) still
          fun _ => idle
      · exact stats_offered taken found fresh closed
          ((offered (by rw [noResult]; rfl)).trans (converge_noResult (s := keptOf t r f) noResult _)) still
          fun _ => idle
      · exact stats_offered taken found fresh closed
          ((offered (by rw [locked]; rfl)).trans (converge_locked (s := keptOf t r f) locked _)) still
          fun _ => idle

end Sys2Proof.Proofs.Metering
end

section
/-! PROOFS. SCAN: its refusals, and the first unit of a scan (R96 to R98). -/

namespace Sys2Proof.Proofs.ScanStarts
open Sys2Proof Sys2Proof.Machine Sys2Proof.Proofs.LensRequests Sys2Proof.Proofs.Programs

-- one declaration after another: each unfolds operations whose equations another would be waiting for
set_option Elab.async false

/-! ## A scan begins (R97, R98) -/

/-- The context of a scan before its first arrival; its mark and count are those of no arrival yet (log 51). -/
def newScan (user : ScanUser) (plan : ScanPlan) : Scan :=
  { user := user, plan := plan, index := 0, p := plan.start, begun := false, phase := .travel, mark := none,
    waitCount := 0, best := none, rise := 0, stop := none, goal := none }

/-- A user whose positions are those of its plan. -/
def ScanUser.planned (user : ScanUser) : Prop := ∀ centre positions, user ≠ .refine centre positions

theorem position_first {user : ScanUser} (planned : ScanUser.planned user) (plan : ScanPlan) :
    (newScan user plan).position 0 = plan.start := by
  cases user with
  | refine centre positions => exact absurd rfl (planned centre positions)
  | _ =>
    show (if plan.up then plan.start + 0 * plan.settings.step else plan.start - 0 * plan.settings.step) = plan.start
    rw [Nat.zero_mul, Nat.add_zero, Nat.sub_zero, ite_self]

section
variable {s : State} {user : ScanUser} {plan : ScanPlan} (planned : ScanUser.planned user)
include planned

/-- A scan whose focus has to travel to the start. -/
theorem startScan_travels {t : State} (given : s.giveTarget .focus plan.start = (t, .underway))
    (apart : s.ldu.focus.pp ≠ some plan.start) :
    s.startScan user plan = ((t.setScan (some (newScan user plan))).arbitrate, .none) := by
  have first := position_first planned plan
  have travels : s.travelUnit (newScan user plan) 0 =
      ((t.setScan (some { newScan user plan with p := (newScan user plan).position 0 })).arbitrate, .none) := by
    simp only [State.travelUnit, first, given]
    exact if_neg fun here => apart here.2
  exact travels.trans (by rw [first]; rfl)

/-- A RELEASED focus elsewhere energizes toward the start. -/
theorem startScan_energizes {p : Nat} (pp : s.ldu.focus.pp = some p) (apart : p ≠ plan.start)
    (released : s.ldu.focus.state = .released) (slow : s.ldu.focus.setup.energize ≠ 0) (idle : s.ldu.waitList = []) :
    s.startScan user plan =
      ({ s with
          ldu := { s.ldu with focus := { s.ldu.focus with
            target := some plan.start, state := .energizing, timer := some s.ldu.focus.setup.energize } },
          fsu := { s.fsu with scan := some (newScan user plan) } }, .none) := by
  rw [startScan_travels planned (State.giveTarget_released s .focus plan.start p pp (Ne.symm apart) released slow)
    (by rw [pp]; exact fun same => apart (Option.some.inj same))]
  exact Prod.ext (State.arbitrate_nil _ idle) rfl

/-- A RELEASED focus at the start waits for a frame at once. -/
theorem startScan_here (pp : s.ldu.focus.pp = some plan.start) (released : s.ldu.focus.state = .released)
    (idle : s.ldu.waitList = []) :
    s.startScan user plan =
      (State.enterFrameWait
        (State.beginScanUnit
          { s with ldu := { s.ldu with focus := { s.ldu.focus with target := some plan.start } } }
          (newScan user plan))
        { newScan user plan with begun := true }, .none) := by
  have first := position_first planned plan
  have given := State.giveTarget_released_here s .focus plan.start pp released
  have arrives : s.travelUnit (newScan user plan) 0 =
      (State.enterFrameWait
        (State.arbitrate (State.beginScanUnit (s.setAxis .focus { s.ldu.focus with target := some plan.start })
          (newScan user plan)))
        { newScan user plan with begun := true, p := (newScan user plan).position 0 }, .none) := by
    simp only [State.travelUnit, first, given]
    rfl
  refine arrives.trans ?_
  rw [first, State.arbitrate_nil]
  · rfl
  · unfold State.beginScanUnit
    split <;> exact idle

end

/-! ## The refusals of SCAN (R96) -/

theorem badCondition_iff (o : ScanOperands) : badCondition o = true ↔ ∃ code, o.condition = some code ∧ 1 < code := by
  unfold badCondition
  cases o.condition with
  | none => simp
  | some code => simp [focusConditionOf_isNone]

section
variable {t : State} {o : ScanOperands}

theorem scanFault_noTable {detail : Nat} (table : t.noTable = some detail) :
    t.scanFault o = some (.noTable, detail) := by
  simp only [State.scanFault, table]

variable (valid : t.otb.state = .valid)
include valid

theorem scanFault_ends (ends : o.start.isSome ≠ o.stop.isSome) : t.scanFault o = some (.field, 0) := by
  have table : t.noTable = none := by rw [State.noTable, valid]
  simp only [State.scanFault, table, if_pos ends]

variable (ends : o.start.isSome = o.stop.isSome)
include ends

theorem scanFault_condition (bad : ∃ code, o.condition = some code ∧ 1 < code) : t.scanFault o = some (.field, 3) := by
  have table : t.noTable = none := by rw [State.noTable, valid]
  simp only [State.scanFault, table, if_neg (not_not.mpr ends), (badCondition_iff o).mpr bad, if_true]

variable (good : ∀ code, o.condition = some code → code ≤ 1)
include good

/-- A SCAN whose operands pass is judged by the context and the lens. -/
theorem scanFault_lens : t.scanFault o = if t.activeKind = .review then some (.contextKind, 2) else t.scanLensFault := by
  have table : t.noTable = none := by rw [State.noTable, valid]
  have fine : badCondition o = false := by
    rw [← Bool.not_eq_true, badCondition_iff]
    rintro ⟨code, given, beyond⟩
    exact absurd (good code given) (Nat.not_le.mpr beyond)
  simp only [State.scanFault, table, if_neg (not_not.mpr ends), fine, Bool.false_eq_true, if_false]

end

theorem scanLensFault_eq (t : State) :
    t.scanLensFault =
      if t.ldu.zoom.pp = none then some (.unreferenced, 0)
      else if t.ldu.focus.pp = none then some (.unreferenced, 1)
      else if t.ldu.focus.owner ≠ none then some (.busy, 1) else none := by
  simp only [State.scanLensFault, State.firstUnreferenced, List.find?_cons, List.find?_nil, State.axis]
  cases t.ldu.zoom.pp with
  | none => rfl
  | some z =>
    cases t.ldu.focus.pp with
    | none => rfl
    | some f => cases t.ldu.focus.owner <;> rfl

/-- The state with focus owned by a SCAN. -/
def scanOwned (w : State) (tag : Nat) : State :=
  { w with ldu := { w.ldu with focus := { w.ldu.focus with owner := some (.op .scan tag) } } }

/-- A SCAN accepted: focus is the scan's, and the scan begins. -/
theorem scanRequest_accepted {t : State} {tag : Nat} {o : ScanOperands} (clear : t.scanFault o = none)
    (room : t.hasRoom tag) (state : OpState)
    (entered : (if t.ldu.focus.pp = some (t.planScan (overrideAf t.fsu.live o) o.start o.stop).start then OpState.running
      else .waiting) = state) :
    let plan := t.planScan (overrideAf t.fsu.live o) o.start o.stop
    t.scanRequest tag o =
      State.deliver
        (State.startScan (scanOwned (t.accepted tag .scan state (some plan.planned)) tag) (.scan tag o) plan) := by
  simp only [State.scanRequest, clear, State.accept_room room, entered]
  rfl

/-- A request accepted RUNNING begins a unit unchanged. -/
theorem beginUnit_running {t : State} {tag : Nat} (room : t.hasRoom tag) (kind : OpKind) (planned : Option Nat) :
    (t.accepted tag kind .running planned).beginUnit tag = t.accepted tag kind .running planned := by
  have others := State.hasRoom_map room fun e => if e.state = .waiting then { e with state := .running } else e
  simp only [State.beginUnit, State.updateEntry, State.accepted_table, List.map_append, others]
  simp [State.accepted, State.enter, State.reply]

/-- Settles O32, by the order of the checks and by where focus stands. -/
theorem scanBegins : Obligations.ScanBegins := by
  unfold Obligations.ScanBegins
  intro tag o s t reaches
  have asked : exec (.scan tag o) s = .next (t.scanRequest tag o) :=
    congrArg Host.Outcome.next (State.onRequest_reaches reaches _)
  have refused {code : Code} {detail : Nat} (fault : t.scanFault o = some (code, detail)) :
      exec (.scan tag o) s = .next (t.reply tag (.refused code detail)) := by
    rw [asked, State.scanRequest, fault]
    rfl
  refine ⟨fun empty => refused (scanFault_noTable (by rw [State.noTable, empty])),
    fun staged => refused (scanFault_noTable (by rw [State.noTable, staged])),
    fun valid ends => refused (scanFault_ends valid ends),
    fun valid ends => ⟨fun bad => refused (scanFault_condition valid ends bad), fun good => ?_⟩⟩
  have lens := scanFault_lens (t := t) valid ends good
  refine ⟨fun review => refused (by rw [lens, if_pos review]), fun other => ?_⟩
  rw [if_neg other, scanLensFault_eq] at lens
  refine ⟨fun lost => refused (by rw [lens, if_pos lost]),
    fun known lost => refused (by rw [lens, if_neg known, if_pos lost]),
    fun known focus owned => refused (by rw [lens, if_neg known, if_neg focus, if_pos owned]),
    fun p known pp free room idle released => ?_⟩
  have clear : t.scanFault o = none := by
    rw [lens, if_neg known, if_neg (by rw [pp]; exact Option.some_ne_none p), if_neg (not_not.mpr free)]
  have planned : ScanUser.planned (.scan tag o) := fun _ _ => nofun
  refine ⟨fun apart slow => ?_, fun here => ?_⟩
  · have away : t.ldu.focus.pp ≠ some (t.planScan (overrideAf t.fsu.live o) o.start o.stop).start := by
      rw [pp]
      exact fun same => apart (Option.some.inj same)
    let w := t.accepted tag .scan .waiting
      (some (t.planScan (overrideAf t.fsu.live o) o.start o.stop).planned)
    rw [asked]
    exact congrArg Host.Outcome.next ((scanRequest_accepted clear room .waiting (if_neg away)).trans
      (congrArg State.deliver (startScan_energizes (s := scanOwned w tag) planned pp apart released slow idle)))
  · have stands : t.ldu.focus.pp = some (t.planScan (overrideAf t.fsu.live o) o.start o.stop).start := by
      rw [pp, ← here]
    let w := t.accepted tag .scan .running
      (some (t.planScan (overrideAf t.fsu.live o) o.start o.stop).planned)
    have running : w.beginUnit tag = w := beginUnit_running room .scan _
    rw [asked]
    refine congrArg Host.Outcome.next ((scanRequest_accepted clear room .running (if_pos stands)).trans
      ((congrArg State.deliver (startScan_here (s := scanOwned w tag) planned stands released idle)).trans ?_))
    exact congrArg
      (fun u : State =>
        { u with
            ldu := { w.ldu with focus := { w.ldu.focus with
              owner := some (.op .scan tag),
              target := some (t.planScan (overrideAf t.fsu.live o) o.start o.stop).start } },
            fsu := { w.fsu with
              scan := some
                { newScan (.scan tag o) (t.planScan (overrideAf t.fsu.live o) o.start o.stop) with
                    begun := true, phase := .frameWait, mark := w.settleMark } } })
      running

end Sys2Proof.Proofs.ScanStarts
end

section
/-! PROOFS. PREPARE, RELEASE, and the first result under a pending lock (R69, R142 to R144). -/

namespace Sys2Proof.Proofs.Preparations
open Sys2Proof Sys2Proof.Machine Sys2Proof.Proofs.CardFacts Sys2Proof.Proofs.CaptureFacts
open Sys2Proof.Proofs Sys2Proof.Proofs.Steadying Sys2Proof.Proofs.ScanStarts Sys2Proof.Proofs.Metering

-- one declaration after another: each unfolds operations whose equations another would be waiting for
set_option Elab.async false

/-! ## Focus alone is moved (R25, R98) -/

/-- The state with another focus axis and wait list. -/
def withFocus (s : State) (r : AxisRec) (list : List Axis) : State :=
  { s with ldu := { s.ldu with focus := r, waitList := list } }

/-- Focus asks for no homing, and nothing but focus waits for a slot. -/
def FocusWaits (s : State) : Prop :=
  s.ldu.focus.homing = .none ∧ (s.ldu.waitList = [] ∨ s.ldu.waitList = [.focus])

/-- Of a state, focus alone is moved, in its owner's hands. -/
def FocusMoved (s t : State) : Prop :=
  ∃ r list, t = withFocus s r list ∧ r.owner = s.ldu.focus.owner ∧ r.pp = s.ldu.focus.pp ∧ FocusWaits t

theorem FocusMoved.refl {s : State} (waits : FocusWaits s) : FocusMoved s s :=
  ⟨s.ldu.focus, s.ldu.waitList, rfl, rfl, rfl, waits⟩

theorem FocusMoved.trans {s t u : State} (first : FocusMoved s t) (second : FocusMoved t u) : FocusMoved s u := by
  obtain ⟨r, list, rfl, owner, pp, -⟩ := first
  obtain ⟨r', list', rfl, owner', pp', waits⟩ := second
  exact ⟨r', list', rfl, owner'.trans owner, pp'.trans pp, waits⟩

/-- Writing focus's record moves focus alone. -/
theorem FocusMoved.setAxis {s : State} (waits : FocusWaits s) {r : AxisRec} (owner : r.owner = s.ldu.focus.owner)
    (pp : r.pp = s.ldu.focus.pp) (homing : r.homing = .none) : FocusMoved s (s.setAxis .focus r) :=
  ⟨r, s.ldu.waitList, rfl, owner, pp, homing, waits.2⟩

theorem joinWait_moved {s : State} (idle : s.ldu.waitList = []) {r : AxisRec} (owner : r.owner = s.ldu.focus.owner)
    (pp : r.pp = s.ldu.focus.pp) (homing : r.homing = .none) : FocusMoved s (s.joinWait .focus r) :=
  ⟨{ r with state := .awaitingSlot, timer := none }, s.ldu.waitList ++ [.focus], rfl, owner, pp, homing,
    .inr (by show s.ldu.waitList ++ [.focus] = [.focus]; rw [idle, List.nil_append])⟩

/-- A target given to focus (R21). -/
theorem giveTarget_moved {s : State} {p : Nat} (pp : s.ldu.focus.pp = some p) (homing : s.ldu.focus.homing = .none)
    (idle : s.ldu.waitList = []) (v : Nat) :
    (s.giveTarget .focus v).2 ≠ .unreferenced ∧ FocusMoved s (s.giveTarget .focus v).1 := by
  have waits : FocusWaits s := ⟨homing, .inl idle⟩
  have joins := joinWait_moved idle (r := { s.ldu.focus with target := some v }) rfl rfl homing
  have writes (r : AxisRec) := FocusMoved.setAxis waits (r := r)
  unfold State.giveTarget
  dsimp only
  split
  · rename_i lost
    exact absurd (pp.symm.trans lost) (Option.some_ne_none p)
  · split
    · split
      · exact ⟨nofun, writes _ rfl rfl homing⟩
      · refine ⟨nofun, ?_⟩
        unfold State.energizeAxis
        split
        · exact joins
        · exact writes _ rfl rfl homing
    · exact ⟨nofun, writes _ rfl rfl homing⟩
    · split
      · exact ⟨nofun, writes _ rfl rfl homing⟩
      · exact ⟨nofun, joins⟩
    · split
      · have left : s.leaveWait .focus = s := by
          rw [State.leaveWait, idle]
          show { s with ldu := { s.ldu with waitList := [] } } = s
          rw [← idle]
        rw [left]
        exact ⟨nofun, writes _ rfl rfl rfl⟩
      · exact ⟨nofun, writes _ rfl rfl homing⟩
    · exact ⟨nofun, writes _ rfl rfl homing⟩
    · exact ⟨nofun, FocusMoved.refl waits⟩
    · split
      · exact ⟨nofun, writes _ rfl rfl homing⟩
      · exact ⟨nofun, joins⟩

/-- A slot granted while focus is a capture's (R25). -/
theorem grantOne_moved {s : State} {kind : OpKind} (waits : FocusWaits s)
    (owner : s.ldu.focus.owner = some (.capture kind)) : FocusMoved s s.grantOne := by
  obtain ⟨homing, empty | one⟩ := waits
  · rw [State.grantOne, empty]
    exact FocusMoved.refl ⟨homing, .inl empty⟩
  · simp only [State.grantOne, one]
    split
    · let u := withFocus s s.ldu.focus []
      have left : FocusMoved s u := ⟨s.ldu.focus, [], rfl, rfl, rfl, homing, .inl rfl⟩
      have asks : ¬ s.ldu.focus.homing = .pending := by rw [homing]; decide
      refine left.trans (u := u.granted .focus) ?_
      have writes (r : AxisRec) := FocusMoved.setAxis (s := u) ⟨homing, .inl rfl⟩ (r := r)
      have owned : (u.axis .focus).owner = some (.capture kind) := owner
      unfold State.granted
      simp only [owned]
      rw [if_neg (show ¬ (u.axis .focus).homing = .pending from asks)]
      split
      · exact writes _ rfl rfl rfl
      · exact writes _ rfl rfl homing
    · exact FocusMoved.refl ⟨homing, .inr one⟩

theorem arbitrate_moved {s : State} {kind : OpKind} (waits : FocusWaits s)
    (owner : s.ldu.focus.owner = some (.capture kind)) : FocusMoved s s.arbitrate := by
  have first := grantOne_moved waits owner
  obtain ⟨r, list, same, kept, -, waits'⟩ := id first
  refine first.trans (grantOne_moved (kind := kind) waits' ?_)
  rw [same]
  exact kept.trans owner

/-! ## A scan begun by a capture (R98, R143) -/

/-- A change of entries that begins a unit at most. -/
def BeginsUnit (f : OpEntry → OpEntry) : Prop :=
  ∀ e, (f e).tag = e.tag ∧ (f e).kind = e.kind ∧ (f e).done = e.done ∧ (f e).planned = e.planned

/-- The state with another focus axis and wait list, a scan, and the table changed. -/
def withScan (s : State) (r : AxisRec) (list : List Axis) (c : Scan) (f : OpEntry → OpEntry) : State :=
  { withFocus s r list with
      fsu := { s.fsu with scan := some c }, opt := { s.opt with table := s.opt.table.map f } }

/-- Of a state, focus is moved, and a scan of a user and plan has begun. -/
def ScanMoved (user : ScanUser) (plan : ScanPlan) (s t : State) : Prop :=
  ∃ r list c f, t = withScan s r list c f ∧ r.owner = s.ldu.focus.owner ∧ r.pp = s.ldu.focus.pp ∧
    c.user = user ∧ c.plan = plan ∧ c.index = 0 ∧ BeginsUnit f

theorem beginScanUnit_begins (s : State) (c : Scan) :
    ∃ f, BeginsUnit f ∧ s.beginScanUnit c = { s with opt := { s.opt with table := s.opt.table.map f } } := by
  unfold State.beginScanUnit
  split
  · rename_i tag found
    refine ⟨_, fun e => ?_, rfl⟩
    dsimp only
    split
    · split <;> exact ⟨rfl, rfl, rfl, rfl⟩
    · exact ⟨rfl, rfl, rfl, rfl⟩
  · exact ⟨id, fun e => ⟨rfl, rfl, rfl, rfl⟩, by rw [List.map_id]⟩

theorem planned_prepare : ScanUser.planned .prepare := fun _ _ => nofun

theorem planned_focusFirst : ScanUser.planned .focusFirst := fun _ _ => nofun

/-- A scan of a capture begins wherever its focus stands. -/
theorem startScan_moved {s : State} {p : Nat} {kind : OpKind} {user : ScanUser} (plan : ScanPlan)
    (planned : ScanUser.planned user) (pp : s.ldu.focus.pp = some p) (homing : s.ldu.focus.homing = .none)
    (idle : s.ldu.waitList = []) (owner : s.ldu.focus.owner = some (.capture kind)) :
    ∃ t, s.startScan user plan = (t, .none) ∧ ScanMoved user plan s t := by
  have first := position_first planned plan
  have target := giveTarget_moved pp homing idle plan.start
  have starts : s.startScan user plan = s.travelUnit (newScan user plan) 0 := rfl
  rw [starts, State.travelUnit, first]
  generalize s.giveTarget .focus plan.start = given at target ⊢
  obtain ⟨t, reach⟩ := given
  obtain ⟨known, r, list, rfl, kept, same, waits⟩ := target
  have owned : r.owner = some (.capture kind) := kept.trans owner
  have arbitrated (u : State) (ldu : u.ldu = (withFocus s r list).ldu) := arbitrate_moved (s := u) (kind := kind)
    (by rw [FocusWaits, ldu]; exact waits) (by rw [ldu]; exact owned)
  cases reach with
  | unreferenced => exact absurd rfl known
  | arrived =>
    obtain ⟨f, begins, unit⟩ := beginScanUnit_begins (withFocus s r list) { newScan user plan with begun := true }
    obtain ⟨r', list', arbitrates, owner', pp', -⟩ := arbitrated
      { withFocus s r list with opt := { s.opt with table := s.opt.table.map f } } rfl
    let c : Scan :=
      { newScan user plan with begun := true, phase := .frameWait, mark := s.settleMark, waitCount := 0 }
    refine ⟨withScan s r' list' c f, ?_, r', list', c, f, rfl, owner'.trans kept, pp'.trans same, rfl, rfl, rfl, begins⟩
    have begun : (if (newScan user plan).begun then withFocus s r list
        else (withFocus s r list).beginScanUnit { newScan user plan with begun := true }) =
          { withFocus s r list with opt := { s.opt with table := s.opt.table.map f } } := unit
    have ends := congrArg (fun u : State => (u.enterFrameWait { newScan user plan with begun := true }, FsuReport.none))
      ((congrArg State.arbitrate begun).trans arbitrates)
    exact ends
  | underway =>
    dsimp only
    split
    · obtain ⟨f, begins, unit⟩ := beginScanUnit_begins (withFocus s r list) { newScan user plan with begun := true }
      let c : Scan := { newScan user plan with begun := true }
      obtain ⟨r', list', arbitrates, owner', pp', -⟩ := arbitrated
        { withFocus s r list with
            fsu := { s.fsu with scan := some c }, opt := { s.opt with table := s.opt.table.map f } } rfl
      refine ⟨withScan s r' list' c f, ?_, r', list', c, f, rfl, owner'.trans kept, pp'.trans same, rfl, rfl, rfl,
        begins⟩
      have begun := congrArg (fun u : State => (u.setScan (some c)).arbitrate) unit
      exact Prod.ext (begun.trans arbitrates) rfl
    · obtain ⟨r', list', arbitrates, owner', pp', -⟩ := arbitrated
        { withFocus s r list with fsu := { s.fsu with scan := some (newScan user plan) } } rfl
      have table : s.opt.table.map id = s.opt.table := List.map_id _
      refine ⟨withScan s r' list' (newScan user plan) id, ?_, r', list', newScan user plan, id, rfl,
        owner'.trans kept, pp'.trans same, rfl, rfl, rfl, fun e => ⟨rfl, rfl, rfl, rfl⟩⟩
      rw [withScan, table]
      exact Prod.ext arbitrates rfl

/-! ## The capture window (R124) -/

/-- STU's registers with the capture window set. -/
def windowed (s : State) (b : Bool) : Stu := (s.setWindow b).stu

theorem setWindow_eq (s : State) (b : Bool) : s.setWindow b = { s with stu := windowed s b } := by
  unfold windowed State.setWindow
  rw [deriveStu_eq]

theorem windowed_window (s : State) (b : Bool) : (windowed s b).window = b := by
  unfold windowed State.setWindow
  rw [deriveStu_eq]
  dsimp only
  split <;> rfl

theorem windowed_mode (s : State) (b : Bool) : (windowed s b).mode = s.stu.mode := by
  unfold windowed State.setWindow
  rw [deriveStu_eq]
  dsimp only
  split <;> rfl

theorem windowed_offset (s : State) (b : Bool) : (windowed s b).offset = s.stu.offset := by
  unfold windowed State.setWindow
  rw [deriveStu_eq]
  dsimp only
  split <;> rfl

/-! ## RELEASE (R144) -/

/-- An axis a capture owns is freed. -/
def letGo (r : AxisRec) : AxisRec :=
  match r.owner with
  | some (.capture _) => { r with owner := none }
  | _ => r

/-- A capture owns the axis. -/
def ofCapture (r : AxisRec) : Bool :=
  match r.owner with
  | some (.capture _) => true
  | _ => false

theorem freedIf_ofCapture (r : AxisRec) : LensEndings.freedIf (ofCapture r) r = letGo r := by
  unfold ofCapture letGo LensEndings.freedIf
  split <;> rfl

/-- Zoom and focus, where a capture owns them. -/
def capturedAxis (s : State) : Axis → Bool
  | .iris => false
  | a => ofCapture (s.axis a)

theorem captured_eq (s : State) : s.captured = allAxes.filter (capturedAxis s) := by
  have last : capturedAxis s .iris = false := rfl
  simp only [State.captured, allAxes, List.filter_cons, List.filter_nil, last, Bool.false_eq_true, if_false]
  rfl

/-- CSQ goes IDLE: lock, window, claim and request are given up (R144). -/
theorem csqIdle_eq (s : State) :
    s.csqIdle =
      { s with
          exc := { s.exc with lock := .none }, stu := windowed s.giveUpLock false,
          ldu := { s.ldu with zoom := letGo s.ldu.zoom, focus := letGo s.ldu.focus },
          csq := { s.csq with state := .idle, capture := none }, pbf := { s.pbf with request := false } } := by
  have freed := LensEndings.release_eq (s := s.giveUpLock.setWindow false) (q := capturedAxis s) fun last => nomatch last
  rw [← captured_eq, setWindow_eq] at freed
  have zoom := freedIf_ofCapture s.ldu.zoom
  have focus := freedIf_ofCapture s.ldu.focus
  rw [← zoom, ← focus]
  unfold State.csqIdle
  rw [setWindow_eq]
  exact congrArg (fun u : State => State.setRequest (State.setCsq { u with csq := { u.csq with capture := none } } .idle)
    false) freed

theorem exec_release {tag : Nat} {s t : State} (reaches : s.reaches (.release tag) tag t) :
    exec (.release tag) s = .next (t.releaseRequest tag) :=
  congrArg Host.Outcome.next (State.onRequest_reaches reaches _)

theorem releaseRequest_busy {t : State} {tag : Nat} (notIdle : t.csq.state ≠ .idle) (notReady : t.csq.state ≠ .ready) :
    t.releaseRequest tag = t.refuse tag .busy t.csqDetail := by
  unfold State.releaseRequest
  split
  · exact absurd (by assumption) notReady
  · exact absurd (by assumption) notIdle
  · rfl

/-! ## The first result under a pending lock (R69, R143, R146) -/

/-- In NO_RESULT under a pending lock, an offered record changes nothing or gives the held lock. -/
theorem excOffer_pending {k : State} {q : FrameRec} (noResult : k.excState = .noResult) (pending : k.exc.lock = .pending) :
    k.excOffer q = (k, false) ∨ ∃ e x, e.lock = .held x ∧ k.excOffer q = ({ k with exc := e }, true) := by
  cases entry : q.serial.bind k.expEntry with
  | none => exact .inl (excOffer_none (.inl entry))
  | some e =>
    by_cases weights : weightSum k.exc.live k.exc.window = 0
    · exact .inl (excOffer_none (.inr weights))
    · refine .inr ?_
      have takes := excOffer_meters (by rw [noResult]; rfl) entry weights
      rw [converge_noResult noResult, pending] at takes
      exact ⟨_, _, rfl, takes⟩

/-- The record of a feed for a closed record. -/
def closedOf (t : State) (r : FrameRec) (f : StatsFeed) : FrameRec :=
  { r with stats := true, serial := if f.serial = 0 then none else some f.serial, hostMark := f.hostMark != 0,
           zones := f.zones.map (min 4095), contrasts := f.contrasts,
           expChanged := t.judgeChanged f.frame (if f.serial = 0 then none else some f.serial), offerHeld := false }

theorem filedOf_closed {t : State} {r : FrameRec} {f : StatsFeed} (closed : standsOpen t r = false) :
    filedOf t r f = closedOf t r f := by
  rw [filedOf, closedOf, closed, judgeChanged_eq]

/-- The state with a feed filed in a closed record. -/
def closedKept (t : State) (r : FrameRec) (f : StatsFeed) : State :=
  { t with fmn := { t.fmn with
      ring := updateFirst (fun x => x.number == f.frame) (fun _ => closedOf t r f) t.fmn.ring } }

/-- Statistics of a closed record reach EXC, then CSQ where the lock is held now, then FSU. -/
theorem stats_offered_closed {f : StatsFeed} {s t : State} {r : FrameRec} (taken : s.takeHanded (.stats f) = some t)
    (found : t.fmn.ring.find? (fun r => r.number == f.frame) = some r) (fresh : r.stats = false)
    (closed : t.fmn.ring.getLast?.map (·.number) ≠ some r.number) :
    exec (.stats f) s = .next ((closedKept t r f).offer (closedOf t r f)) := by
  have shut : standsOpen t r = false := beq_false_of_ne closed
  rw [exec_stats taken, fileStats_files found fresh, if_neg (by rw [shut]; exact Bool.false_ne_true), keptOf,
    filedOf_closed shut]
  rfl

/-- CSQ goes on with a held lock. -/
def GoesOn (m : State) (c : Capture) : Prop :=
  m.csq.capture = some c ∧ m.csq.state = .preparing ∧ c.scanAsked = false ∧ c.preempting = none ∧
    m.xLocked.isSome = true

theorem goOnPreparing_prepare {m : State} {c : Capture} (goesOn : GoesOn m c) (kind : c.kind = .prepare)
    {plan : ScanPlan} (planned : c.plan = some plan) : m.goOnPreparing = m.askScan .prepare plan := by
  obtain ⟨capture, state, asked, preempting, locked⟩ := goesOn
  simp only [State.goOnPreparing, capture, state, asked, preempting, locked, kind, planned, and_self, if_true]

section
variable {m : State} {c : Capture} {g : Program} (goesOn : GoesOn m c) (kind : c.kind = .shoot)
  (program : c.program = some g) (zoom : m.ldu.zoom.pp ≠ none) (focus : m.ldu.focus.pp ≠ none)
include goesOn kind program zoom focus

theorem goOnPreparing_focusFirst (first : g.focusFirst = true) :
    m.goOnPreparing = m.askScan .focusFirst (m.planScan m.fsu.live none none) := by
  obtain ⟨capture, state, asked, preempting, locked⟩ := goesOn
  simp only [State.goOnPreparing, capture, state, asked, preempting, locked, kind, program, zoom, focus, first, and_self,
    or_self, if_true, if_false]

theorem goOnPreparing_picture (first : g.focusFirst = false) : m.goOnPreparing = m.beginPicture c.first := by
  obtain ⟨capture, state, asked, preempting, locked⟩ := goesOn
  simp only [State.goOnPreparing, capture, state, asked, preempting, locked, kind, program, zoom, focus, first, and_self,
    or_self, if_true, if_false, Bool.false_eq_true]

end

/-- A scan asked for by CSQ that begins ends in nothing at once. -/
theorem askScan_begins {m t : State} {c : Capture} {user : ScanUser} {plan : ScanPlan}
    (capture : m.csq.capture = some c)
    (starts : State.startScan { m with csq := { m.csq with capture := some { c with scanAsked := true } } } user plan =
      (t, .none)) : m.askScan user plan = t := by
  rw [State.askScan, onCapture_eq capture]
  simp only [starts]

/-- After the lock is held CSQ goes on in a filing event, and FSU has no wait to compare the record for. -/
theorem offer_goesOn {k m t : State} {q : FrameRec} (takes : k.excOffer q = (m, true)) (goes : m.goOnPreparing = t)
    (unheard : ∀ c, t.fsu.scan = some c → c.phase = .travel) : k.offer q = t := by
  have quiet : t.fsuOffer q = (t, .none) := by
    cases scan : t.fsu.scan with
    | none => exact fsuOffer_none scan q
    | some c =>
      simp only [State.fsuOffer, scan]
      exact if_neg fun waits => absurd ((unheard c scan).symm.trans waits.1) (by decide)
  simp only [State.offer, takes, if_true, goes, quiet]
  rfl

theorem goesOn_held {t : State} {r : FrameRec} {f : StatsFeed} {c : Capture} {e : Exc} {x : Int} (held : e.lock = .held x)
    (state : t.csq.state = .preparing) (capture : t.csq.capture = some c) (asked : c.scanAsked = false)
    (preempting : c.preempting = none) : GoesOn { closedKept t r f with exc := e } c :=
  ⟨capture, state, asked, preempting, by
    show (State.xLocked { closedKept t r f with exc := e }).isSome = true
    simp only [State.xLocked, held, Option.isSome_some]⟩

section
variable {f : StatsFeed} {s t : State} {r : FrameRec} {c : Capture} {e : Exc}
  (offered : exec (.stats f) s = .next ((closedKept t r f).offer (closedOf t r f)))
  (takes : (closedKept t r f).excOffer (closedOf t r f) = ({ closedKept t r f with exc := e }, true))
  (capture : t.csq.capture = some c)
include offered takes capture

/-- The lock held, a scan begins from a RELEASED focus elsewhere. -/
theorem stats_scans {user : ScanUser} {plan : ScanPlan} {p : Nat} (planned : ScanUser.planned user)
    (goes : State.goOnPreparing { closedKept t r f with exc := e } =
      State.askScan { closedKept t r f with exc := e } user plan)
    (quiet : t.ldu.waitList = []) (released : t.ldu.focus.state = .released) (pp : t.ldu.focus.pp = some p)
    (apart : p ≠ plan.start) (slow : t.ldu.focus.setup.energize ≠ 0) :
    exec (.stats f) s =
      .next
        { closedKept t r f with
            exc := e, csq := { t.csq with capture := some { c with scanAsked := true } },
            ldu := { t.ldu with focus := { t.ldu.focus with
              target := some plan.start, state := .energizing, timer := some t.ldu.focus.setup.energize } },
            fsu := { t.fsu with scan := some (newScan user plan) } } := by
  have starts := startScan_energizes
    (s := { closedKept t r f with exc := e, csq := { t.csq with capture := some { c with scanAsked := true } } })
    planned pp apart released slow quiet
  rw [offered]
  refine congrArg Host.Outcome.next (offer_goesOn takes (goes.trans (askScan_begins capture starts)) ?_)
  rintro c' ⟨⟩
  rfl

theorem stats_begins {g : Program} (idle : t.fsu.scan = none)
    (goesOn : GoesOn { closedKept t r f with exc := e } c) (kind : c.kind = .shoot) (program : c.program = some g)
    (zoom : t.ldu.zoom.pp ≠ none) (focus : t.ldu.focus.pp ≠ none) (first : g.focusFirst = false) :
    exec (.stats f) s =
      .next
        { closedKept t r f with
            exc := e,
            csq := { t.csq with
              state := .waitBuffer,
              capture := some { c with pos := c.first, hand := none, frames := 0, refine := .none } },
            pbf := { t.pbf with request := true } } := by
  rw [offered]
  refine congrArg Host.Outcome.next (offer_goesOn takes
    ((goOnPreparing_picture goesOn kind program zoom focus first).trans
      (Exposures.beginPicture_eq (s := { closedKept t r f with exc := e }) capture _)) ?_)
  intro c' scan
  exact absurd (idle.symm.trans scan) nofun

end

/-! ## PREPARE (R142, R143) -/

section
variable {t : State} {tag : Nat}

theorem prepareFault_noTable {detail : Nat} (table : t.noTable = some detail) :
    t.prepareFault = some (.noTable, detail) := by
  simp only [State.prepareFault, table]

/-- The checks of a PREPARE with a table. -/
theorem prepareFault_valid (valid : t.otb.state = .valid) :
    t.prepareFault =
      if t.activeKind = .review then some (.contextKind, 2)
      else if t.csq.state ≠ .idle then some (.busy, 16 + csqStateCode t.csq.state)
      else if t.ldu.zoom.owner ≠ none then some (.busy, 0)
      else if t.ldu.focus.owner ≠ none then some (.busy, 1)
      else t.captureLensFault := by
  have table : t.noTable = none := by rw [State.noTable, valid]
  simp only [State.prepareFault, table, State.firstOwned, List.find?_cons, List.find?_nil, State.axis]
  cases t.ldu.zoom.owner <;> cases t.ldu.focus.owner <;> rfl

theorem captureLensFault_lost {a : Axis} (free : t.ldu.iris.owner = none) (lost : (t.axis a).pp = none)
    (before : ∀ b, axisCode b < axisCode a → (t.axis b).pp ≠ none) :
    t.captureLensFault = some (.unreferenced, axisCode a) := by
  have first : t.firstUnreferenced allAxes = some a :=
    LensRequests.find_allAxes (Option.isNone_iff_eq_none.mpr lost) fun b less =>
      by rw [← Bool.not_eq_true, Option.isNone_iff_eq_none]; exact before b less
  simp only [State.captureLensFault, free, first]
  rfl

theorem captureLensFault_clear (free : t.ldu.iris.owner = none) (known : ∀ a, (t.axis a).pp ≠ none) :
    t.captureLensFault = none := by
  have first : t.firstUnreferenced allAxes = none :=
    LensRequests.find_allAxes_none fun b =>
      by rw [← Bool.not_eq_true, Option.isNone_iff_eq_none]; exact known b
  simp only [State.captureLensFault, free, first]
  rfl

end

/-- Zoom and focus in a capture's hands. -/
def claimed (s : State) (kind : OpKind) : State :=
  { s with ldu := { s.ldu with zoom := { s.ldu.zoom with owner := some (.capture kind) },
                               focus := { s.ldu.focus with owner := some (.capture kind) } } }

/-- The state in PREPARING with its capture, the lock asked for and the window open. -/
def preparing (s : State) (c : Capture) (lock : Lock) : State :=
  let t : State :=
    { s with csq := { s.csq with state := .preparing, capture := some c }, exc := { s.exc with lock := lock } }
  { t with stu := windowed t true }

theorem requestLock_pending {s : State} (lock : s.exc.lock = .none) (x : s.exc.x = none) :
    s.requestLock = ({ s with exc := { s.exc with lock := .pending } }, false) := by
  unfold State.requestLock
  split
  · split
    · rename_i found
      exact absurd (x.symm.trans found) nofun
    · rfl
  · exact absurd lock (by assumption)

theorem requestLock_held {s : State} {x : Int} (lock : s.exc.lock = .none) (found : s.exc.x = some x) :
    s.requestLock = ({ s with exc := { s.exc with lock := .held x } }, true) := by
  unfold State.requestLock
  split
  · split
    · rename_i y present
      obtain rfl : x = y := Option.some.inj (found.symm.trans present)
      rfl
    · rename_i missing
      exact absurd (missing.symm.trans found) nofun
  · exact absurd lock (by assumption)

theorem startPreparing_pending {s : State} (lock : s.exc.lock = .none) (x : s.exc.x = none) (c : Capture) :
    s.startPreparing c = preparing s c .pending := by
  have asks := requestLock_pending
    (s := { s with csq := { s.csq with state := .preparing, capture := some c } }) lock x
  simp only [State.startPreparing, asks, setWindow_eq]
  rfl

theorem startPreparing_held {s : State} {x : Int} (lock : s.exc.lock = .none) (found : s.exc.x = some x)
    (c : Capture) : s.startPreparing c = preparing s c (.held x) := by
  have asks := requestLock_held
    (s := { s with csq := { s.csq with state := .preparing, capture := some c } }) lock found
  simp only [State.startPreparing, asks, setWindow_eq]
  rfl

/-- A preparation whose lock is pending waits. -/
theorem goOnPreparing_pending {s : State} {c : Capture} (capture : s.csq.capture = some c)
    (pending : s.exc.lock = .pending) : s.goOnPreparing = s := by
  have unlocked : s.xLocked = none := by simp only [State.xLocked, pending]
  simp only [State.goOnPreparing, capture, unlocked]
  exact if_neg fun goes => absurd goes.2.2.2 (by decide)

/-- The capture record of a PREPARE. -/
def prepareCapture (t : State) (tag : Nat) (plan : ScanPlan) : Capture :=
  { newCapture .prepare tag t.shutterKind with plan := some plan }

theorem prepareRequest_accepted {t : State} {tag : Nat} (clear : t.prepareFault = none) (room : t.hasRoom tag) :
    t.prepareRequest tag =
      State.goOnPreparing
        ((claimed (t.accepted tag .prepare .waiting (some (t.planScan t.fsu.live none none).planned))
            .prepare).startPreparing (prepareCapture t tag (t.planScan t.fsu.live none none))) := by
  simp only [State.prepareRequest, clear, State.accept_room room]
  rfl

/-- The state with the scan of a capture asked for, its focus energizing toward the start. -/
def scanAsked (m : State) (c : Capture) (user : ScanUser) (plan : ScanPlan) (time : Nat) : State :=
  { m with
      csq := { m.csq with capture := some { c with scanAsked := true } },
      ldu := { m.ldu with focus := { m.ldu.focus with
        target := some plan.start, state := .energizing, timer := some time } },
      fsu := { m.fsu with scan := some (newScan user plan) } }

/-- The state with the first picture of a capture begun. -/
def firstBegun (m : State) (c : Capture) : State :=
  { m with
      csq := { m.csq with
        state := .waitBuffer,
        capture := some { c with pos := c.first, hand := none, frames := 0, refine := .none } },
      pbf := { m.pbf with request := true } }

theorem exec_prepare {tag : Nat} {s t : State} (reaches : s.reaches (.prepare tag) tag t) :
    exec (.prepare tag) s = .next (t.prepareRequest tag) :=
  congrArg Host.Outcome.next (State.onRequest_reaches reaches _)

/-- An entry keeps its place when units begin. -/
theorem find_map_begins {f : OpEntry → OpEntry} (begins : BeginsUnit f) {l : List OpEntry} {tag : Nat} {e : OpEntry}
    (found : l.find? (fun x => x.tag == tag) = some e) : (l.map f).find? (fun x => x.tag == tag) = some (f e) := by
  have same : (fun x : OpEntry => x.tag == tag) ∘ f = fun x => x.tag == tag := by
    funext x
    rw [Function.comp_apply, (begins x).1]
  rw [List.find?_map, same, found]
  rfl

/-- What an accepted PREPARE of R142 and R143 leaves. -/
structure Prepared (t : State) (tag : Nat) (plan : ScanPlan) (u : State) : Prop where
  state : u.csq.state = .preparing
  capture : ∃ c, u.csq.capture = some c ∧ c.kind = .prepare ∧ c.tag = tag ∧ c.plan = some plan ∧ c.pictures = [] ∧
    c.failure = none
  zoom : u.ldu.zoom = { t.ldu.zoom with owner := some (.capture .prepare) }
  owner : u.ldu.focus.owner = some (.capture .prepare)
  pp : u.ldu.focus.pp = t.ldu.focus.pp
  iris : u.ldu.iris = t.ldu.iris
  d : u.ldu.d = t.ldu.d
  window : u.stu.window = true
  entry : ∃ e, u.entry tag = some e ∧ e.kind = .prepare ∧ e.done = 0 ∧ e.planned = some plan.planned
  x : u.exc.x = t.exc.x
  ring : u.exc.ring = t.exc.ring
  outbox : u.opt.outbox = t.opt.outbox
  lif : u.lif = { t.lif with replies := t.lif.replies ++ [{ tag := tag, body := .accepted .prepare }] }
  otb : u.otb = t.otb
  fmn : u.fmn = t.fmn
  pcs : u.pcs = t.pcs
  pbf : u.pbf = t.pbf
  csu : u.csu = t.csu

section
variable {t : State} {tag : Nat} (room : t.hasRoom tag) (lock : t.exc.lock = .none)
include room lock

/-- With no exposure result the lock is pending, and nothing else begins. -/
theorem prepareRequest_waits (clear : t.prepareFault = none) (x : t.exc.x = none) :
    ∃ u, t.prepareRequest tag = u ∧ Prepared t tag (t.planScan t.fsu.live none none) u ∧ u.exc.lock = .pending ∧
      u.fsu = t.fsu := by
  let plan := t.planScan t.fsu.live none none
  let w := t.accepted tag .prepare .waiting (some plan.planned)
  have entry : w.entry tag = some (newEntry tag .prepare .waiting (some plan.planned)) := accepted_entry room _ _ _
  have starts := startPreparing_pending (s := claimed w .prepare) lock x (prepareCapture t tag plan)
  have stays := goOnPreparing_pending (s := preparing (claimed w .prepare) (prepareCapture t tag plan) .pending) rfl rfl
  exact ⟨_, (prepareRequest_accepted clear room).trans ((congrArg State.goOnPreparing starts).trans stays),
    ⟨rfl, ⟨_, rfl, rfl, rfl, rfl, rfl, rfl⟩, rfl, rfl, rfl, rfl, rfl, windowed_window _ _, ⟨_, entry, rfl, rfl, rfl⟩,
      rfl, rfl, rfl, rfl, rfl, rfl, rfl, rfl, rfl⟩, rfl, rfl⟩

/-- With an exposure result the lock is held, and the scan begins. -/
theorem prepareRequest_scans (clear : t.prepareFault = none) {x : Int} (found : t.exc.x = some x) {p : Nat}
    (pp : t.ldu.focus.pp = some p) (idle : t.ldu.waitList = []) (homing : t.ldu.focus.homing = .none) :
    ∃ u, t.prepareRequest tag = u ∧ Prepared t tag (t.planScan t.fsu.live none none) u ∧ u.exc.lock = .held x ∧
      ∃ c, u.fsu.scan = some c ∧ c.user = .prepare ∧ c.plan = t.planScan t.fsu.live none none ∧ c.index = 0 := by
  let plan := t.planScan t.fsu.live none none
  let w := t.accepted tag .prepare .waiting (some plan.planned)
  let c := prepareCapture t tag plan
  let m := preparing (claimed w .prepare) c (.held x)
  let asked : State := { m with csq := { m.csq with capture := some { c with scanAsked := true } } }
  have entry : w.entry tag = some (newEntry tag .prepare .waiting (some plan.planned)) := accepted_entry room _ _ _
  have starts : (claimed w .prepare).startPreparing c = m := startPreparing_held (s := claimed w .prepare) lock found c
  have goes : m.goOnPreparing = m.askScan .prepare plan :=
    goOnPreparing_prepare (m := m) (c := c) ⟨rfl, rfl, rfl, rfl, rfl⟩ rfl rfl
  obtain ⟨u, begins, r, list, scan, f, rfl, owner, same, user, planned, index, units⟩ :=
    startScan_moved (s := asked) plan planned_prepare pp homing idle rfl
  have scans : m.askScan .prepare plan = _ := askScan_begins (c := c) rfl begins
  exact ⟨_, (prepareRequest_accepted clear room).trans ((congrArg State.goOnPreparing starts).trans (goes.trans scans)),
    ⟨rfl, ⟨_, rfl, rfl, rfl, rfl, rfl, rfl⟩, rfl, owner, same, rfl, rfl, windowed_window _ _,
      ⟨_, find_map_begins units entry, (units _).2.1, (units _).2.2.1, (units _).2.2.2⟩,
      rfl, rfl, rfl, rfl, rfl, rfl, rfl, rfl, rfl⟩, rfl, scan, rfl, user, planned, index⟩

end

/-- Settles O42: PREPARE by its checks and by whether an exposure result stands, the filing event through what EXC makes
of the offered record, RELEASE by CSQ's state. -/
theorem prepareAndRelease : Obligations.PrepareAndRelease := by
  unfold Obligations.PrepareAndRelease
  refine ⟨fun tag s t reaches => ?_, fun f s t r c taken found fresh closed idle state capture asked preempting pending
    noResult quiet released => ?_, fun tag s t reaches => ?_⟩
  · have refused {code : Code} {detail : Nat} (fault : t.prepareFault = some (code, detail)) :
        exec (.prepare tag) s = .next (t.reply tag (.refused code detail)) := by
      rw [exec_prepare reaches, State.prepareRequest, fault]
      rfl
    refine ⟨fun empty => refused (prepareFault_noTable (by rw [State.noTable, empty])),
      fun staged => refused (prepareFault_noTable (by rw [State.noTable, staged])),
      fun valid review => refused (by rw [prepareFault_valid valid, if_pos review]), fun valid other => ?_⟩
    have checks := prepareFault_valid valid
    rw [if_neg other] at checks
    refine ⟨fun busy => refused (by rw [checks, if_pos busy]), fun still => ?_⟩
    rw [if_neg (not_not.mpr still)] at checks
    refine ⟨fun owned => refused (by rw [checks, if_pos owned]),
      fun free owned => refused (by rw [checks, if_neg (not_not.mpr free), if_pos owned]), fun freeZoom freeFocus => ?_⟩
    rw [if_neg (not_not.mpr freeZoom), if_neg (not_not.mpr freeFocus)] at checks
    refine ⟨fun owned => refused ?_, fun free => ⟨fun a lost before => refused ?_,
      fun known room noWait homing lock => ?_⟩⟩
    · rw [checks, State.captureLensFault, if_pos (Option.isSome_iff_ne_none.mpr owned)]
    · rw [checks, captureLensFault_lost free lost before]
    · rw [captureLensFault_clear free known] at checks
      rw [exec_prepare reaches]
      cases found : t.exc.x with
      | none =>
        obtain ⟨u, asked, left, pending, fsu⟩ := prepareRequest_waits room lock checks found
        exact ⟨u, congrArg _ asked, left.state, left.capture, left.zoom, left.owner, left.pp, left.iris, left.d,
          left.window, left.entry, fun _ => ⟨pending, fsu⟩, nofun, left.x.trans found, left.ring, left.outbox, left.lif,
          left.otb, left.fmn, left.pcs, left.pbf, left.csu⟩
      | some x =>
        obtain ⟨p, pp⟩ := Option.ne_none_iff_exists'.mp (known .focus)
        obtain ⟨u, asked, left, held, scan⟩ := prepareRequest_scans room lock checks found pp noWait homing
        refine ⟨u, congrArg _ asked, left.state, left.capture, left.zoom, left.owner, left.pp, left.iris, left.d,
          left.window, left.entry, nofun, ?_, left.x.trans found, left.ring, left.outbox, left.lif, left.otb, left.fmn,
          left.pcs, left.pbf, left.csu⟩
        rintro y ⟨⟩
        exact ⟨held, scan⟩
  · have offered := stats_offered_closed taken found fresh closed
    obtain nothing | ⟨e, x, held, takes⟩ := excOffer_pending (k := closedKept t r f) (q := closedOf t r f) noResult pending
    · refine ⟨fun _ => ?_, fun x p held => ?_⟩
      · show exec (.stats f) s = .next ((closedKept t r f).excOffer (closedOf t r f)).1
        rw [nothing, offered]
        exact congrArg _ (offer_alone nothing idle fun locked => absurd locked Bool.false_ne_true)
      · have unlocked : ((closedKept t r f).excOffer (closedOf t r f)).1.exc.lock = .pending := by
          rw [nothing]
          exact pending
        exact Lock.noConfusion (unlocked.symm.trans held)
    · have metered : ((closedKept t r f).excOffer (closedOf t r f)).1 = { closedKept t r f with exc := e } := by rw [takes]
      have goesOn := goesOn_held (t := t) (r := r) (f := f) held state capture asked preempting
      refine ⟨fun unlocked => ?_, fun _ p _ pp => ?_⟩
      · have locked : ((closedKept t r f).excOffer (closedOf t r f)).1.exc.lock = .held x := by rw [takes]; exact held
        exact Lock.noConfusion (unlocked.symm.trans locked)
      have focus : t.ldu.focus.pp ≠ none := by rw [pp]; exact Option.some_ne_none p
      refine ⟨fun plan kind planned apart slow => ?_,
        fun g kind program known => ⟨fun first apart slow => ?_, fun first => ?_⟩⟩
      · refine (stats_scans offered takes capture planned_prepare (goOnPreparing_prepare goesOn kind planned) quiet
          released pp apart slow).trans ?_
        exact congrArg (fun m : State => Host.Outcome.next (scanAsked m c .prepare plan t.ldu.focus.setup.energize)) metered.symm
      · refine (stats_scans offered takes capture planned_focusFirst
          (goOnPreparing_focusFirst goesOn kind program known focus first) quiet
          released pp apart slow).trans ?_
        exact congrArg
          (fun m : State =>
            Host.Outcome.next
              (scanAsked m c .focusFirst (t.planScan t.fsu.live none none) t.ldu.focus.setup.energize)) metered.symm
      · refine (stats_begins offered takes capture idle goesOn kind program known focus first).trans ?_
        exact congrArg (fun m : State => Host.Outcome.next (firstBegun m c)) metered.symm
  · rw [exec_release reaches]
    refine ⟨fun idle => ?_, fun notIdle notReady => ?_, fun ready => ?_⟩
    · rw [State.releaseRequest, idle]
      rfl
    · rw [releaseRequest_busy notIdle notReady]
      rfl
    · have released : t.releaseRequest tag = t.csqIdle.done tag [] := by rw [State.releaseRequest, ready]
      refine ⟨_, congrArg _ (released.trans (congrArg (fun u : State => u.done tag []) (csqIdle_eq t))), rfl, rfl,
        windowed_window _ _, windowed_mode _ _, windowed_offset _ _, rfl, rfl, rfl, rfl, rfl, rfl, rfl, rfl, rfl⟩

end Sys2Proof.Proofs.Preparations
end

section
/-! PROOFS. A stop or preemption: the entry marked, the axes halted, a scan stopped (R10, R11, R21, R104). -/

namespace Sys2Proof.Proofs.Stops
open Sys2Proof Sys2Proof.Machine Sys2Proof.Proofs Sys2Proof.Proofs.CardFacts Sys2Proof.Proofs.Preparations

-- one declaration after another: each unfolds operations whose equations another would be waiting for
set_option Elab.async false

/-! ## The entry marked STOPPING (R10, R11) -/

/-- An entry marked STOPPING; one that stands so keeps its cause. -/
def markedEntry (tag : Nat) (cause : StopCause) (f : OpEntry) : OpEntry :=
  if f.tag = tag ∧ f.state ≠ .stopping then { f with state := .stopping, cause := some cause } else f

/-- The state with an entry marked STOPPING. -/
def marked (s : State) (tag : Nat) (cause : StopCause) : State :=
  { s with opt := { s.opt with table := s.opt.table.map (markedEntry tag cause) } }

theorem markStopping_eq (s : State) (tag : Nat) (cause : StopCause) : s.markStopping tag cause = marked s tag cause := by
  refine congrArg (fun l => { s with opt := { s.opt with table := l } }) (List.map_congr_left fun f _ => ?_)
  unfold markedEntry
  by_cases same : f.tag = tag <;> by_cases stopping : f.state = .stopping <;> simp [same, stopping]

theorem entry_marked {s : State} {tag : Nat} {e : OpEntry} (found : s.entry tag = some e) (runs : e.state ≠ .stopping)
    (cause : StopCause) : (marked s tag cause).entry tag = some { e with state := .stopping, cause := some cause } := by
  rw [← markStopping_eq, State.markStopping, entry_updateEntry found fun f => by split <;> rfl, if_neg runs]

theorem filter_marked (s : State) (tag : Nat) (cause : StopCause) :
    (marked s tag cause).opt.table.filter (fun f => f.tag != tag) = s.opt.table.filter fun f => f.tag != tag := by
  rw [← markStopping_eq]
  exact filter_updateEntry s tag fun f => by split <;> rfl

/-- An ending takes the entry whether or not it is marked before. -/
theorem ending_marked {s : State} {tag : Nat} {e : OpEntry} (found : s.entry tag = some e) (runs : e.state ≠ .stopping)
    (stop : StopCause) (cls : EndClass) (cause : Cause) (resume : Resume) (fields : EndFields) :
    (marked s tag stop).ending tag cls cause resume none fields =
      { s with opt :=
          { table := s.opt.table.filter fun f => f.tag != tag,
            outbox := s.opt.outbox ++
              [.ending { tag := tag, kind := e.kind, cls := cls, cause := cause, done := e.done, resume := resume,
                         result := none, fields := fields }] } } := by
  rw [ending_eq (entry_marked found runs stop), filter_marked]
  rfl

/-! ## Axes halted (R21) -/

/-- An axis HELD afresh, with no target. -/
def heldAfresh (r : AxisRec) : AxisRec :=
  { r with target := none, state := .held, homing := .none, after := .goOn,
           timer := if r.setup.hold = 0 then none else some r.setup.hold }

/-- An axis with its halt: at rest it stays, without a step it is HELD, and a step under way ends in settling. -/
def halted (r : AxisRec) : AxisRec :=
  match r.state with
  | .energizing => heldAfresh r
  | .awaitingSlot => heldAfresh r
  | .moving => { r with target := none, homing := .none, after := .settle }
  | .homing => { r with target := none, homing := if r.homing = .pending then .none else r.homing, after := .settle }
  | .released => r
  | .held => r
  | .settling => r

theorem halted_pp (r : AxisRec) : (halted r).pp = r.pp := by
  unfold halted
  split <;> rfl

/-- A halt of an axis; from the wait list it is taken. -/
theorem haltAxis_eq (s : State) (a : Axis) :
    s.haltAxis a =
      (if (s.axis a).state = .awaitingSlot then s.leaveWait a else s).setAxis a (halted (s.axis a)) := by
  unfold State.haltAxis halted
  dsimp only
  cases state : (s.axis a).state <;>
    simp only [reduceCtorEq, if_false, if_true, State.setAxis_axis] <;> rfl

/-- A halted axis, or one as it stands. -/
def haltedIf (c : Bool) (r : AxisRec) : AxisRec := if c then halted r else r

/-- The axes of a stopped operation are halted, and nothing else waits for a slot. -/
theorem haltAll_eq {s : State} {q : Axis → Bool}
    (waits : ∀ b ∈ s.ldu.waitList, q b = true ∧ (s.axis b).state = .awaitingSlot) :
    (allAxes.filter q).foldl (fun t a => t.haltAxis a) s =
      { s with ldu := { s.ldu with
          zoom := haltedIf (q .zoom) s.ldu.zoom, focus := haltedIf (q .focus) s.ldu.focus,
          iris := haltedIf (q .iris) s.ldu.iris, waitList := [] } } := by
  let keeps (a b : Axis) : Bool := !(q a && (s.axis a).state == .awaitingSlot && b == a)
  let stops (t : State) (a : Axis) : State :=
    State.setAxis { t with ldu := { t.ldu with waitList := t.ldu.waitList.filter (keeps a) } } a
      (haltedIf (q a) (s.axis a))
  have one (a : Axis) (t : State) (same : t.axis a = s.axis a) :
      (if q a then t.haltAxis a else t) = stops t a := by
    simp only [stops]
    cases named : q a with
    | false =>
      have all : t.ldu.waitList.filter (keeps a) = t.ldu.waitList :=
        List.filter_eq_self.mpr fun b _ => by simp only [keeps, named, Bool.false_and, Bool.not_false]
      rw [all]
      show t = t.setAxis a (s.axis a)
      rw [← same, State.setAxis_axis]
    | true =>
      rw [if_pos rfl, haltAxis_eq, same]
      split
      · rename_i waiting
        have left : keeps a = fun b => b != a := by
          funext b
          simp only [keeps, named, waiting, beq_self_eq_true, Bool.and_self, Bool.true_and]
          rfl
        rw [left]
        rfl
      · rename_i still
        have all : t.ldu.waitList.filter (keeps a) = t.ldu.waitList :=
          List.filter_eq_self.mpr fun b _ => by
            simp only [keeps, beq_false_of_ne still, Bool.and_false, Bool.false_and, Bool.not_false]
        rw [all]
        rfl
  have empty : ((s.ldu.waitList.filter (keeps .zoom)).filter (keeps .focus)).filter (keeps .iris) = [] := by
    rw [List.filter_filter, List.filter_filter, List.filter_eq_nil_iff]
    intro b member
    obtain ⟨named, waiting⟩ := waits b member
    cases b <;> simp [keeps, named, waiting]
  rw [List.foldl_filter]
  simp only [allAxes, List.foldl_cons, List.foldl_nil]
  have zoom := one .zoom s rfl
  have focus := one .focus (stops s .zoom) rfl
  have iris := one .iris (stops (stops s .zoom) .focus) rfl
  rw [zoom, focus, iris, ← empty]
  rfl

/-! ## A scan stopped (R104) -/

section
variable {s : State} {c : Scan} (scan : s.fsu.scan = some c)
include scan

/-- A scan whose first unit has begun carries its unit on. -/
theorem stopScan_begun (begun : c.begun = true) (cause : StopCause) :
    s.stopScan cause =
      ({ s with fsu := { s.fsu with scan := some { c with stop := some (c.stop.getD cause) } } }, .none) := by
  have kept : (match c.stop with | some x => some x | none => some cause) = some (c.stop.getD cause) := by
    cases c.stop <;> rfl
  rw [State.stopScan, scan]
  refine (if_pos begun).trans ?_
  exact congrArg (fun x => (s.setScan (some { c with stop := x }), FsuReport.none)) kept

/-- What the ENDING of a scan reports that has made no unit. -/
def unbegunFields (s : State) (c : Scan) : ScanFields :=
  { finalPP := s.ldu.focus.pp, start := c.plan.start, stop := c.plan.stop, clampFlag := c.plan.clampFlag,
    countFlag := c.plan.countFlag, best := c.best.map fun b => (b.pos, b.value), rise := c.rise, window := none,
    d := s.backD }

omit scan in
theorem backD_withFocus {r : AxisRec} (list : List Axis) (pp : r.pp = s.ldu.focus.pp) :
    (withFocus s r list).backD = s.backD := by
  show (match r.pp with
    | some p =>
      if s.lensGeometry then
        (backFocus (s.reading (·.fInf) s.zoomStep) (s.reading (·.fNear) s.zoomStep) p).getD s.ldu.d
      else s.ldu.d
    | none => s.ldu.d) = _
  rw [pp]
  rfl

/-- A scan before its first unit ends at once. -/
theorem stopScan_unbegun (begun : c.begun = false) (cause : StopCause)
    (waits : s.ldu.waitList = [] ∨ (s.ldu.waitList = [.focus] ∧ s.ldu.focus.state = .awaitingSlot)) :
    s.stopScan cause =
      ({ s with
          fsu := { s.fsu with scan := none },
          ldu := { s.ldu with focus := halted s.ldu.focus, waitList := [], d := s.backD } },
       .ended { user := c.user, cls := .suppressed, cause := stopCauseOf cause, result := none,
                fields := unbegunFields s c, next := none }) := by
  have halts : s.haltAxis .focus = withFocus s (halted s.ldu.focus) [] := by
    rw [haltAxis_eq]
    obtain idle | ⟨one, waiting⟩ := waits
    · split
      · rw [State.leaveWait, idle]
        rfl
      · rw [withFocus, ← idle]
        rfl
    · rw [if_pos (show (s.axis .focus).state = .awaitingSlot from waiting), State.leaveWait, one]
      rfl
  have stays : (withFocus s (halted s.ldu.focus) []).arbitrate = withFocus s (halted s.ldu.focus) [] :=
    State.arbitrate_nil _ rfl
  have back := backD_withFocus (s := s) [] (halted_pp s.ldu.focus)
  simp only [State.stopScan, scan, begun, Bool.false_eq_true, if_false, halts, stays, State.recomputeD, back]
  have pp := halted_pp s.ldu.focus
  unfold State.finishScan State.scanFields unbegunFields
  rw [show (withFocus s (halted s.ldu.focus) []).ldu.focus.pp = s.ldu.focus.pp from pp]
  rfl

end

/-- A SCAN that nothing waits for is told its scan's suppression: its entry ends and focus is free. -/
theorem release_focus (s : State) :
    s.release [.focus] = { s with ldu := { s.ldu with focus := { s.ldu.focus with owner := none } } } :=
  LensEndings.release_eq (s := s) (q := fun a => a == .focus) fun last => nomatch last

/-! ## A lens operation stopped (R31, R32, R35, R36) -/

/-- The axes the stop of a lens operation halts: of a ZOOM, focus only before the first slot. -/
def stoppedAxes (body : LensBody) (waiting : Bool) (a : Axis) : Bool :=
  match body with
  | .zoom _ _ _ _ _ => a == .zoom || (a == .focus && waiting)
  | body => LensEndings.claims body a

/-- The state with the axes of a lens operation halted. -/
def haltedOp (s : State) (q : Axis → Bool) (tag : Nat) (waiting : Bool) : State :=
  { s with ldu := { s.ldu with
      zoom := haltedIf (q .zoom) s.ldu.zoom, focus := haltedIf (q .focus) s.ldu.focus,
      iris := haltedIf (q .iris) s.ldu.iris, waitList := [],
      ops := s.ldu.ops.map fun p => if p.tag = tag then { p with waitStopped := waiting } else p } }

theorem axis_haltedOp (s : State) (q : Axis → Bool) (tag : Nat) (waiting : Bool) (a : Axis) :
    (haltedOp s q tag waiting).axis a = haltedIf (q a) (s.axis a) := by
  cases a <;> rfl

section
variable {s : State} {tag : Nat} {o : LensOp} (op : s.lensOp tag = some o)
include op

theorem lensOp_haltedOp (q : Axis → Bool) (waiting : Bool) :
    (haltedOp s q tag waiting).lensOp tag = some { o with waitStopped := waiting } := by
  have tagged : o.tag = tag := beq_iff_eq.mp (List.find?_some (p := fun f : LensOp => f.tag == tag) op)
  have same : (fun f : LensOp => f.tag == tag) ∘
      (fun p : LensOp => if p.tag = tag then { p with waitStopped := waiting } else p) = fun f => f.tag == tag := by
    funext f
    rw [Function.comp_apply]
    split <;> rfl
  have found : (s.ldu.ops.find? fun f : LensOp => f.tag == tag) = some o := op
  show ((s.ldu.ops.map _).find? fun f : LensOp => f.tag == tag) = _
  rw [List.find?_map, same, found, Option.map_some, if_pos tagged]

/-- A stop halts the axes of its operation; whether the operation ends with it is judged then. -/
theorem stopLensOp_eq (waiting : Bool)
    (waits : ∀ b ∈ s.ldu.waitList, stoppedAxes o.body waiting b = true ∧ (s.axis b).state = .awaitingSlot) :
    s.stopLensOp tag waiting = (haltedOp s (stoppedAxes o.body waiting) tag waiting).checkLensEnd tag := by
  have named : (match o.body with
      | .zoom _ _ _ _ _ => if waiting then [Axis.zoom, .focus] else [.zoom]
      | body => claimedAxes body) = allAxes.filter (stoppedAxes o.body waiting) := by
    cases o.body with
    | zoom start v follow clampFlag lost => cases waiting <;> rfl
    | _ => exact LensEndings.claimedAxes_eq _
  have halts := haltAll_eq (s := s.markWaitStopped tag waiting) (q := stoppedAxes o.body waiting) waits
  have stops : s.stopLensOp tag waiting =
      (((allAxes.filter (stoppedAxes o.body waiting)).foldl (fun t a => t.haltAxis a)
        (s.markWaitStopped tag waiting)).arbitrate).checkLensEnd tag := by
    rw [State.stopLensOp, op, ← named] <;> rfl
  rw [stops, halts, State.arbitrate_nil _ rfl]
  rfl

/-- An operation with a step under way on an axis that is halted ends after that step. -/
theorem stopLens_moving {a : Axis} (waiting : Bool)
    (waits : ∀ b ∈ s.ldu.waitList, stoppedAxes o.body waiting b = true ∧ (s.axis b).state = .awaitingSlot)
    (named : stoppedAxes o.body waiting a = true) (moves : (s.axis a).state = .moving ∨ (s.axis a).state = .homing) :
    s.stopLens tag waiting = haltedOp s (stoppedAxes o.body waiting) tag waiting := by
  have claimed : LensEndings.claims o.body a = true := by
    revert named
    unfold stoppedAxes
    cases o.body with
    | zoom start v follow clampFlag lost => cases a <;> simp [LensEndings.claims]
    | _ => exact id
  have unrested : ((haltedOp s (stoppedAxes o.body waiting) tag waiting).axis a).atRest = false := by
    rw [axis_haltedOp, haltedIf, if_pos named, halted]
    obtain state | state := moves <;> simp [state, AxisRec.atRest]
  have goesOn : ¬ ((claimedAxes o.body).all fun b =>
      ((haltedOp s (stoppedAxes o.body waiting) tag waiting).axis b).atRest) = true := by
    rw [List.all_eq_true, LensEndings.claimedAxes_eq]
    intro all
    have member : a ∈ allAxes.filter (LensEndings.claims o.body) :=
      List.mem_filter.mpr ⟨by cases a <;> decide, claimed⟩
    exact Bool.false_ne_true (unrested.symm.trans (all a member))
  have stays : (haltedOp s (stoppedAxes o.body waiting) tag waiting).checkLensEnd tag =
      haltedOp s (stoppedAxes o.body waiting) tag waiting := by
    rw [State.checkLensEnd, lensOp_haltedOp op]
    exact if_neg goesOn
  have kept := lensOp_haltedOp op (stoppedAxes o.body waiting) waiting
  simp only [State.stopLens, stopLensOp_eq op waiting waits, stays, kept, Option.isNone_some, Bool.false_eq_true,
    if_false]

end

/-! ## What a stop leaves for a capture that waits (R11) -/

/-- The lens is free: the capture that preempted takes it. -/
theorem lensFreed_takes {s : State} {c : Capture} {tag : Nat} (capture : s.csq.capture = some c)
    (preempting : c.preempting = some tag) (zoom : s.ldu.zoom.owner = none) (focus : s.ldu.focus.owner = none)
    (pending : s.exc.lock = .pending) :
    s.lensFreed tag =
      { claimed s c.kind with csq := { s.csq with capture := some { c with preempting := none } } } := by
  have free : s.unowned = [.zoom, .focus] := by
    simp only [State.unowned, List.filter_cons, List.filter_nil, State.axis, zoom, focus, beq_self_eq_true, if_true]
  have taken : s.claim s.unowned (.capture c.kind) = claimed s c.kind := by rw [free]; rfl
  have alone : (claimed s c.kind).lensOwner = none := rfl
  have asked : ((claimed s c.kind).onCapture fun d => { d with preempting := none }) =
      { claimed s c.kind with csq := { s.csq with capture := some { c with preempting := none } } } :=
    CaptureFacts.onCapture_eq (s := claimed s c.kind) capture _
  rw [State.lensFreed, capture]
  refine (if_pos preempting).trans ?_
  rw [taken]
  simp only [alone, asked]
  exact goOnPreparing_pending (c := { c with preempting := none }) rfl pending

end Sys2Proof.Proofs.Stops
end

section
/-! PROOFS. SHOOT: its checks, and what it begins from READY, from IDLE, and over a SCAN or ZOOM in its way (R11, R131,
R145 to R147). -/

namespace Sys2Proof.Proofs.Shoots
open Sys2Proof Sys2Proof.Machine Sys2Proof.Proofs Sys2Proof.Proofs.CardFacts Sys2Proof.Proofs.Preparations
open Sys2Proof.Proofs.ScanStarts Sys2Proof.Proofs.Stops

-- one declaration after another: each unfolds operations whose equations another would be waiting for
set_option Elab.async false

/-! ## The checks (R131, R145) -/

section
variable {t : State} {tag index : Nat} {count : Option Nat}

theorem shootRequest_noTable {detail : Nat} (table : t.noTable = some detail) :
    t.shootRequest tag index count = t.refuse tag .noTable detail := by
  simp only [State.shootRequest, table]

variable (valid : t.otb.state = .valid)
include valid

theorem shootRequest_program {code : Code} {detail : Nat} (refused : t.shootProgram index = .inl (code, detail)) :
    t.shootRequest tag index count = t.refuse tag code detail := by
  have table : t.noTable = none := by rw [State.noTable, valid]
  simp only [State.shootRequest, table, refused]

variable {p : Program} (program : t.shootProgram index = .inr p)
include program

theorem shootRequest_fault {code : Code} {detail : Nat} (fault : t.shootFault p count = some (code, detail)) :
    t.shootRequest tag index count = t.refuse tag code detail := by
  have table : t.noTable = none := by rw [State.noTable, valid]
  simp only [State.shootRequest, table, program, fault]

theorem shootRequest_accepted (clear : t.shootFault p count = none) (room : t.hasRoom tag) :
    t.shootRequest tag index count =
      (t.accepted tag .shoot .waiting (some (count.getD p.count))).beginShoot tag index p (count.getD p.count) := by
  have table : t.noTable = none := by rw [State.noTable, valid]
  simp only [State.shootRequest, table, program, clear, State.accept_room room]

end

section
variable {t : State} {index : Nat}

theorem shootProgram_range (beyond : t.pcs.limit ≤ index) : t.shootProgram index = .inl (.range, index) :=
  if_pos beyond

theorem shootProgram_absent (within : index < t.pcs.limit) (absent : t.pcs.programs[index]? = some none) :
    t.shootProgram index = .inl (.absent, index) := by
  simp only [State.shootProgram, if_neg (Nat.not_le.mpr within), List.getD_eq_getElem?_getD, absent, Option.getD_some]

theorem shootProgram_found {p : Program} (within : index < t.pcs.limit)
    (found : t.pcs.programs[index]? = some (some p)) :
    t.shootProgram index =
      if p.mask.testBit (contextKindCode t.activeKind) then .inr p
      else .inl (.contextKind, contextKindCode t.activeKind) := by
  simp only [State.shootProgram, if_neg (Nat.not_le.mpr within), List.getD_eq_getElem?_getD, found, Option.getD_some]

end

theorem shootable_refuses {o : Owner} {kind : OpKind} {tag : Nat} (owner : o = .op kind tag) (scan : kind ≠ .scan)
    (zoom : kind ≠ .zoom) : shootable (some o) = false := by
  subst owner
  simp only [shootable, beq_false_of_ne scan, beq_false_of_ne zoom, Bool.or_self]

theorem shootable_op {o : Option Owner} (other : ∀ tag kind, o = some (.op kind tag) → kind = .scan ∨ kind = .zoom) :
    shootable o = true := by
  cases o with
  | none => rfl
  | some o =>
    cases o with
    | capture kind => rfl
    | op kind tag => obtain rfl | rfl := other tag kind rfl <;> rfl

section
variable {t : State} {p : Program} {count : Option Nat}

theorem shootFault_count {n : Nat} (given : count = some n) (bad : n < 1 ∨ p.count < n) :
    t.shootFault p count = some (.field, 1) := by
  subst given
  exact if_pos (decide_eq_true bad)

variable (good : ∀ n, count = some n → 1 ≤ n ∧ n ≤ p.count)
include good

/-- With a good count a SHOOT is judged by CSQ and the lens. -/
theorem shootFault_good :
    t.shootFault p count =
      if t.csq.state ≠ .idle ∧ t.csq.state ≠ .ready then some (.busy, 16 + csqStateCode t.csq.state)
      else if shootable t.ldu.zoom.owner = false then some (.busy, 0)
      else if shootable t.ldu.focus.owner = false then some (.busy, 1)
      else t.captureLensFault := by
  unfold State.shootFault
  refine if_neg ?_
  cases count with
  | none => exact Bool.false_ne_true
  | some n =>
    obtain ⟨low, high⟩ := good n rfl
    have allowed : ¬ (n < 1 ∨ p.count < n) := by omega
    simpa using allowed

variable (ready : t.csq.state = .idle ∨ t.csq.state = .ready)
include ready

theorem shootFault_lens :
    t.shootFault p count =
      if shootable t.ldu.zoom.owner = false then some (.busy, 0)
      else if shootable t.ldu.focus.owner = false then some (.busy, 1)
      else t.captureLensFault := by
  rw [shootFault_good good, if_neg]
  rintro ⟨notIdle, notReady⟩
  exact ready.elim notIdle notReady

theorem shootFault_clear (zoom : shootable t.ldu.zoom.owner = true) (focus : shootable t.ldu.focus.owner = true)
    (free : t.ldu.iris.owner = none) (known : ∀ a, (t.axis a).pp ≠ none) : t.shootFault p count = none := by
  rw [shootFault_lens good ready, zoom, focus, captureLensFault_clear free known]
  rfl

end

theorem exec_shoot {tag index : Nat} {count : Option Nat} {s t : State}
    (reaches : s.reaches (.shoot tag index count) tag t) :
    exec (.shoot tag index count) s = .next (t.shootRequest tag index count) :=
  congrArg Host.Outcome.next (State.onRequest_reaches reaches _)

/-! ## What an accepted SHOOT begins (R146, R147) -/

/-- The capture record of a SHOOT (R141). -/
def shooting (t : State) (tag index : Nat) (p : Program) (units : Nat) (own : Bool) : Capture :=
  { kind := .shoot, tag := tag, program := some p, programIndex := index, first := p.count - units,
    last := p.count - 1, pos := p.count - units,
    shutter := if t.activeKind = .movie then .electronic else .mechanical, ownPreparation := own,
    plan := none, scanAsked := false, scanEnd := none, preempting := none, hand := none, pictures := [],
    failure := none, frames := 0, refine := .none }

section
variable {w : State} {tag index units : Nat} {p : Program}

/-- From READY the first picture begins at once. -/
theorem beginShoot_ready (ready : w.csq.state = .ready) :
    w.beginShoot tag index p units =
      { claimed w .shoot with
          csq := { w.csq with state := .waitBuffer, capture := some (shooting w tag index p units false) },
          pbf := { w.pbf with request := true } } := by
  rw [State.beginShoot, if_pos ready]
  exact Exposures.beginPicture_eq
    (s := claimed { w with csq := { w.csq with capture := some (shooting w tag index p units false) } } .shoot) rfl _

theorem beginShoot_idle (idle : w.csq.state = .idle) :
    w.beginShoot tag index p units = w.shootFromIdle (shooting w tag index p units true) := by
  rw [State.beginShoot, if_neg (by rw [idle]; decide)]
  rfl

variable (idle : w.csq.state = .idle)
include idle

/-- From IDLE with nothing in its way the SHOOT prepares. -/
theorem beginShoot_free (zoom : w.ldu.zoom.owner = none) (focus : w.ldu.focus.owner = none) :
    w.beginShoot tag index p units =
      ((claimed w .shoot).startPreparing (shooting w tag index p units true)).goOnPreparing := by
  have alone : w.lensOwner = none := by simp only [State.lensOwner, zoom, focus]
  rw [beginShoot_idle idle, State.shootFromIdle, alone]
  rfl

/-- From IDLE with a SCAN or ZOOM in its way the SHOOT prepares and preempts it. -/
theorem beginShoot_preempts {v : Nat} {e : OpEntry} (owner : w.lensOwner = some v) (lock : w.exc.lock = .none)
    (x : w.exc.x = none) (found : w.entry v = some e) (runs : e.state ≠ .stopping) :
    w.beginShoot tag index p units =
      (marked (preparing w { shooting w tag index p units true with preempting := some v } .pending) v
        .preempted).ownerStop e .preempted := by
  have tagged : e.tag = v := beq_iff_eq.mp (List.find?_some (p := fun f : OpEntry => f.tag == v) found)
  have begun : w.shootFromIdle (shooting w tag index p units true) =
      (preparing w { shooting w tag index p units true with preempting := some v } .pending).preempt v := by
    rw [State.shootFromIdle, owner]
    exact congrArg (fun u : State => u.preempt v) (startPreparing_pending lock x _)
  have found' : (preparing w { shooting w tag index p units true with preempting := some v } .pending).entry v =
    some e := found
  rw [beginShoot_idle idle, begun, State.preempt, found']
  show State.stopEntry _ e .preempted = _
  rw [State.stopEntry, if_neg runs, tagged, markStopping_eq]

end

/-! ## A SCAN or ZOOM preempted (R11) -/

section
variable {s : State} {v : Nat} {e : OpEntry}

/-- A preempted SCAN whose first unit has begun carries its unit on. -/
theorem ownerStop_scan_begun {c : Scan} (kind : e.kind = .scan) (scan : s.fsu.scan = some c) (begun : c.begun = true) :
    s.ownerStop e .preempted =
      { s with fsu := { s.fsu with scan := some { c with stop := some (c.stop.getD .preempted) } } } := by
  simp only [State.ownerStop, kind, stopScan_begun scan begun]
  rfl

/-- What is left of a SCAN suppressed before its first unit. -/
def suppressedScan (s : State) (e : OpEntry) (c : Scan) (cause : Cause) : State :=
  { s with
      fsu := { s.fsu with scan := none },
      ldu := { s.ldu with focus := { halted s.ldu.focus with owner := none }, waitList := [], d := s.backD },
      opt := { table := s.opt.table.filter fun f => f.tag != e.tag,
               outbox := s.opt.outbox ++
                 [.ending { tag := e.tag, kind := e.kind, cls := .suppressed, cause := cause, done := e.done,
                            resume := .absent, result := none, fields := .scan (unbegunFields s c) }] } }

/-- A stopped SCAN before its first unit ends SUPPRESSED, and focus is free. -/
theorem ownerStop_scan_unbegun {c : Scan} {ops : ScanOperands} (kind : e.kind = .scan) (found : s.entry e.tag = some e)
    (runs : e.state ≠ .stopping) (scan : s.fsu.scan = some c) (user : c.user = .scan e.tag ops)
    (begun : c.begun = false) (cause : StopCause)
    (waits : s.ldu.waitList = [] ∨ (s.ldu.waitList = [.focus] ∧ s.ldu.focus.state = .awaitingSlot)) :
    (marked s e.tag cause).ownerStop e cause =
      (suppressedScan s e c (stopCauseOf cause)).lensFreed e.tag := by
  have stops := stopScan_unbegun (s := marked s e.tag cause) scan begun cause waits
  have ends := ending_marked
    (s := { s with
      fsu := { s.fsu with scan := none },
      ldu := { s.ldu with focus := halted s.ldu.focus, waitList := [], d := s.backD } })
    found runs cause .suppressed (stopCauseOf cause) .absent (.scan (unbegunFields s c))
  simp only [State.ownerStop, kind, stops, State.deliver, user]
  refine congrArg (fun u : State => (u.release [.focus]).lensFreed e.tag) ends |>.trans ?_
  rw [release_focus]
  rfl

end

/-- The state of a SHOOT that preempts. -/
def preemptBegun (w : State) (c : Capture) (v : Nat) : State := preparing w { c with preempting := some v } .pending

/-- A MOVING axis halted ends its step in settling. -/
theorem halted_moving {r : AxisRec} (moving : r.state = .moving) :
    halted r = { r with target := none, homing := .none, after := .settle } := by
  simp only [halted, moving]

/-- What a preempting SHOOT leaves, told by what it changes. -/
def Preempts (w : State) (c : Capture) (waiting : Option Nat) (table : List OpEntry) (outbox : List Notice) (fsu : Fsu)
    (ldu : Ldu) (u : State) : Prop :=
  u.csq = { w.csq with state := .preparing, capture := some { c with preempting := waiting } } ∧
    u.opt = { w.opt with table := table, outbox := outbox } ∧ u.fsu = fsu ∧ u.ldu = ldu ∧
    u.exc = { w.exc with lock := .pending } ∧ u.stu.window = true ∧ u.lif = w.lif ∧
    u.otb = w.otb ∧ u.fmn = w.fmn ∧ u.pcs = w.pcs ∧ u.pbf = w.pbf ∧ u.csu = w.csu

section
variable {w : State} {c : Capture} {v : Nat} {e : OpEntry} (tagged : e.tag = v) (found : w.entry v = some e)
  (runs : e.state ≠ .stopping)
theorem preempts_scan_begun {x : Scan} (kind : e.kind = .scan) (scan : w.fsu.scan = some x) (begun : x.begun = true) :
    Preempts w c (some v) (w.opt.table.map (markedEntry v .preempted)) w.opt.outbox
      { w.fsu with scan := some { x with stop := some (x.stop.getD .preempted) } } w.ldu
      ((marked (preemptBegun w c v) v .preempted).ownerStop e .preempted) := by
  rw [ownerStop_scan_begun (s := marked (preemptBegun w c v) v .preempted) kind scan begun]
  exact ⟨rfl, rfl, rfl, rfl, rfl, windowed_window _ _, rfl, rfl, rfl, rfl, rfl, rfl⟩

include tagged found runs in
theorem preempts_scan_unbegun {x : Scan} {ops : ScanOperands} (kind : e.kind = .scan)
    (shoot : c.kind = .shoot) (scan : w.fsu.scan = some x) (user : x.user = .scan v ops) (begun : x.begun = false)
    (idle : w.ldu.waitList = []) (moving : w.ldu.focus.state = .moving) (zoom : w.ldu.zoom.owner = none) :
    Preempts w c none (w.opt.table.filter fun f => f.tag != v)
      (w.opt.outbox ++
        [.ending { tag := v, kind := .scan, cls := .suppressed, cause := .preempted, done := e.done, resume := .absent,
                   result := none, fields := .scan (unbegunFields w x) }])
      { w.fsu with scan := none }
      { (claimed w .shoot).ldu with
          d := w.backD,
          focus := { (claimed w .shoot).ldu.focus with target := none, homing := .none, after := .settle } }
      ((marked (preemptBegun w c v) v .preempted).ownerStop e .preempted) := by
  subst tagged
  rw [ownerStop_scan_unbegun (s := preemptBegun w c e.tag) kind found runs scan user begun .preempted (.inl idle)]
  have takes := lensFreed_takes (s := suppressedScan (preemptBegun w c e.tag) e x (stopCauseOf .preempted))
    (c := { c with preempting := some e.tag }) rfl rfl zoom rfl rfl
  rw [takes]
  refine ⟨rfl, ?_, rfl, ?_, rfl, windowed_window _ _, rfl, rfl, rfl, rfl, rfl, rfl⟩
  · rw [← kind]
    rfl
  · show { w.ldu with
        zoom := { w.ldu.zoom with owner := some (.capture c.kind) },
        focus := { halted w.ldu.focus with owner := some (.capture c.kind) }, waitList := [], d := w.backD } = _
    rw [halted_moving moving, shoot, ← idle]
    rfl

include tagged in
theorem preempts_zoom {o : LensOp} {start target follow : Nat} {clampFlag : Bool} {lost : Option Axis}
    (kind : e.kind = .zoom) (running : e.state = .running) (op : w.lensOp v = some o)
    (body : o.body = .zoom start target follow clampFlag lost) (moving : w.ldu.zoom.state = .moving)
    (idle : w.ldu.waitList = []) :
    Preempts w c (some v) (w.opt.table.map (markedEntry v .preempted)) w.opt.outbox w.fsu
      { w.ldu with
          zoom := { w.ldu.zoom with target := none, homing := .none, after := .settle },
          ops := w.ldu.ops.map fun p => if p.tag = v then { p with waitStopped := false } else p }
      ((marked (preemptBegun w c v) v .preempted).ownerStop e .preempted) := by
  subst tagged
  have stopped (a : Axis) : stoppedAxes o.body false a = (a == .zoom) := by
    simp only [stoppedAxes, body, Bool.and_false, Bool.or_false]
  have stops := stopLens_moving (s := marked (preemptBegun w c e.tag) e.tag .preempted) (a := .zoom) op false
    (fun b member => absurd (idle ▸ member) (List.not_mem_nil)) (stopped .zoom) (.inl moving)
  have owner : (marked (preemptBegun w c e.tag) e.tag .preempted).ownerStop e .preempted =
      haltedOp (marked (preemptBegun w c e.tag) e.tag .preempted) (stoppedAxes o.body false) e.tag false := by
    rw [← stops]
    simp only [State.ownerStop, kind, running]
    rfl
  rw [owner]
  refine ⟨rfl, rfl, rfl, ?_, rfl, windowed_window _ _, rfl, rfl, rfl, rfl, rfl, rfl⟩
  show { w.ldu with
      zoom := haltedIf (stoppedAxes o.body false .zoom) w.ldu.zoom,
      focus := haltedIf (stoppedAxes o.body false .focus) w.ldu.focus,
      iris := haltedIf (stoppedAxes o.body false .iris) w.ldu.iris, waitList := [],
      ops := w.ldu.ops.map fun p : LensOp => if p.tag = e.tag then { p with waitStopped := false } else p } = _
  have zoom : haltedIf (stoppedAxes o.body false .zoom) w.ldu.zoom =
      { w.ldu.zoom with target := none, homing := .none, after := .settle } := by
    rw [stopped]
    exact halted_moving moving
  rw [zoom, stopped, stopped, ← idle]
  rfl

end

/-! ## The obligation -/

/-- An entry stands beside one that has been accepted. -/
theorem accepted_entry_other {t : State} {tag v : Nat} {e : OpEntry} (found : t.entry v = some e) (kind : OpKind)
    (state : OpState) (planned : Option Nat) : (t.accepted tag kind state planned).entry v = some e := by
  have before : t.opt.table.find? (fun e => e.tag == v) = some e := found
  rw [State.entry, State.accepted_table, List.find?_append, before]
  rfl

/-- The first picture begun in PREPARING. -/
theorem goOnPreparing_begins {s : State} {c : Capture} {g : Program} {x : Int} (kind : c.kind = .shoot)
    (program : c.program = some g) (asked : c.scanAsked = false) (preempting : c.preempting = none)
    (zoom : s.ldu.zoom.pp ≠ none) (focus : s.ldu.focus.pp ≠ none) (first : g.focusFirst = false) :
    (preparing s c (.held x)).goOnPreparing =
      { preparing s c (.held x) with
          csq := { s.csq with
            state := .waitBuffer,
            capture := some { c with pos := c.first, hand := none, frames := 0, refine := .none } },
          pbf := { s.pbf with request := true } } := by
  rw [goOnPreparing_picture (m := preparing s c (.held x)) (c := c) ⟨rfl, rfl, asked, preempting, rfl⟩ kind program zoom
    focus first]
  exact Exposures.beginPicture_eq (s := preparing s c (.held x)) rfl _

theorem lensOwner_focus {s : State} {kind : OpKind} {v : Nat} (zoom : s.ldu.zoom.owner = none)
    (focus : s.ldu.focus.owner = some (.op kind v)) : s.lensOwner = some v := by
  simp only [State.lensOwner, zoom, focus]

theorem lensOwner_zoom {s : State} {kind : OpKind} {v : Nat} (zoom : s.ldu.zoom.owner = some (.op kind v)) :
    s.lensOwner = some v := by
  simp only [State.lensOwner, zoom]

/-- Settles O43, by the order of the checks and by what stands in the SHOOT's way. -/
theorem shootBegins : Obligations.ShootBegins := by
  unfold Obligations.ShootBegins
  intro tag index count s t reaches
  have asked := exec_shoot reaches
  refine ⟨fun empty => ?_, fun staged => ?_, fun valid beyond => ?_, fun valid within absent => ?_,
    fun p valid within found => ?_⟩
  · rw [asked, shootRequest_noTable (by rw [State.noTable, empty])]
    rfl
  · rw [asked, shootRequest_noTable (by rw [State.noTable, staged])]
    rfl
  · rw [asked, shootRequest_program valid (shootProgram_range beyond)]
    rfl
  · rw [asked, shootRequest_program valid (shootProgram_absent within absent)]
    rfl
  have named := shootProgram_found within found
  refine ⟨fun masked => ?_, fun allowed => ?_⟩
  · rw [asked, shootRequest_program valid (by rw [named, if_neg (by rw [masked]; exact Bool.false_ne_true)])]
    rfl
  rw [if_pos allowed] at named
  have refused {code : Code} {detail : Nat} (fault : t.shootFault p count = some (code, detail)) :
      exec (.shoot tag index count) s = .next (t.reply tag (.refused code detail)) := by
    rw [asked, shootRequest_fault valid named fault]
    rfl
  refine ⟨fun n given bad => refused (shootFault_count given bad), fun good => ⟨fun notIdle notReady =>
    refused (by rw [shootFault_good good, if_pos ⟨notIdle, notReady⟩]), fun ready => ?_⟩⟩
  have lens := shootFault_lens (t := t) good ready
  refine ⟨fun tag' kind owner scan zoom => refused ?_, fun zoomFree tag' kind owner scan zoom => refused ?_,
    fun zoom focus owned => refused ?_, fun zoom focus free a lost before => refused ?_, fun known free room => ?_⟩
  · rw [lens, owner, if_pos (shootable_refuses rfl scan zoom)]
  · rw [lens, shootable_op zoomFree, owner, shootable_refuses rfl scan zoom]
    rfl
  · rw [lens, zoom, focus, State.captureLensFault, if_pos (Option.isSome_iff_ne_none.mpr owned)]
    rfl
  · rw [lens, zoom, focus, captureLensFault_lost free lost before]
    rfl
  let units := count.getD p.count
  let w := t.accepted tag .shoot .waiting (some units)
  have begins (zoom : shootable t.ldu.zoom.owner = true) (focus : shootable t.ldu.focus.owner = true) :
      exec (.shoot tag index count) s = .next (w.beginShoot tag index p units) := by
    rw [asked, shootRequest_accepted valid named (shootFault_clear good ready zoom focus free known) room]
  refine ⟨fun isReady zoom focus => ?_, fun isIdle zoom focus lock x => ?_, fun x isIdle zoom focus lock result =>
    ⟨fun first => ?_, fun first noWait released slow apart => ?_⟩, fun v e isIdle lock x entry runs =>
    ⟨fun c ops kind zoom focus scan user => ⟨fun begun => ?_, fun begun noWait moving => ?_⟩,
     fun o start target follow clampFlag lost kind running zoom focus op body moving noWait => ?_⟩⟩
  · rw [begins (by rw [zoom]; rfl) (by rw [focus]; rfl), beginShoot_ready (w := w) isReady]
    rfl
  · have waits := beginShoot_free (w := w) (tag := tag) (index := index) (units := units) (p := p) isIdle zoom focus
    have starts := startPreparing_pending (s := claimed w .shoot) lock x (shooting w tag index p units true)
    have stays := goOnPreparing_pending
      (s := preparing (claimed w .shoot) (shooting w tag index p units true) .pending) rfl rfl
    exact ⟨_, (begins (by rw [zoom]; rfl) (by rw [focus]; rfl)).trans
      (congrArg _ (waits.trans ((congrArg State.goOnPreparing starts).trans stays))),
      rfl, rfl, rfl, windowed_window _ _, rfl, rfl, rfl, rfl, rfl, rfl, rfl, rfl⟩
  · have goes := beginShoot_free (w := w) (tag := tag) (index := index) (units := units) (p := p) isIdle zoom focus
    have starts := startPreparing_held (s := claimed w .shoot) lock result (shooting w tag index p units true)
    have picture := goOnPreparing_begins (s := claimed w .shoot) (c := shooting w tag index p units true) (g := p) (x := x)
      rfl rfl rfl rfl (known .zoom) (known .focus) first
    exact ⟨_, (begins (by rw [zoom]; rfl) (by rw [focus]; rfl)).trans
      (congrArg _ (goes.trans ((congrArg State.goOnPreparing starts).trans picture))),
      rfl, rfl, rfl, rfl, rfl, windowed_window _ _, rfl, rfl, rfl, rfl, rfl, rfl⟩
  · let c := shooting w tag index p units true
    let m := preparing (claimed w .shoot) c (.held x)
    obtain ⟨q, pp⟩ := Option.ne_none_iff_exists'.mp (known .focus)
    have goes := beginShoot_free (w := w) (tag := tag) (index := index) (units := units) (p := p) isIdle zoom focus
    have starts := startPreparing_held (s := claimed w .shoot) lock result c
    have scan := goOnPreparing_focusFirst (m := m) (c := c) ⟨rfl, rfl, rfl, rfl, rfl⟩ rfl rfl (known .zoom)
      (known .focus) first
    have travels := askScan_begins (m := m) (c := c) rfl
      (startScan_energizes (s := { m with csq := { m.csq with capture := some { c with scanAsked := true } } })
        planned_focusFirst pp (fun same => apart (pp.trans (congrArg some same))) released slow noWait)
    exact ⟨_, (begins (by rw [zoom]; rfl) (by rw [focus]; rfl)).trans
      (congrArg _ (goes.trans ((congrArg State.goOnPreparing starts).trans (scan.trans travels)))),
      rfl, rfl, rfl, rfl, rfl, windowed_window _ _, rfl, rfl, rfl, rfl, rfl, rfl⟩
  · have owner : w.lensOwner = some v := lensOwner_focus (s := w) zoom focus
    have preempts := beginShoot_preempts (w := w) (tag := tag) (index := index) (units := units) (p := p) isIdle owner lock
      x (accepted_entry_other entry _ _ _) runs
    exact ⟨_, (begins (by rw [zoom]; rfl) (by rw [focus]; rfl)).trans (congrArg _ preempts),
      preempts_scan_begun (w := w) kind scan begun⟩
  · have owner : w.lensOwner = some v := lensOwner_focus (s := w) zoom focus
    have preempts := beginShoot_preempts (w := w) (tag := tag) (index := index) (units := units) (p := p) isIdle owner lock
      x (accepted_entry_other entry _ _ _) runs
    have tagged : e.tag = v := beq_iff_eq.mp (List.find?_some (p := fun f : OpEntry => f.tag == v) entry)
    exact ⟨_, (begins (by rw [zoom]; rfl) (by rw [focus]; rfl)).trans (congrArg _ preempts),
      preempts_scan_unbegun (w := w) tagged (accepted_entry_other entry _ _ _) runs kind rfl scan user begun noWait moving
        zoom⟩
  · have owner : w.lensOwner = some v := lensOwner_zoom (s := w) zoom
    have preempts := beginShoot_preempts (w := w) (tag := tag) (index := index) (units := units) (p := p) isIdle owner lock
      x (accepted_entry_other entry _ _ _) runs
    have tagged : e.tag = v := beq_iff_eq.mp (List.find?_some (p := fun f : OpEntry => f.tag == v) entry)
    exact ⟨_, (begins (by rw [zoom]; rfl) (by rw [focus]; rfl)).trans (congrArg _ preempts),
      preempts_zoom (w := w) tagged kind running op body moving noWait⟩

end Sys2Proof.Proofs.Shoots
end

section
/-! PROOFS. The settings exchange of a context operation and the event after it (R51, R89, R126, R135 to R138). -/

namespace Sys2Proof.Proofs.Exchanges
open Sys2Proof Sys2Proof.Machine Sys2Proof.Proofs Sys2Proof.Proofs.CardFacts Sys2Proof.Proofs.Zooming
open Sys2Proof.Proofs.Steadying

-- one declaration after another: each unfolds operations whose equations another would be waiting for
set_option Elab.async false

/-! ## The checks (R135) -/

section
variable {t : State} {i : Nat}

theorem contextFault_noTable {detail : Nat} (table : t.noTable = some detail) :
    t.contextFault i = some (.noTable, detail) := by
  simp only [State.contextFault, table]

variable (valid : t.otb.state = .valid)
include valid

theorem contextFault_range (beyond : 3 < i) : t.contextFault i = some (.range, i) := by
  have table : t.noTable = none := by rw [State.noTable, valid]
  simp only [State.contextFault, table, if_pos beyond]

variable (within : i ≤ 3)
include within

theorem contextFault_status :
    ((t.slot i).status = .empty → t.contextFault i = some (.absent, i)) ∧
    ((t.slot i).status = .active → t.contextFault i = some (.contextBusy, 2)) ∧
    ((t.slot i).status = .nested → t.contextFault i = some (.contextBusy, 3)) ∧
    ((t.slot i).status = .available → t.contextFault i = t.contextLensFault) := by
  have table : t.noTable = none := by rw [State.noTable, valid]
  have allowed : ¬ 3 < i := Nat.not_lt.mpr within
  refine ⟨fun status => ?_, fun status => ?_, fun status => ?_, fun status => ?_⟩ <;>
    simp only [State.contextFault, table, if_neg allowed, status]

end

/-- The refusal of a context operation: a LEAVE with a back link looks at the table and the lens alone. -/
def exchangeFault (t : State) (kind : OpKind) (i : Nat) : Option (Code × Nat) :=
  if kind = .leave then t.zoomFault else t.contextFault i

/-- A context operation to slot `i`: a LEAVE to the slot its back link names. -/
def AsksExchange (t : State) (tag i : Nat) (kind : OpKind) (c : Instr) : Prop :=
  (kind = .switch ∧ c = .switch tag i) ∨ (kind = .enter ∧ c = .enter tag i) ∨
    (kind = .leave ∧ c = .leave tag ∧ t.activeSlot.link = some i)

theorem leaveTarget_linked {t : State} {i : Nat} (link : t.activeSlot.link = some i) :
    t.leaveTarget = match t.zoomFault with | some fault => .inl fault | none => .inr i := by
  unfold State.leaveTarget State.zoomFault
  cases t.noTable with
  | some detail => rfl
  | none =>
    rw [link] <;> cases t.contextLensFault <;> rfl

theorem exec_exchange {tag i : Nat} {s t : State} {kind : OpKind} {c : Instr} (asks : AsksExchange t tag i kind c)
    (reaches : s.reaches c tag t) :
    exec c s =
      .next
        (match exchangeFault t kind i with
         | some (code, detail) => t.refuse tag code detail
         | none => t.acceptContext tag kind i) := by
  obtain ⟨rfl, rfl⟩ | ⟨rfl, rfl⟩ | ⟨rfl, rfl, link⟩ := asks
  · exact congrArg Host.Outcome.next (State.onRequest_reaches reaches _)
  · exact congrArg Host.Outcome.next (State.onRequest_reaches reaches _)
  · have leaves : exec (.leave tag) s = .next (t.leaveRequest tag) :=
      congrArg Host.Outcome.next (State.onRequest_reaches reaches _)
    rw [leaves, State.leaveRequest, leaveTarget_linked link]
    show Host.Outcome.next _ = .next (match t.zoomFault with | some (code, detail) => _ | none => _)
    cases t.zoomFault <;> rfl

section
variable {tag i : Nat} {s t : State} {kind : OpKind} {c : Instr} (asks : AsksExchange t tag i kind c)
  (reaches : s.reaches c tag t)
include asks reaches

theorem exec_exchange_refused {code : Code} {detail : Nat} (fault : exchangeFault t kind i = some (code, detail)) :
    exec c s = .next (t.reply tag (.refused code detail)) := by
  rw [exec_exchange asks reaches, fault]
  rfl

theorem exec_exchange_accepted (clear : exchangeFault t kind i = none) :
    exec c s = .next (t.acceptContext tag kind i) := by
  rw [exec_exchange asks reaches, clear]

end

/-! ## The settings exchange (R51, R89, R126, R136) -/

/-- EXC's registers with a slot loaded. -/
def loadedExc (s : State) (c : Slot) : Exc := (s.loadExc c).exc

theorem loadExc_eq (s : State) (c : Slot) : s.loadExc c = { s with exc := loadedExc s c } := by
  unfold loadedExc State.loadExc
  dsimp only
  split <;> rfl

/-- What loading a slot makes of EXC's registers (R89). -/
theorem loadedExc_fields (s : State) (c : Slot) :
    (loadedExc s c).live = c.meter.fit s.otb.glob.tvMaxElectronic ∧ (s.excLens = true → (loadedExc s c).x = c.x) ∧
      (loadedExc s c).ring = [] ∧ (loadedExc s c).clamp = .none ∧ (loadedExc s c).latest = none ∧
      (loadedExc s c).window = 0 ∧ (loadedExc s c).lock = s.exc.lock ∧
      (loadedExc s c).nextSerial = s.exc.nextSerial := by
  unfold loadedExc State.loadExc
  dsimp only
  split
  · rename_i waits
    refine ⟨rfl, fun lens => ?_, rfl, rfl, rfl, rfl, rfl, rfl⟩
    have other : State.excState { s with exc := { s.exc with
        live := c.meter.fit s.otb.glob.tvMaxElectronic, x := c.x, ring := [], clamp := .none, latest := none,
        window := 0 } } ≠ .waitLens := by
      have known : State.excLens { s with exc := { s.exc with
          live := c.meter.fit s.otb.glob.tvMaxElectronic, x := c.x, ring := [], clamp := .none, latest := none,
          window := 0 } } = true := lens
      unfold State.excState
      rw [known]
      split
      · decide
      · rw [if_neg (by decide)]
        split
        · decide
        · split <;> decide
    exact absurd waits other
  · exact ⟨rfl, fun _ => rfl, rfl, rfl, rfl, rfl, rfl, rfl⟩

/-- STU's registers after an exchange. -/
def exchangedStu (s : State) (mode : SteadyMode) (leak : Nat) : Stu := (s.exchangeStu mode leak).stu

theorem exchangeStu_eq (s : State) (mode : SteadyMode) (leak : Nat) :
    s.exchangeStu mode leak = { s with stu := exchangedStu s mode leak } := by
  unfold exchangedStu State.exchangeStu
  rw [deriveStu_eq]
  rfl

/-- What an exchange makes of STU's registers (R126). -/
theorem exchangedStu_fields (s : State) (mode : SteadyMode) (leak : Nat) :
    (exchangedStu s mode leak).mode = mode ∧ (exchangedStu s mode leak).leak = leak ∧
      (exchangedStu s mode leak).window = false ∧ (exchangedStu s mode leak).offset = s.stu.offset ∧
      (exchangedStu s mode leak).fault = s.stu.fault ∧ (exchangedStu s mode leak).cal = s.stu.cal := by
  unfold exchangedStu State.exchangeStu
  rw [deriveStu_eq]
  dsimp only
  split <;> exact ⟨rfl, rfl, rfl, rfl, rfl, rfl⟩

/-- The state with a slot loaded. -/
def loaded (s : State) (c : Slot) : State :=
  let t : State :=
    { s with exc := loadedExc s c, fsu := { s.fsu with live := c.af }, ldu := { s.ldu with d := c.d } }
  { t with stu := exchangedStu t c.mode c.leak }

theorem loadContext_eq (s : State) (c : Slot) : s.loadContext c = loaded s c := by
  rw [State.loadContext, loadExc_eq, exchangeStu_eq]
  rfl

/-- A request accepted RUNNING that counts its first unit. -/
theorem countUnit_accepted {t : State} {tag : Nat} (room : t.hasRoom tag) (kind : OpKind) (planned : Option Nat) :
    ((t.accepted tag kind .running planned).countUnit tag).opt.table =
      t.opt.table ++ [{ tag := tag, kind := kind, state := .running, done := 1, planned := planned, cause := none }] := by
  have others := State.hasRoom_map room fun e => { e with done := min 65535 (e.done + 1) }
  simp only [State.countUnit, State.updateEntry, State.accepted_table, List.map_append, others]
  simp

/-- The state of an accepted context operation, zoom and focus its own and the slots exchanged. -/
def exchanging (w : State) (tag i : Nat) (kind : OpKind) : State :=
  let left := w.activeIndex
  let entered := enteredSlot kind left (w.slot left).link (w.slot i)
  { w with
      ldu := { w.ldu with zoom := { w.ldu.zoom with owner := some (.op kind tag) },
                          focus := { w.ldu.focus with owner := some (.op kind tag) } },
      pcs := { w.pcs with
        slots := (w.pcs.slots.set left (leftSlot kind (w.workingCopy (w.slot left)))).set i entered } }

/-- The slot entered. -/
def enteredOf (w : State) (i : Nat) (kind : OpKind) : Slot :=
  enteredSlot kind w.activeIndex (w.slot w.activeIndex).link (w.slot i)

theorem beginContext_eq (w : State) (tag i : Nat) (kind : OpKind) :
    w.beginContext tag kind i =
      let u := (loaded (exchanging w tag i kind) (enteredOf w i kind)).countUnit tag
      u.setContextOp
        (some { tag := tag, kind := kind, phase := .pending, left := w.activeIndex, clampFlag := false, target := 0,
                exc := u.excState, stu := u.stu.state }) := by
  have begun := loadContext_eq (exchanging w tag i kind) (enteredOf w i kind)
  rw [← begun]
  rfl

/-- The new ACTIVE slot in R136's terms. -/
theorem enteredOf_eq (w : State) (i : Nat) {kind : OpKind} (kinds : kind = .switch ∨ kind = .enter ∨ kind = .leave) :
    enteredOf w i kind =
      { w.slot i with
          status := .active,
          link := if kind = .switch then (w.slot w.activeIndex).link else if kind = .enter then some w.activeIndex
                  else (w.slot i).link } := by
  obtain rfl | rfl | rfl := kinds <;> rfl

theorem acceptContext_eq {t : State} {tag : Nat} (room : t.hasRoom tag) (kind : OpKind) (i : Nat) :
    t.acceptContext tag kind i =
      (t.accepted tag kind .running (some (t.contextUnits i))).beginContext tag kind i := by
  rw [State.acceptContext, State.accept_room room]

/-- What an accepted context operation leaves (R136), `e` the slot it enters. -/
theorem acceptContext_leaves {t : State} {tag : Nat} (room : t.hasRoom tag) (kind : OpKind) (i : Nat) {e : Slot}
    (entered : e = enteredOf t i kind) :
    ∃ u, t.acceptContext tag kind i = u ∧
      u.pcs.slots =
        (t.pcs.slots.set t.activeIndex (leftSlot kind (t.workingCopy (t.slot t.activeIndex)))).set i e ∧
      u.pcs.programs = t.pcs.programs ∧
      (∃ o, u.pcs.op = some o ∧ o.tag = tag ∧ o.kind = kind ∧ o.phase = .pending ∧ o.left = t.activeIndex) ∧
      u.ldu = { t.ldu with
        zoom := { t.ldu.zoom with owner := some (.op kind tag) },
        focus := { t.ldu.focus with owner := some (.op kind tag) }, d := e.d } ∧
      u.fsu = { t.fsu with live := e.af } ∧ u.exc.live = e.meter.fit t.otb.glob.tvMaxElectronic ∧
      (t.excLens = true → u.exc.x = e.x) ∧ u.exc.ring = [] ∧ u.exc.clamp = .none ∧ u.exc.latest = none ∧
      u.exc.window = 0 ∧ u.exc.lock = t.exc.lock ∧ u.exc.nextSerial = t.exc.nextSerial ∧
      u.stu.mode = e.mode ∧ u.stu.leak = e.leak ∧ u.stu.window = false ∧
      u.stu.offset = t.stu.offset ∧ u.stu.fault = t.stu.fault ∧ u.stu.cal = t.stu.cal ∧
      u.opt.outbox = t.opt.outbox ∧
      u.opt.table = t.opt.table ++
        [{ tag := tag, kind := kind, state := .running, done := 1, planned := some (t.contextUnits i),
           cause := none }] ∧
      u.lif = { t.lif with replies := t.lif.replies ++ [{ tag := tag, body := .accepted kind }] } ∧
      u.otb = t.otb ∧ u.fmn = t.fmn ∧ u.csq = t.csq ∧ u.pbf = t.pbf ∧ u.csu = t.csu ∧ u.pending = t.pending := by
  subst entered
  let w := t.accepted tag kind .running (some (t.contextUnits i))
  let x := exchanging w tag i kind
  let y : State :=
    { x with
        exc := loadedExc x (enteredOf w i kind), fsu := { x.fsu with live := (enteredOf w i kind).af },
        ldu := { x.ldu with d := (enteredOf w i kind).d } }
  obtain ⟨live, saved, ring, clamp, latest, window, lock, serial⟩ := loadedExc_fields x (enteredOf w i kind)
  obtain ⟨mode, leak, closed, offset, fault, cal⟩ :=
    exchangedStu_fields y (enteredOf w i kind).mode (enteredOf w i kind).leak
  exact ⟨_, (acceptContext_eq room kind i).trans (beginContext_eq w tag i kind), rfl, rfl, ⟨_, rfl, rfl, rfl, rfl, rfl⟩,
    rfl, rfl, live, saved, ring, clamp, latest, window, lock, serial, mode, leak, closed, offset, fault, cal, rfl,
    countUnit_accepted room kind _, rfl, rfl, rfl, rfl, rfl, rfl, rfl⟩

/-- Settles O40, by the checks of a LEAVE and of the others, and by what each block makes of the exchange. -/
theorem contextExchange : Obligations.ContextExchange := by
  unfold Obligations.ContextExchange
  refine ⟨fun tag s t reaches unlinked => ?_, fun tag i s t kind c asks reaches => ?_⟩
  · have leaves : exec (.leave tag) s = .next (t.leaveRequest tag) :=
      congrArg Host.Outcome.next (State.onRequest_reaches reaches _)
    rw [leaves, State.leaveRequest, State.leaveTarget, State.noTable]
    cases t.otb.state with
    | empty => rfl
    | staged => rfl
    | valid =>
      dsimp only
      rw [unlinked]
      rfl
  · have refused {code : Code} {detail : Nat} (fault : exchangeFault t kind i = some (code, detail)) :=
      exec_exchange_refused asks reaches fault
    have noTable {detail : Nat} (table : t.noTable = some detail) :
        exchangeFault t kind i = some (.noTable, detail) := by
      unfold exchangeFault
      split
      · exact zoomFault_noTable detail table
      · exact contextFault_noTable table
    refine ⟨fun empty => refused (noTable (by rw [State.noTable, empty])),
      fun staged => refused (noTable (by rw [State.noTable, staged])), fun valid => ⟨fun other => ?_, fun goes => ?_⟩⟩
    · have fault : exchangeFault t kind i = t.contextFault i := if_neg other
      refine ⟨fun beyond => refused (fault.trans (contextFault_range valid beyond)), fun within status => refused ?_,
        fun within status => refused ?_, fun within status => refused ?_⟩
      all_goals obtain ⟨absent, active, nested, -⟩ := contextFault_status (t := t) valid within
      · exact fault.trans (absent status)
      · exact fault.trans (active status)
      · exact fault.trans (nested status)
    · have lens : exchangeFault t kind i = t.contextLensFault := by
        unfold exchangeFault
        split
        · exact zoomFault_valid valid
        · obtain leave | ⟨within, status⟩ := goes
          · exact absurd leave (by assumption)
          · exact (contextFault_status (t := t) valid within).2.2.2 status
      rw [contextLensFault_eq] at lens
      refine ⟨fun owned => refused ?_, fun free owned => refused ?_, fun freeZoom freeFocus lost => refused ?_,
        fun freeZoom freeFocus known lost => refused ?_, fun freeZoom freeFocus known knownFocus room => ?_⟩
      · rw [lens, if_pos owned]
      · rw [lens, if_neg (not_not.mpr free), if_pos owned]
      · rw [lens, if_neg (not_not.mpr freeZoom), if_neg (not_not.mpr freeFocus), if_pos lost]
      · rw [lens, if_neg (not_not.mpr freeZoom), if_neg (not_not.mpr freeFocus), if_neg known, if_pos lost]
      · rw [if_neg (not_not.mpr freeZoom), if_neg (not_not.mpr freeFocus), if_neg known, if_neg knownFocus] at lens
        have kinds : kind = .switch ∨ kind = .enter ∨ kind = .leave :=
          asks.imp And.left (Or.imp And.left And.left)
        obtain ⟨u, asked, leaves⟩ := acceptContext_leaves room kind i (enteredOf_eq t i kinds).symm
        exact ⟨u, (exec_exchange_accepted asks reaches lens).trans (congrArg _ asked), leaves⟩

/-! ## The event after the exchange (R137, R138) -/

theorem exec_contextTravelBegin (s : State) :
    exec .contextTravelBegin s =
      .next
        (match s.pcs.op with
         | some o => if o.phase = .pending then s.contextTravel o else s
         | none => s) := rfl

theorem release_zoom_focus (s : State) :
    s.release [.zoom, .focus] =
      { s with ldu := { s.ldu with zoom := { s.ldu.zoom with owner := none },
                                   focus := { s.ldu.focus with owner := none } } } :=
  LensEndings.release_eq (s := s) (q := fun a => a != .iris) fun last => nomatch last

/-- A context operation to a REVIEW context ends COMPLETE. -/
theorem endContext_complete {s : State} {o : ContextOp} {e : OpEntry} (found : s.entry o.tag = some e) :
    s.endContext o .complete .none =
      { s with
          pcs := { s.pcs with op := none },
          ldu := { s.ldu with zoom := { s.ldu.zoom with owner := none },
                              focus := { s.ldu.focus with owner := none } },
          opt := { table := s.opt.table.filter (fun f => f.tag != o.tag),
                   outbox := s.opt.outbox ++
                     [.ending { tag := o.tag, kind := e.kind, cls := .complete, cause := .none, done := e.done,
                                resume := .absent, result := none,
                                fields := .context o.left (s.slot o.left).status s.activeIndex s.activeSlot.kind
                                  s.activeSlot.link o.clampFlag s.ldu.zoom.pp s.ldu.focus.pp s.ldu.d
                                  (s.ldu.zoom.pp.map fun z => s.focusFor z s.ldu.d) o.exc o.stu }] } } := by
  have ends := ending_eq (s := s.setContextOp none) found .complete .none .absent none
    (.context o.left (s.slot o.left).status s.activeIndex s.activeSlot.kind
      s.activeSlot.link o.clampFlag s.ldu.zoom.pp s.ldu.focus.pp s.ldu.d
      (s.ldu.zoom.pp.map fun z => s.focusFor z s.ldu.d) o.exc o.stu)
  exact (congrArg (fun u : State => u.release [.zoom, .focus]) ends).trans (release_zoom_focus _)

/-- Another context operation sends zoom to the saved step. -/
theorem contextTravel_energizes {s : State} {o : ContextOp} {z : Nat} (other : s.activeKind ≠ .review)
    (pp : s.ldu.zoom.pp = some z) (released : s.ldu.zoom.state = .released) (slow : s.ldu.zoom.setup.energize ≠ 0)
    (idle : s.ldu.waitList = []) (apart : max s.wideEnd (min s.teleEnd s.activeSlot.zoomStep) ≠ z) :
    s.contextTravel o =
      { s with
          pcs := { s.pcs with
            op := some { o with phase := .zoom, target := max s.wideEnd (min s.teleEnd s.activeSlot.zoomStep),
                                clampFlag := max s.wideEnd (min s.teleEnd s.activeSlot.zoomStep) !=
                                  s.activeSlot.zoomStep } },
          ldu := { s.ldu with zoom := { s.ldu.zoom with
            target := some (max s.wideEnd (min s.teleEnd s.activeSlot.zoomStep)), state := .energizing,
            timer := some s.ldu.zoom.setup.energize } } } := by
  have given := State.giveTarget_released s .zoom (bring s.wideEnd s.teleEnd s.activeSlot.zoomStep) z pp apart released
    slow
  rw [State.contextTravel, if_neg other]
  simp only [given]
  exact State.arbitrate_nil _ idle

/-- Settles O41, by the phase of the operation and the kind of the context it has entered. -/
theorem contextTravel : Obligations.ContextTravel := by
  unfold Obligations.ContextTravel
  refine fun s => ⟨fun none => ?_, fun o op => ⟨fun later => ?_, fun pending => ⟨fun review e found => ?_,
    fun other z pp released slow idle apart => ?_⟩⟩⟩
  · rw [exec_contextTravelBegin, none]
  · rw [exec_contextTravelBegin, op]
    exact congrArg _ (if_neg later)
  · have travels : s.contextTravel o = s.endContext o .complete .none := if_pos review
    rw [exec_contextTravelBegin, op]
    exact congrArg _ ((if_pos pending).trans (travels.trans (endContext_complete found)))
  · rw [exec_contextTravelBegin, op]
    exact congrArg _ ((if_pos pending).trans (contextTravel_energizes other pp released slow idle apart))

end Sys2Proof.Proofs.Exchanges
end

section
/-! PROOFS. QUERY: the parts of the blocks, item by item (R18, R66, R91, R110, R127, R140, R158, R171, R194, R200). -/

namespace Sys2Proof.Proofs.Queries
open Sys2Proof Sys2Proof.Machine

-- one declaration after another: each unfolds operations whose equations another would be waiting for
set_option Elab.async false

/-! ## Items of a part -/

theorem putFlag_eq (b : Bool) : putFlag b = [if b then 1#8 else 0#8] := by cases b <;> rfl

/-- The owner of an axis as LDU's part sends it. -/
theorem putOwner_eq (o : Option Owner) :
    putOption1 (o.map ownerCode) =
      match o with
      | none => [0xFF#8]
      | some (.op kind _) => put1 (opKindCode kind)
      | some (.capture kind) => put1 (opKindCode kind) := by
  cases o with
  | none => rfl
  | some o => cases o <;> rfl

/-- The stepping of an axis as the slots hold it (R25). -/
theorem stepping_eq (r : AxisRec) : r.stepping = (r.state == .moving || r.state == .homing) := by
  unfold AxisRec.stepping
  cases r.state <;> rfl

theorem slotHolders_states (t : State) :
    t.slotHolders =
      [Axis.zoom, .focus, .iris].filter fun a => (t.axis a).state == .moving || (t.axis a).state == .homing := by
  simp only [State.slotHolders, stepping_eq]
  rfl

/-- The exposure state by the rows of R67. -/
theorem excState_rows (t : State) :
    excStateCode t.excState =
      if t.activeKind = .review then 0
      else if t.otb.state ≠ .valid ∨ t.ldu.zoom.pp = none ∨ t.ldu.iris.pp = none then 1
      else match t.exc.lock with
        | .held _ => 2
        | _ => if t.exc.x = none then 3 else 4 := by
  have lens : t.excLens = false ↔ t.otb.state ≠ .valid ∨ t.ldu.zoom.pp = none ∨ t.ldu.iris.pp = none := by
    simp only [State.excLens, State.lensGeometry, Bool.and_eq_false_iff, beq_eq_false_iff_ne, Option.isSome_eq_false_iff,
      Option.isNone_iff_eq_none, or_assoc]
  unfold State.excState
  by_cases review : t.activeKind = .review
  · rw [if_pos review, if_pos review]
    rfl
  · rw [if_neg review, if_neg review]
    by_cases waits : t.excLens = false
    · rw [if_pos waits, if_pos (lens.mp waits)]
      rfl
    · rw [if_neg waits, if_neg (mt lens.mpr waits)]
      cases t.exc.lock with
      | held x => rfl
      | none => cases t.exc.x <;> rfl
      | pending => cases t.exc.x <;> rfl

/-- A QUERY of a section answers the flag and the part, and clears the flag. -/
theorem exec_query {tag part : Nat} {s t : State} (reaches : s.reaches (.query tag part) tag t) :
    exec (.query tag part) s = .next (t.query tag part) :=
  congrArg Host.Outcome.next (State.onRequest_reaches reaches _)

theorem query_answers {t : State} {tag part : Nat} {bytes : List Byte} (section_ : t.querySection part = some bytes) :
    t.query tag part =
      { t with
          lif := { t.lif with
            replies := t.lif.replies ++
              [{ tag := tag, body := .done ((if t.lif.linkError then 1#8 else 0#8) :: bytes) }],
            linkError := false },
          fmn := if part = 3 then { t.fmn with stale := 0 } else t.fmn } := by
  rw [State.query, section_, putFlag_eq]
  show State.clearRead _ part = _
  unfold State.clearRead
  dsimp only
  split <;> rfl

theorem querySection_beyond {t : State} {part : Nat} (beyond : 10 < part) : t.querySection part = none := by
  obtain ⟨k, rfl⟩ := Nat.exists_eq_add_of_le' beyond
  rfl

/-! ## The parts -/

variable (t : State)

/-- R18. -/
theorem queryOpt_eq :
    t.queryOpt =
      put1 t.opt.table.length ++
        t.opt.table.flatMap
          (fun e => put1 e.tag ++ put1 (opKindCode e.kind) ++ put1 (opStateCode e.state) ++ put2 e.done ++
            putOption2 e.planned) ++
        put2 (t.opt.outbox.countP fun n => match n with | .ending _ => true | _ => false) ++
        put2 t.opt.outbox.length := by
  rw [State.queryOpt, List.countP_eq_length_filter]
  rfl

/-- The waiting iris target of LDU's part. -/
theorem putPending_eq (o : Option IrisTarget) :
    putOption2 (o.map (·.value)) = match o with | some v => put2 v.value | none => [0xFF#8, 0xFF#8] := by
  cases o <;> rfl

/-- The lock and the locked X of EXC's part (R91). -/
def lockBytes : Lock → List Byte
  | .none => [0#8, 0xFF#8, 0xFF#8]
  | .pending => [1#8, 0xFF#8, 0xFF#8]
  | .held x => 2#8 :: putSigned x

theorem putLock_eq : put1 (lockCode t.exc.lock) ++ putSignedOption t.xLocked = lockBytes t.exc.lock := by
  unfold State.xLocked
  cases t.exc.lock <;> rfl

/-- The clamp state of EXC's part (R91). -/
def clampBytes : Clamp → List Byte
  | .none => [0#8, 0#8]
  | .under n => [1#8, byteOf (min n 255)]
  | .over n => [2#8, byteOf (min n 255)]

theorem putClamp_eq (c : Clamp) : put1 (clampCode c) ++ put1 (clampAmount c) = clampBytes c := by
  cases c <;> rfl

/-- The newest setting of EXC's part (R91). -/
def settingBytes : Option ExpEntry → List Byte
  | some e => put2 e.serial ++ putSigned e.tv ++ putSigned e.av ++ putSigned e.gv
  | none => List.replicate 8 0xFF#8

/-- A signed field or its absent form. -/
def signedBytes : Option Int → List Byte
  | some x => putSigned x
  | none => [0xFF#8, 0xFF#8]

theorem putSignedOption_eq (x : Option Int) : putSignedOption x = signedBytes x := by cases x <;> rfl

theorem queryExc_eq :
    t.queryExc =
      put1 (excStateCode t.excState) ++ lockBytes t.exc.lock ++ putValue t.exc.x ++ signedBytes t.exc.latest ++
        clampBytes t.exc.clamp ++ put1 t.exc.window ++ put2 t.exc.ring.length ++ settingBytes t.exc.ring.getLast? := by
  have setting : (match t.exc.ring.getLast? with
      | some e => put2 e.serial ++ putSigned e.tv ++ putSigned e.av ++ putSigned e.gv
      | none => put2 65535 ++ put2 65535 ++ put2 65535 ++ put2 65535) = settingBytes t.exc.ring.getLast? := by
    cases t.exc.ring.getLast? <;> rfl
  rw [← putLock_eq, ← putClamp_eq, ← putSignedOption_eq, ← setting]
  simp only [State.queryExc, List.append_assoc] <;> rfl

/-- The capture, and the positions of a SHOOT, of CSQ's part (R158). -/
def captureBytes : Option Capture → List Byte
  | some c =>
    put1 (opKindCode c.kind) ++ put1 c.tag ++
      (if c.kind = .shoot then put2 c.pos ++ put2 c.first ++ put2 c.last else List.replicate 6 0xFF#8)
  | none => List.replicate 8 0xFF#8

theorem putCapture_eq (c : Option Capture) :
    putOption1 (c.map fun c => opKindCode c.kind) ++ putOption1 (c.map (·.tag)) ++
        putOption2 ((c.bind fun c => if c.kind = .shoot then some c else none).map (·.pos)) ++
        putOption2 ((c.bind fun c => if c.kind = .shoot then some c else none).map (·.first)) ++
        putOption2 ((c.bind fun c => if c.kind = .shoot then some c else none).map (·.last)) =
      captureBytes c := by
  cases c with
  | none => rfl
  | some c =>
    by_cases shoot : c.kind = .shoot
    · simp only [captureBytes, Option.bind_some, if_pos shoot, List.append_assoc]
      rfl
    · simp only [captureBytes, Option.bind_some, if_neg shoot, List.append_assoc]
      rfl

/-- The picture in hand of CSQ's part (R158). -/
def handBytes : List Byte :=
  match t.csq.capture.bind (·.hand) with
  | some h =>
    (match t.record h.id with
     | some r => if r.state = .reserved ∨ r.state = .filling then put2 h.id else [0xFF#8, 0xFF#8]
     | none => [0xFF#8, 0xFF#8])
  | none => [0xFF#8, 0xFF#8]

theorem putHand_eq : putOption2 t.handId = handBytes t := by
  unfold State.handId handBytes
  cases t.csq.capture.bind (·.hand) with
  | none => rfl
  | some h =>
    dsimp only [Option.bind_some]
    cases t.record h.id with
    | none => rfl
    | some r =>
      rw [Option.bind_some]
      by_cases reserved : r.state = .reserved ∨ r.state = .filling
      · simp only [if_pos reserved]
        rfl
      · simp only [if_neg reserved]
        rfl

/-- Whether the arm timer of the picture in hand runs, as CSQ's part sends it (R158). -/
def armingBytes : Option Hand → List Byte
  | some h => [if h.arming then 1#8 else 0#8]
  | none => [0#8]

theorem putArming_eq (h : Option Hand) : putFlag ((h.map (·.arming)).getD false) = armingBytes h := by
  cases h with
  | none => rfl
  | some h => exact putFlag_eq _

/-- The first failure of CSQ's part (R158). -/
def failureBytes : Option (EndClass × Cause) → List Byte
  | some f => put1 (classCode f.1) ++ put1 (causeCode f.2)
  | none => [0xFF#8, 0xFF#8]

theorem putFailure_eq (f : Option (EndClass × Cause)) :
    putOption1 (f.map fun f => classCode f.1) ++ putOption1 (f.map fun f => causeCode f.2) = failureBytes f := by
  cases f <;> rfl

/-- R158. -/
theorem queryCsq_eq :
    t.queryCsq =
      put1 (csqStateCode t.csq.state) ++ captureBytes t.csq.capture ++ handBytes t ++
        put1 t.csq.pendingIntake.length ++ t.csq.pendingIntake.flatMap put2 ++
        armingBytes (t.csq.capture.bind (·.hand)) ++ [if t.csq.recharge then 1#8 else 0#8] ++
        failureBytes (t.csq.capture.bind (·.failure)) ++ put2 t.csq.nextId := by
  rw [← putCapture_eq, ← putHand_eq, ← putArming_eq, ← putFailure_eq, ← putFlag_eq]
  simp only [State.queryCsq, putCounted, List.append_assoc]

/-- The picture whose bytes arrive, of PBF's part (R171). -/
def intakeBytes : List Byte :=
  match t.pbf.engine with
  | .data id =>
    (match t.record id with
     | some r => put2 r.id ++ putOption4 r.length ++ put4 r.received
     | none => List.replicate 10 0xFF#8)
  | _ => List.replicate 10 0xFF#8

/-- The record the intake engine fills. -/
def recordFilled : Option PicRecord :=
  match t.pbf.engine with
  | .data id => t.record id
  | _ => none

/-- The bytes still to be drained, of PBF's part (R171). -/
def drainBytes : Engine → List Byte
  | .drain n => put4 n
  | _ => List.replicate 4 0xFF#8

/-- A byte of the FIFO, and no gap mark. -/
def isByte : FifoItem → Bool
  | .byte _ => true
  | .gap _ => false

/-- R171. -/
theorem queryPbf_eq :
    t.queryPbf =
      put2 t.pbf.freePages.length ++ put2 t.pbf.reserve ++
        put2 (t.pbf.records.countP fun r => r.state == .reserved) ++
        put2 (t.pbf.records.countP fun r => r.state == .filling) ++
        put2 (t.pbf.records.countP fun r => r.state == .complete) ++
        put2 (t.pbf.records.countP fun r => r.state == .storing) ++
        put2 (t.pbf.records.countP fun r => r.state == .discarding) ++ [if t.pbf.request then 1#8 else 0#8] ++
        put1 (engineCode t.pbf.engine) ++ intakeBytes t ++ drainBytes t.pbf.engine ++
        put2 (t.pbf.fifo.countP isByte) ++ [if (t.pbf.fifo.any fun i => !isByte i) then 1#8 else 0#8] ++
        [if decide (3072 < t.pbf.fifo.countP isByte) then 1#8 else 0#8] := by
  have gap : (fun i : FifoItem => match i with | .gap _ => true | .byte _ => false) = fun i => !isByte i := by
    funext i
    cases i <;> rfl
  have counted : t.fifoBytes = t.pbf.fifo.countP isByte := by
    rw [List.countP_eq_length_filter]
    rfl
  have taken : intakeBytes t = putOption2 ((recordFilled t).map (·.id)) ++
      putOption4 ((recordFilled t).bind (·.length)) ++ putOption4 ((recordFilled t).map (·.received)) := by
    unfold intakeBytes recordFilled
    cases t.pbf.engine with
    | data id =>
      dsimp only
      cases t.record id <;> rfl
    | _ => rfl
  have drained : drainBytes t.pbf.engine =
      putOption4 (match t.pbf.engine with | .drain n => some n | _ => none) := by
    cases t.pbf.engine <;> rfl
  rw [taken, drained]
  simp only [State.queryPbf, State.recordsIn, State.ihold, counted, putFlag_eq, ← gap, ← List.countP_eq_length_filter,
    List.append_assoc] <;> rfl

/-- The record the store works on, of CSU's part (R194). -/
def currentBytes : List Byte :=
  match t.csu.current with
  | some id =>
    put2 id ++ put2 (clustersFor t.csu.cluster (((t.record id).bind (·.length)).getD 0)) ++
      put2 (match t.csu.placement with | some p => p.written + p.ahead.length | none => 0)
  | none => List.replicate 6 0xFF#8

/-- The fault record of CSU's part (R194). -/
def faultBytes : Option FaultRecord → List Byte
  | some f => 1#8 :: put1 f.format ++ put2 f.repeats
  | none => 0#8 :: List.replicate 3 0xFF#8

theorem cardReady_iff (c : CardState) : c.ready = true ↔ c = .opened ∨ c = .protect := by
  cases c <;> decide

/-- R194. -/
theorem queryCsu_eq :
    t.queryCsu =
      put1 (cardStateCode t.csu.card) ++ [if t.csu.protect then 1#8 else 0#8] ++
        putOption4 (if t.csu.card = .opened ∨ t.csu.card = .protect then t.csu.capacity else none) ++
        put1 (storeStateCode t.csu.store) ++ put2 t.csu.cluster ++ put2 t.csu.queue.length ++ currentBytes t ++
        put2 t.csu.pool.length ++ put2 ((t.csu.pool.map (·.len)).sum / t.csu.cluster) ++ faultBytes t.csu.fault := by
  simp only [State.queryCsu, cardReady_iff, putFlag_eq, currentBytes, State.poolClusters]
  cases t.csu.current <;> cases t.csu.fault <;> simp only [List.append_assoc] <;> rfl

/-- Settles O10. -/
theorem queryAnswered : Obligations.QueryAnswered := by
  unfold Obligations.QueryAnswered
  refine ⟨⟨rfl, rfl, rfl, rfl, rfl, rfl, rfl, rfl, rfl, rfl, rfl, rfl, fun _ _ _ _ _ => rfl, rfl, rfl⟩,
    fun tag part s t reaches => ⟨fun beyond => ?_, ?_⟩⟩
  · rw [exec_query reaches, State.query, querySection_beyond beyond]
    rfl
  · have answered {bytes : List Byte} (section_ : t.querySection part = some bytes) :=
      (exec_query reaches).trans (congrArg Host.Outcome.next (query_answers (tag := tag) section_))
    refine ⟨fun h => ?_, fun h => ?_, fun h => ?_, fun h => ?_, fun h => ?_, fun h => ?_, fun h => ?_, fun h => ?_,
      fun h => ?_, fun h => ?_, fun h => ?_⟩
    all_goals refine answered ?_
    all_goals subst h
    all_goals refine congrArg some ?_
    · exact queryOpt_eq t
    · simp only [State.queryLdu, putAxis, putOwner_eq, slotHolders_states, putAxisOption, putCounted, putPending_eq,
        List.append_assoc] <;> rfl
    · simp only [State.queryOtb, ← List.countP_eq_length_filter] <;> rfl
    · simp only [State.queryFmn, State.openRecord, putFrameFlags, putFlag_eq, ← List.countP_eq_length_filter]
      generalize t.fmn.ring.getLast? = last
      generalize (t.fmn.ring.filter (·.stats)).getLast? = filed
      cases last <;> cases filed <;> rfl
    · exact (excState_rows t) ▸ queryExc_eq t
    · rw [State.queryFsu]
      cases t.fsu.scan with
      | none => rfl
      | some c =>
        obtain ⟨user, _, _, _, _, phase, _, _, best, _, _, _⟩ := c
        cases phase <;> cases user <;> cases best <;> simp only [List.append_assoc] <;> rfl
    · simp only [State.queryStu, putFlag_eq, putSteadyAxis, List.append_assoc]
      generalize t.stu.offset = offset
      generalize t.stu.cal = cal
      cases offset <;> cases cal <;> rfl
    · simp only [State.queryPcs, State.presentPrograms, ← List.countP_eq_length_filter]
      cases t.pcs.op with
      | none => rfl
      | some o =>
        obtain ⟨_, _, phase, _⟩ := o
        cases phase <;> rfl
    · exact queryCsq_eq t
    · exact queryPbf_eq t
    · exact queryCsu_eq t

end Sys2Proof.Proofs.Queries
end

section
/-! PROOFS. STOP: how it is answered, and what it does to each kind of operation (R10, R11). -/

namespace Sys2Proof.Proofs.StopRequests
open Sys2Proof Sys2Proof.Machine Sys2Proof.Proofs Sys2Proof.Proofs.CardFacts Sys2Proof.Proofs.Preparations
open Sys2Proof.Proofs.Stops Sys2Proof.Proofs.LensEndings Sys2Proof.Proofs.CaptureFacts

-- one declaration after another: each unfolds operations whose equations another would be waiting for
set_option Elab.async false

/-! ## The request (R10) -/

theorem exec_stop {tag operation : Nat} {s t : State} (reaches : s.reaches (.stop tag operation) tag t) :
    exec (.stop tag operation) s = .next (t.stopRequest tag operation) :=
  congrArg Host.Outcome.next (State.onRequest_reaches reaches _)

theorem entry_tagged {s : State} {tag : Nat} {e : OpEntry} (found : s.entry tag = some e) : e.tag = tag :=
  beq_iff_eq.mp (List.find?_some (p := fun f : OpEntry => f.tag == tag) found)

section
variable {tag operation : Nat} {s t : State} {e : OpEntry}

theorem stop_again (reaches : s.reaches (.stop tag operation) tag t) (found : t.entry operation = some e)
    (stopping : e.state = .stopping) : exec (.stop tag operation) s = .next (t.reply tag (.done [])) := by
  simp only [exec_stop reaches, State.stopRequest, found, State.stopEntry, if_pos stopping]
  rfl

/-- The entry is marked, and its owner takes the stop. -/
theorem stop_owner (reaches : s.reaches (.stop tag operation) tag t) (found : t.entry operation = some e)
    (runs : e.state ≠ .stopping) {u : State} (owner : (marked t operation .stopped).ownerStop e .stopped = u) :
    exec (.stop tag operation) s = .next (u.reply tag (.done [])) := by
  rw [exec_stop reaches, State.stopRequest, found]
  show Host.Outcome.next ((t.stopEntry e .stopped).done tag []) = _
  rw [State.stopEntry, if_neg runs, entry_tagged found, markStopping_eq, owner]
  rfl

/-! ## A calibration between two windows (R115) -/

theorem entryOfKind_marked {k : OpKind} (found : t.entryOfKind k = some e) (runs : e.state ≠ .stopping)
    (cause : StopCause) :
    (marked t e.tag cause).entryOfKind k = some { e with state := .stopping, cause := some cause } := by
  rw [← markStopping_eq, State.markStopping, entryOfKind_updateEntry found fun f => by split <;> rfl, if_neg runs]

theorem recordedCause_marked (found : t.entry operation = some e) (runs : e.state ≠ .stopping) :
    (marked t operation .stopped).recordedCause operation = .stopped :=
  recordedCause_eq (entry_marked found runs .stopped)

theorem stopCalibration_between {c : Calibration} (found : t.entry operation = some e) (runs : e.state ≠ .stopping)
    (kind : t.entryOfKind .gyroCal = some e) (cal : t.stu.cal = some c) (between : c.samples = 0) :
    (marked t operation .stopped).stopCalibration operation =
      { t with
          stu := { t.stu with cal := none },
          opt := { table := t.opt.table.filter fun f => f.tag != operation,
                   outbox := t.opt.outbox ++
                     [.ending { tag := operation, kind := e.kind, cls := .partialEnd, cause := .stopped, done := e.done,
                                resume := .absent, result := none,
                                fields := .gyro t.stu.offset c.judged c.last }] } } := by
  obtain rfl := entry_tagged found
  have mark := entryOfKind_marked kind runs .stopped
  have cause := recordedCause_marked found runs
  have ends := ending_marked (s := { t with stu := { t.stu with cal := none } }) found runs .stopped .partialEnd .stopped
    .absent (.gyro t.stu.offset c.judged c.last)
  have mark' : State.entryOfKind
      { marked t e.tag .stopped with stu := { (marked t e.tag .stopped).stu with cal := none } } .gyroCal =
      some { e with state := .stopping, cause := some .stopped } := mark
  rw [State.stopCalibration, show (marked t e.tag .stopped).stu.cal = some c from cal]
  refine (if_pos between).trans ?_
  rw [State.endCalibration, mark', cause]
  exact ends

/-! ## A waiting STORE-HOLD (R180, R189, R191) -/

theorem stopHold_eq (found : t.entry operation = some e) (runs : e.state ≠ .stopping) :
    (marked t operation .stopped).stopHold operation =
      { t with
          csu := { t.csu with
            fault := t.csu.fault.map fun h =>
              { h with continuation := if h.continuation = .hold then .none else h.continuation },
            placement := t.csu.placement.map fun p =>
              if p.deferred = .hold then { p with deferred := .none } else p },
          opt := { table := t.opt.table.filter fun f => f.tag != operation,
                   outbox := t.opt.outbox ++
                     [.ending { tag := operation, kind := e.kind, cls := .suppressed, cause := .stopped, done := e.done,
                                resume := .absent, result := none, fields := t.holdFields }] } } := by
  rw [State.stopHold, recordedCause_marked found runs]
  rw [show (marked t operation .stopped).holdFields = t.holdFields from rfl, ending_marked found runs]
  rfl

end

section
variable {operation : Nat} {t : State} {e : OpEntry}

/-! ## A lens operation that ends with its stop (R31, R32, R35, R36) -/

theorem haltedIf_pp (c : Bool) (r : AxisRec) : (haltedIf c r).pp = r.pp := by
  cases c with
  | false => rfl
  | true => exact halted_pp r

theorem halted_count (r : AxisRec) : (halted r).homingCount = r.homingCount := by
  unfold halted
  split <;> rfl

theorem haltedIf_count (c : Bool) (r : AxisRec) : (haltedIf c r).homingCount = r.homingCount := by
  cases c with
  | false => rfl
  | true => exact halted_count r

/-- An axis that makes no step and does not settle is at rest once halted. -/
theorem atRest_halted {r : AxisRec} (moving : r.state ≠ .moving) (homing : r.state ≠ .homing)
    (settling : r.state ≠ .settling) : (halted r).atRest = true := by
  unfold halted
  split
  case h_1 | h_2 => rfl
  case h_3 state => exact absurd state moving
  case h_4 state => exact absurd state homing
  case h_5 state | h_6 state => simp only [AxisRec.atRest, state]
  case h_7 state => exact absurd state settling

/-- d computed back does not see what a halt changes. -/
theorem backD_haltedOp (q : Axis → Bool) (tag : Nat) (waiting : Bool) : (haltedOp t q tag waiting).backD = t.backD := by
  have zoom := haltedIf_pp (q .zoom) t.ldu.zoom
  have focus := haltedIf_pp (q .focus) t.ldu.focus
  unfold State.backD State.lensGeometry State.zoomStep State.reading haltedOp
  dsimp only
  rw [zoom, focus]

/-- What the ENDING reports of the axes does not see what a halt changes. -/
theorem endingFields_haltedOp (q : Axis → Bool) (tag : Nat) (waiting : Bool) (d : Nat) (body : LensBody) :
    endingFields (haltedOp t q tag waiting) d body = endingFields t d body := by
  have pp (a : Axis) : ((haltedOp t q tag waiting).axis a).pp = (t.axis a).pp := by
    rw [axis_haltedOp, haltedIf_pp]
  have count (a : Axis) : ((haltedOp t q tag waiting).axis a).homingCount = (t.axis a).homingCount := by
    rw [axis_haltedOp, haltedIf_count]
  have zoom := pp .zoom
  have focus := pp .focus
  have iris := pp .iris
  simp only [State.axis] at zoom focus iris
  cases body <;> simp only [endingFields, State.homeField, pp, count, zoom, focus, iris]

theorem failureOf_haltedOp (q : Axis → Bool) (tag : Nat) (waiting : Bool) (body : LensBody) :
    failureOf (haltedOp t q tag waiting) body = failureOf t body := by
  cases body with
  | move c v clampFlag => simp only [failureOf, axis_haltedOp, haltedIf_pp]
  | home z f i => rfl
  | zoom start v follow clampFlag lost => rfl
  | park lost => rfl

/-- The stop of a WAITING lens operation halts all it claims. -/
theorem stoppedAxes_waiting (body : LensBody) : stoppedAxes body true = claims body := by
  funext a
  cases body with
  | zoom start v follow clampFlag lost => cases a <;> rfl
  | _ => rfl

theorem filter_waitStopped (ops : List LensOp) (tag : Nat) (waiting : Bool) :
    ((ops.map fun p => if p.tag = tag then { p with waitStopped := waiting } else p).filter fun p => p.tag != tag) =
      ops.filter fun p => p.tag != tag := by
  induction ops with
  | nil => rfl
  | cons p rest ih =>
    rw [List.map_cons, List.filter_cons, List.filter_cons, ih]
    by_cases same : p.tag = tag
    · simp [same]
    · simp [same]

/-- The axes of a suppressed operation: halted and free. -/
def haltedFree (c : Bool) (r : AxisRec) : AxisRec := if c then { halted r with owner := none } else r

theorem freedIf_haltedIf (c : Bool) (r : AxisRec) : freedIf c (haltedIf c r) = haltedFree c r := by
  cases c <;> rfl

/-- A lens operation stopped while WAITING, its axes at rest or energizing, ends SUPPRESSED at once. -/
theorem stopLens_suppressed {o : LensOp} (found : t.entry operation = some e) (runs : e.state ≠ .stopping)
    (op : t.lensOp operation = some o)
    (waits : ∀ b ∈ t.ldu.waitList, claims o.body b = true ∧ (t.axis b).state = .awaitingSlot)
    (pending : t.ldu.pendingIris = none) (alone : t.csq.capture = none)
    (rest : ∀ a, claims o.body a = true → (t.axis a).state ≠ .moving ∧ (t.axis a).state ≠ .homing ∧
      (t.axis a).state ≠ .settling)
    (clean : failureOf t o.body = none) :
    (marked t operation .stopped).stopLens operation true =
      { t with
          ldu := { t.ldu with
            zoom := haltedFree (claims o.body .zoom) t.ldu.zoom,
            focus := haltedFree (claims o.body .focus) t.ldu.focus,
            iris := haltedFree (claims o.body .iris) t.ldu.iris, waitList := [],
            d := endingD t o.body .suppressed, ops := t.ldu.ops.filter fun p => p.tag != operation },
          opt := { table := t.opt.table.filter (fun f => f.tag != operation),
                   outbox := t.opt.outbox ++
                     [.ending { tag := operation, kind := e.kind, cls := .suppressed, cause := .stopped, done := e.done,
                                resume := .absent, result := none,
                                fields := endingFields t (endingD t o.body .suppressed) o.body }] } } := by
  let q := claims o.body
  let h := haltedOp (marked t operation .stopped) q operation true
  let o' : LensOp := { o with waitStopped := true }
  have tagged : o.tag = operation := beq_iff_eq.mp (List.find?_some (p := fun f : LensOp => f.tag == operation) op)
  have halts : (marked t operation .stopped).stopLensOp operation true = h.checkLensEnd operation := by
    have stops := stopLensOp_eq (s := marked t operation .stopped) op true (by rw [stoppedAxes_waiting]; exact waits)
    rw [stoppedAxes_waiting] at stops
    exact stops
  have kept : h.lensOp operation = some o' := lensOp_haltedOp (s := marked t operation .stopped) op q true
  have still : (claimedAxes o'.body).all (fun b => (h.axis b).atRest) = true := by
    rw [List.all_eq_true, claimedAxes_eq]
    intro b member
    have named : q b = true := (List.mem_filter.mp member).2
    obtain ⟨moving, homing, settling⟩ := rest b named
    show ((haltedOp (marked t operation .stopped) q operation true).axis b).atRest = true
    rw [axis_haltedOp, haltedIf, if_pos named]
    exact atRest_halted moving homing settling
  have foundAt : h.entry o'.tag = some { e with state := .stopping, cause := some .stopped } := by
    rw [show o'.tag = operation from tagged]
    exact entry_marked found runs .stopped
  have clean' : failureOf h o'.body = none := (failureOf_haltedOp q operation true o.body).trans clean
  have outcome : h.lensOutcome o' = (.suppressed, .stopped, .absent) := ((lensOutcome_eq foundAt).2 clean').1 rfl
  have ends : h.checkLensEnd operation =
      endedState h h.axis o' { e with state := .stopping, cause := some .stopped } .suppressed .stopped .absent := by
    rw [State.checkLensEnd, kept]
    exact (if_pos still).trans (endLensOp_eq outcome foundAt fun _ => ⟨pending, rfl⟩)
  have nobody : (h.checkLensEnd operation).csq.capture = none := by
    rw [ends]
    exact alone
  have stops : (marked t operation .stopped).stopLens operation true = h.checkLensEnd operation := by
    rw [State.stopLens, halts]
    split
    · rw [State.lensFreed, nobody]
    · rfl
  have d : endingD h o.body .suppressed = endingD t o.body .suppressed := by
    unfold endingD
    have back : h.backD = t.backD := backD_haltedOp (t := marked t operation .stopped) q operation true
    rw [back]
    rfl
  have fields := endingFields_haltedOp (t := marked t operation .stopped) q operation true (endingD t o.body .suppressed)
    o.body
  rw [stops, ends, endedState]
  simp only [show o'.tag = operation from tagged, show o'.body = o.body from rfl, d]
  rw [show endingFields h (endingD t o.body .suppressed) o.body = endingFields t (endingD t o.body .suppressed) o.body from
    fields, show h.opt.table.filter (fun f => f.tag != operation) = t.opt.table.filter (fun f => f.tag != operation) from
    filter_marked t operation .stopped, show h.ldu.ops.filter (fun p => p.tag != operation) =
    t.ldu.ops.filter (fun p => p.tag != operation) from filter_waitStopped t.ldu.ops operation true]
  have axis (a : Axis) : freedIf (q a) (h.axis a) = haltedFree (q a) (t.axis a) := by
    show freedIf (q a) ((haltedOp (marked t operation .stopped) q operation true).axis a) = _
    rw [axis_haltedOp]
    exact freedIf_haltedIf _ _
  rw [show freedIf (claims o.body .zoom) (h.axis .zoom) = haltedFree (claims o.body .zoom) t.ldu.zoom from axis .zoom,
    show freedIf (claims o.body .focus) (h.axis .focus) = haltedFree (claims o.body .focus) t.ldu.focus from axis .focus,
    show freedIf (claims o.body .iris) (h.axis .iris) = haltedFree (claims o.body .iris) t.ldu.iris from axis .iris]
  rfl

/-! ## A scan (R104) -/

theorem ownerStop_scan_marked {c : Scan} (kind : e.kind = .scan) (scan : t.fsu.scan = some c) (begun : c.begun = true) :
    (marked t operation .stopped).ownerStop e .stopped =
      { marked t operation .stopped with
          fsu := { t.fsu with scan := some { c with stop := some (c.stop.getD .stopped) } } } := by
  simp only [State.ownerStop, kind, stopScan_begun (s := marked t operation .stopped) scan begun]
  rfl

/-! ## A capture (R143, R146, R155) -/

section
variable {c : Capture} (capture : t.csq.capture = some c) (tagged : c.tag = operation)

/-- What is left where a capture ends with its stop. -/
def captureEnded (t : State) (operation : Nat) (e : OpEntry) (cls : EndClass) (resume : Resume) (fields : EndFields)
    (request : Bool) (state : CsqState) : State :=
  State.csqIdle
    { t with
        csq := { t.csq with state := state }, pbf := { t.pbf with request := request },
        opt := { table := t.opt.table.filter (fun f => f.tag != operation),
                 outbox := t.opt.outbox ++
                   [.ending { tag := operation, kind := e.kind, cls := cls, cause := .stopped, done := e.done,
                              resume := resume, result := none, fields := fields }] } }

theorem ownScan_quiet (quiet : ∀ x, t.fsu.scan = some x → x.user ≠ .prepare ∧ x.user ≠ .focusFirst) :
    t.ownScan = false := by
  unfold State.ownScan
  split
  next scan => exact absurd rfl (quiet _ scan).1
  next scan => exact absurd rfl (quiet _ scan).2
  next => rfl

include capture tagged

theorem stopCapture_prepare (kind : c.kind = .prepare) (waiting : Bool) :
    (marked t operation .stopped).stopCapture operation waiting = (marked t operation .stopped).stopPrepare c := by
  simp only [State.stopCapture, show (marked t operation .stopped).csq.capture = some c from capture, if_pos tagged,
    if_pos kind]

theorem stopCapture_shoot (kind : c.kind = .shoot) (waiting : Bool) :
    (marked t operation .stopped).stopCapture operation waiting =
      (marked t operation .stopped).stopShoot c waiting := by
  simp only [State.stopCapture, show (marked t operation .stopped).csq.capture = some c from capture, if_pos tagged, kind,
    reduceCtorEq, if_false]

variable (found : t.entry operation = some e) (runs : e.state ≠ .stopping)
include found runs

omit capture in
/-- A PREPARE before its scan ends SUPPRESSED. -/
theorem stopPrepare_unscanned {plan : ScanPlan} (planned : c.plan = some plan) (scan : t.fsu.scan = none) :
    (marked t operation .stopped).stopPrepare c =
      captureEnded t operation e .suppressed .absent (.prepare (t.unscanned plan) t.xLocked t.stu.state) t.pbf.request
        t.csq.state := by
  have none_ : (marked t operation .stopped).ownScan = false :=
    ownScan_quiet (t := marked t operation .stopped) fun x running => by
      rw [show (marked t operation .stopped).fsu.scan = none from scan] at running
      cases running
  have ends := ending_marked found runs .stopped .suppressed .stopped .absent
    (.prepare (t.unscanned plan) t.xLocked t.stu.state)
  simp only [State.stopPrepare, none_, Bool.false_eq_true, if_false, planned, State.endPrepare, tagged]
  exact congrArg State.csqIdle ends

omit capture in
/-- A SHOOT that waits, no scan of its own running, ends SUPPRESSED. -/
theorem stopShoot_waiting (quiet : ∀ x, t.fsu.scan = some x → x.user ≠ .prepare ∧ x.user ≠ .focusFirst) :
    (marked t operation .stopped).stopShoot c true =
      captureEnded t operation e .suppressed .absent
        (.shoot c.programIndex c.first c.last c.shutter t.xLocked c.ownPreparation c.scanEnd c.pictures) t.pbf.request
        t.csq.state := by
  have none_ : (marked t operation .stopped).ownScan = false := ownScan_quiet (t := marked t operation .stopped) quiet
  have ends := ending_marked found runs .stopped .suppressed .stopped .absent
    (.shoot c.programIndex c.first c.last c.shutter t.xLocked c.ownPreparation c.scanEnd c.pictures)
  simp only [State.stopShoot, none_, Bool.false_eq_true, if_false, if_true, State.endShoot, tagged,
    recordedCause_marked found runs]
  exact congrArg State.csqIdle ends

/-- A SHOOT between two pictures, none in intake, ends PARTIAL. -/
theorem enterFinishing_partial (pending : t.csq.pendingIntake = []) (refine_ : c.refine ≠ .running)
    (clean : c.failure = none) (short : e.done < c.last + 1 - c.first) :
    (marked t operation .stopped).enterFinishing =
      captureEnded t operation e .partialEnd (.shoot c.programIndex (c.last + 1 - c.first - e.done))
        (.shoot c.programIndex c.first c.last c.shutter t.xLocked c.ownPreparation c.scanEnd c.pictures) false
        .finishing := by
  let f : State := { t with csq := { t.csq with state := .finishing }, pbf := { t.pbf with request := false } }
  have finish : ((marked t operation .stopped).setRequest false).setCsq .finishing = marked f operation .stopped := rfl
  have foundF : f.entry operation = some e := found
  have units : (marked f operation .stopped).unitsDone operation = e.done := by
    rw [State.unitsDone, entry_marked foundF runs]
  have cause := recordedCause_marked (t := f) foundF runs
  have ends := ending_marked foundF runs .stopped .partialEnd .stopped
    (.shoot c.programIndex (c.last + 1 - c.first - e.done))
    (.shoot c.programIndex c.first c.last c.shutter t.xLocked c.ownPreparation c.scanEnd c.pictures)
  have capture' : (marked f operation .stopped).csq.capture = some c := capture
  have over_ : (marked f operation .stopped).csq.state = .finishing ∧ (marked f operation .stopped).csq.pendingIntake = [] ∧
      c.refine ≠ .running := ⟨rfl, pending, refine_⟩
  rw [State.enterFinishing, finish, State.checkFinish, capture']
  refine (if_pos over_).trans ?_
  simp only [clean, Capture.planned, tagged, units, if_neg (Nat.not_le.mpr short), cause, State.endShoot]
  exact congrArg State.csqIdle ends

end

end

/-- A SHOOT is between two pictures. -/
def Finishes (t : State) (c : Capture) : Prop :=
  t.csq.state = .waitBuffer ∨ (t.csq.state = .interval ∧ c.refine ≠ .running)

theorem stopShoot_finishes {t : State} {c : Capture} (between : Finishes t c) (operation : Nat) :
    (marked t operation .stopped).stopShoot c false = (marked t operation .stopped).enterFinishing := by
  rw [State.stopShoot]
  refine (if_neg Bool.false_ne_true).trans ?_
  obtain waits | ⟨counts, quiet⟩ := between
  · rw [show (marked t operation .stopped).csq.state = .waitBuffer from waits]
  · rw [show (marked t operation .stopped).csq.state = .interval from counts]
    exact if_neg quiet

theorem stopShoot_onward {t : State} {c : Capture} (onward : ¬ Finishes t c) (operation : Nat) :
    (marked t operation .stopped).stopShoot c false = marked t operation .stopped := by
  rw [State.stopShoot]
  refine (if_neg Bool.false_ne_true).trans ?_
  split
  · rename_i waits
    exact absurd (.inl waits) onward
  · rename_i counts
    exact if_pos (Decidable.by_contra fun quiet => onward (.inr ⟨counts, quiet⟩))
  · rfl

/-- The lens operations' kinds. -/
theorem ownerStop_lens {s : State} {e : OpEntry} (kind : e.kind = .home ∨ e.kind = .move ∨ e.kind = .zoom ∨ e.kind = .park)
    (cause : StopCause) : s.ownerStop e cause = s.stopLens e.tag (e.state == .waiting) := by
  unfold State.ownerStop
  obtain kind | kind | kind | kind := kind <;> rw [kind]

/-- A lens operation that has not failed. -/
def Unfailed (t : State) : LensBody → Prop
  | .home z f i => z ≠ .failed ∧ f ≠ .failed ∧ i ≠ .failed
  | .move b _ _ => (t.axis b).pp ≠ none
  | .zoom _ _ _ _ lost => lost = none
  | .park lost => lost = none

theorem failureOf_unfailed {t : State} {body : LensBody} (clean : Unfailed t body) : failureOf t body = none := by
  cases body with
  | home z f i => simp only [failureOf, clean.1, clean.2.1, clean.2.2, or_self, if_false]
  | move b v clampFlag => exact if_neg clean
  | zoom start v follow clampFlag lost => rw [failureOf, show lost = none from clean]; rfl
  | park lost => rw [failureOf, show lost = none from clean]; rfl

/-- The stop of a lens operation, by what its axes are doing. -/
theorem stop_lens {tag operation : Nat} {s t : State} {e : OpEntry} {o : LensOp}
    (reaches : s.reaches (.stop tag operation) tag t) (found : t.entry operation = some e) (runs : e.state ≠ .stopping)
    (kind : e.kind = .home ∨ e.kind = .move ∨ e.kind = .zoom ∨ e.kind = .park) (op : t.lensOp operation = some o)
    (waits : ∀ b ∈ t.ldu.waitList,
      stoppedAxes o.body (e.state == .waiting) b = true ∧ (t.axis b).state = .awaitingSlot) :
    let q := stoppedAxes o.body (e.state == .waiting)
    ((∃ a, q a = true ∧ ((t.axis a).state = .moving ∨ (t.axis a).state = .homing)) →
      exec (.stop tag operation) s =
        .next ((haltedOp (marked t operation .stopped) q operation (e.state == .waiting)).reply tag (.done []))) ∧
    (e.state = .waiting → t.ldu.pendingIris = none → t.csq.capture = none →
      (∀ a, q a = true → (t.axis a).state ≠ .moving ∧ (t.axis a).state ≠ .homing ∧ (t.axis a).state ≠ .settling) →
      Unfailed t o.body →
      exec (.stop tag operation) s =
        .next
          (State.reply
            { t with
                ldu := { t.ldu with
                  zoom := haltedFree (q .zoom) t.ldu.zoom, focus := haltedFree (q .focus) t.ldu.focus,
                  iris := haltedFree (q .iris) t.ldu.iris, waitList := [],
                  d := endingD t o.body .suppressed, ops := t.ldu.ops.filter fun p => p.tag != operation },
                opt := { table := t.opt.table.filter (fun f => f.tag != operation),
                         outbox := t.opt.outbox ++
                           [.ending { tag := operation, kind := e.kind, cls := .suppressed, cause := .stopped,
                                      done := e.done, resume := .absent, result := none,
                                      fields := endingFields t (endingD t o.body .suppressed) o.body }] } }
            tag (.done []))) := by
  intro q
  have owner {u : State} (stops : (marked t operation .stopped).stopLens operation (e.state == .waiting) = u) :
      exec (.stop tag operation) s = .next (u.reply tag (.done [])) :=
    stop_owner reaches found runs ((ownerStop_lens kind .stopped).trans (by rw [entry_tagged found, stops]))
  refine ⟨?_, fun waiting pending alone rest clean => owner ?_⟩
  · rintro ⟨a, named, moves⟩
    exact owner (stopLens_moving (s := marked t operation .stopped) op (e.state == .waiting) waits named moves)
  · have all : q = claims o.body := by
      simp only [q, waiting, beq_self_eq_true]
      exact stoppedAxes_waiting o.body
    rw [all] at rest
    rw [show stoppedAxes o.body (e.state == .waiting) = claims o.body from all] at waits
    rw [all, waiting]
    exact stopLens_suppressed found runs op waits pending alone rest (failureOf_unfailed clean)

/-- What a capture's ending with its stop leaves, told block by block. -/
theorem captureEnded_idles (t : State) (tag operation : Nat) (e : OpEntry) (cls : EndClass) (resume : Resume)
    (fields : EndFields) (request : Bool) (state : CsqState) :
    let u := (captureEnded t operation e cls resume fields request state).reply tag (.done [])
    u.opt = { table := t.opt.table.filter (fun f => f.tag != operation),
              outbox := t.opt.outbox ++
                [.ending { tag := operation, kind := e.kind, cls := cls, cause := .stopped, done := e.done,
                           resume := resume, result := none, fields := fields }] } ∧
      u.csq = { t.csq with state := .idle, capture := none } ∧ u.exc = { t.exc with lock := .none } ∧
      u.stu.window = false ∧ u.stu.mode = t.stu.mode ∧ u.stu.offset = t.stu.offset ∧
      u.ldu = { t.ldu with zoom := letGo t.ldu.zoom, focus := letGo t.ldu.focus } ∧
      u.pbf = { t.pbf with request := false } ∧
      u.lif = { t.lif with replies := t.lif.replies ++ [{ tag := tag, body := .done [] }] } ∧
      u.otb = t.otb ∧ u.fmn = t.fmn ∧ u.fsu = t.fsu ∧ u.pcs = t.pcs ∧ u.csu = t.csu := by
  rw [captureEnded, csqIdle_eq]
  exact ⟨rfl, rfl, rfl, windowed_window _ _, windowed_mode _ _, windowed_offset _ _, rfl, rfl, rfl, rfl, rfl, rfl, rfl,
    rfl⟩

/-- Settles O11, by the kind of the operation and what it is doing. -/
theorem stopTaken : Obligations.StopTaken := by
  unfold Obligations.StopTaken
  intro halt tag operation s t reaches
  refine ⟨fun absent => ?_, fun e found => ⟨fun stopping => stop_again reaches found stopping, fun runs =>
    ⟨fun kind => ?_, fun kind => ⟨fun goes => ?_, fun c first cal between => ?_⟩, fun o kind op => ?_, fun c ops kind scan
      user => ⟨fun begun => ?_, fun begun alone waits => ?_⟩, fun c capture tagged kind => ?_, fun kind => ?_⟩⟩⟩
  · simp only [exec_stop reaches, State.stopRequest, absent]
    rfl
  all_goals have own := entry_tagged found
  all_goals have owner {u : State} (eq : (marked t operation .stopped).ownerStop e .stopped = u) :=
    stop_owner reaches found runs eq
  · refine owner ?_
    unfold State.ownerStop
    obtain kind | kind | kind | kind := kind <;> rw [kind] <;> rfl
  · refine owner ?_
    simp only [State.ownerStop, kind, State.stopCalibration]
    split
    · rfl
    · rename_i c cal
      exact if_neg (goes c cal)
  · refine owner ?_
    simp only [State.ownerStop, kind, own]
    rw [← kind]
    exact stopCalibration_between found runs first cal between
  · obtain ⟨tag', body, stopped⟩ := o
    cases body with
    | home z f i => exact stop_lens reaches found runs kind op
    | move b v clampFlag =>
      cases b <;> exact stop_lens reaches found runs kind op
    | zoom start v follow clampFlag lost => exact stop_lens reaches found runs kind op
    | park lost => exact stop_lens reaches found runs kind op
  · exact owner (ownerStop_scan_marked kind scan begun)
  · subst own
    refine owner ((Shoots.ownerStop_scan_unbegun kind found runs scan user begun .stopped waits).trans ?_)
    rw [State.lensFreed, show (Shoots.suppressedScan t e c (stopCauseOf .stopped)).csq.capture = none from alone]
    rfl
  · have shoot (shoots : c.kind = .shoot) : (marked t operation .stopped).ownerStop e .stopped =
        (marked t operation .stopped).stopShoot c (e.state == .waiting) := by
      simp only [State.ownerStop, kind, shoots, own]
      exact stopCapture_shoot capture tagged shoots _
    refine ⟨fun plan preparing planned quiet => ?_, fun shoots waiting => ⟨fun quiet => ?_, fun x scan user begun => ?_⟩,
      fun shoots running => ⟨fun goes => ?_, fun ends pending => ?_, fun ends pending refine_ clean short => ?_⟩⟩
    · have stops : (marked t operation .stopped).ownerStop e .stopped = (marked t operation .stopped).stopPrepare c := by
        simp only [State.ownerStop, kind, preparing, own]
        exact stopCapture_prepare capture tagged preparing _
      exact ⟨_, owner (stops.trans (stopPrepare_unscanned tagged found runs planned quiet)),
        captureEnded_idles t tag operation e _ _ _ _ _⟩
    · have stops := shoot shoots
      rw [waiting] at stops
      exact ⟨_, owner (stops.trans (stopShoot_waiting tagged found runs quiet)),
        captureEnded_idles t tag operation e _ _ _ _ _⟩
    · have stops := shoot shoots
      rw [waiting] at stops
      have mine : (marked t operation .stopped).ownScan = true := by
        rw [State.ownScan, show (marked t operation .stopped).fsu.scan = some x from scan]
        obtain ⟨_, _, _, _, _, _, _, _, _, _, _, _⟩ := x
        cases user
        rfl
      have halts := stopScan_begun (s := marked t operation .stopped) scan begun .stopped
      refine owner (stops.trans ?_)
      rw [State.stopShoot]
      refine (if_pos rfl).trans ((if_pos mine).trans ?_)
      rw [halts]
      rfl
    all_goals have stops := shoot shoots
    all_goals rw [running] at stops
    · refine owner (stops.trans (stopShoot_onward goes operation))
    · refine owner (stops.trans ((stopShoot_finishes ends operation).trans ?_))
      obtain ⟨id, ids, pictures⟩ := List.exists_cons_of_ne_nil pending
      exact enterFinishing_waits (s := marked t operation .stopped) pictures
    · exact ⟨_, owner (stops.trans ((stopShoot_finishes ends operation).trans
        (enterFinishing_partial capture tagged found runs pending refine_ clean short))),
        captureEnded_idles t tag operation e _ _ _ _ _⟩
  · refine owner ?_
    simp only [State.ownerStop, kind, own]
    rw [stopHold_eq found runs, kind]
    rfl

end Sys2Proof.Proofs.StopRequests
end

section
/-! PROOFS. A scan that has begun: its travels, its comparisons, and its ends (R98 to R105, R107, R109). -/

namespace Sys2Proof.Proofs.Scans
open Sys2Proof Sys2Proof.Machine Sys2Proof.Proofs Sys2Proof.Proofs.CardFacts Sys2Proof.Proofs.ScanStarts
open Sys2Proof.Proofs.HomingFacts

-- one declaration after another: each unfolds operations whose equations another would be waiting for
set_option Elab.async false

/-! ## Focus travels for a scan (R98, R102) -/

/-- A scan, its own or a capture's, owns the axis. -/
def ScanOwned (o : Option Owner) : Prop := (∃ tag, o = some (.op .scan tag)) ∨ ∃ kind, o = some (.capture kind)

/-- Focus stands HELD for a scan, and a slot is free. -/
structure FocusReady (s : State) (pp : Nat) : Prop where
  pp : s.ldu.focus.pp = some pp
  held : s.ldu.focus.state = .held
  homing : s.ldu.focus.homing = .none
  idle : s.ldu.waitList = []
  slots : s.slotHolders.length < 2
  owner : ScanOwned s.ldu.focus.owner

/-- The state with focus stepping toward a position for a scan. -/
def focusTravels (s : State) (v pp : Nat) (c : Scan) : State :=
  { s with
      ldu := { s.ldu with focus := { s.ldu.focus with
        target := some v, state := .moving, timer := none, after := .goOn, stepUp := decide (pp < v),
        stepTime := s.ldu.focus.setup.interval } },
      fsu := { s.fsu with scan := some c } }

/-- Focus under a scan is granted its first step (R22). -/
theorem granted_scan {s : State} {r : AxisRec} {f goal : Nat} (stands : s.ldu.focus = r) (owner : ScanOwned r.owner)
    (homing : r.homing = .none) (pp : r.pp = some f) (target : r.target = some goal) (apart : goal ≠ f) :
    s.granted .focus =
      s.setAxis .focus
        { r with state := .moving, timer := none, after := .goOn, stepUp := decide (f < goal),
                 stepTime := r.setup.interval } := by
  subst stands
  have underway : s.ldu.focus.arrived = false := by simp [AxisRec.arrived, pp, target, apart]
  have asks : ¬ s.ldu.focus.homing = .pending := by rw [homing]; decide
  obtain ⟨tag, owner⟩ | ⟨kind, owner⟩ := owner
  all_goals
    simp only [State.granted, State.axis, if_neg asks, underway, owner, State.beginStep, pp, target, Option.getD_some]
    rfl

section
variable {s : State} {pp v : Nat} {c : Scan} (ready : FocusReady s pp)
include ready

/-- A HELD focus sets out. -/
theorem focus_setsOut (apart : v ≠ pp) (d : Scan) :
    ∃ t, s.giveTarget .focus v = (t, .underway) ∧ (t.setScan (some d)).arbitrate = focusTravels s v pp d := by
  refine ⟨_, State.giveTarget_held s .focus v pp ready.pp apart ready.held, ?_⟩
  let u := s.setScan (some d)
  let r : AxisRec := { s.ldu.focus with target := some v }
  have rests : (u.axis .focus).stepping = false := by
    show s.ldu.focus.stepping = false
    rw [AxisRec.stepping, ready.held]
  have first := granted_scan (s := u.setAxis .focus { r with state := .awaitingSlot, timer := none }) rfl ready.owner
    ready.homing ready.pp rfl apart
  have grants := joinWait_arbitrate (s := u) (a := .focus) (r := r) ready.idle ready.slots rests
    (by rw [first]; exact ready.idle)
  exact grants.trans first

theorem travelFinal_travels (apart : v ≠ pp) (goal : ScanGoal) :
    s.travelFinal c v goal = (focusTravels s v pp { c with phase := .finalTravel, goal := some goal }, .none) := by
  obtain ⟨t, given, travels⟩ := focus_setsOut ready apart { c with phase := .finalTravel, goal := some goal }
  rw [State.travelFinal, given]
  exact Prod.ext travels rfl

/-- The next unit begins. -/
theorem travelUnit_travels {i : Nat} (begun : c.begun = true) (next : c.position i = v) (apart : v ≠ pp) :
    s.travelUnit c i = (focusTravels s v pp { c with index := i, p := v, phase := .travel }, .none) := by
  obtain ⟨t, given, travels⟩ := focus_setsOut ready apart { c with index := i, p := v, phase := .travel }
  rw [State.travelUnit, next, given]
  refine (if_neg fun waits => ?_).trans (Prod.ext travels rfl)
  rw [begun] at waits
  exact Bool.noConfusion waits.1

/-- A focus that stands at its final position has arrived. -/
theorem travelFinal_here (goal : ScanGoal) :
    s.travelFinal c pp goal =
      State.finalArrival { s with ldu := { s.ldu with focus := { s.ldu.focus with target := some pp } } }
        { c with phase := .finalTravel, goal := some goal } := by
  rw [State.travelFinal, State.giveTarget_held_here s .focus pp ready.pp ready.held]
  exact congrArg (fun u : State => u.finalArrival { c with phase := .finalTravel, goal := some goal })
    (State.arbitrate_nil _ ready.idle)

end

/-! ## The ending of a SCAN (R103 to R105, R107) -/

theorem lensFreed_alone {s : State} (alone : s.csq.capture = none) (tag : Nat) : s.lensFreed tag = s := by
  rw [State.lensFreed, alone]

/-- The resume operands of a scan's ending. -/
def resumeOf (cls : EndClass) (next : Option Nat) (stop : Nat) (o : ScanOperands) : Resume :=
  match cls, next with
  | .partialEnd, some n => .scan { o with start := some n, stop := some stop }
  | .nullified, some n => .scan { o with start := some n, stop := some stop }
  | _, _ => .absent

/-- The state after the ending of a SCAN: the scan gone, focus free, the entry out of the table. -/
def scanEnded (s : State) (tag : Nat) (e : OpEntry) (cls : EndClass) (cause : Cause) (made : Nat) (resume : Resume)
    (result : Option Nat) (fields : ScanFields) : State :=
  { s with
      fsu := { s.fsu with scan := none },
      ldu := { s.ldu with focus := { s.ldu.focus with owner := none } },
      opt := { table := s.opt.table.filter fun f => f.tag != tag,
               outbox := s.opt.outbox ++
                 [.ending { tag := tag, kind := e.kind, cls := cls, cause := cause, done := made, resume := resume,
                            result := result, fields := .scan fields }] } }

section
variable {s : State} {c : Scan} {tag : Nat} {o : ScanOperands} {e : OpEntry} (user : c.user = .scan tag o)
include user

/-- A SCAN is told its end: its entry ends and focus is free; no capture waits for it. -/
theorem deliver_ended (found : s.entry tag = some e) (alone : s.csq.capture = none) (cls : EndClass) (cause : Cause)
    (result : Option ScanResult) (window next : Option Nat) :
    State.deliver (s.finishScan c cls cause result window next) =
      scanEnded s tag e cls cause e.done (resumeOf cls next c.plan.stop o) (result.map scanResultCode)
        (s.scanFields c window) := by
  have resume : scanResume ⟨c.user, cls, cause, result, s.scanFields c window, next⟩ o =
      resumeOf cls next c.plan.stop o := rfl
  have ends := ending_eq (s := s.setScan none) (tag := tag) found cls cause (resumeOf cls next c.plan.stop o)
    (result.map scanResultCode) (.scan (s.scanFields c window))
  have told : State.deliver (s.finishScan c cls cause result window next) =
      (((s.setScan none).ending tag cls cause (resumeOf cls next c.plan.stop o) (result.map scanResultCode)
        (.scan (s.scanFields c window))).release [.focus]).lensFreed tag := by
    rw [State.finishScan, State.deliver, user, ← resume] <;> rfl
  rw [told, ends, Stops.release_focus]
  exact lensFreed_alone (s := scanEnded s tag e cls cause e.done (resumeOf cls next c.plan.stop o)
    (result.map scanResultCode) (s.scanFields c window)) alone tag

/-- A SCAN's unit counted and its end told. -/
theorem deliver_counted {w : State} (found : s.entry tag = some e) (alone : s.csq.capture = none)
    (counted : w.opt = (s.countUnit tag).opt) (same : w.csq = s.csq) (cls : EndClass) (cause : Cause)
    (result : Option ScanResult) (window next : Option Nat) :
    State.deliver (w.finishScan c cls cause result window next) =
      { scanEnded w tag e cls cause (min 65535 (e.done + 1)) (resumeOf cls next c.plan.stop o)
          (result.map scanResultCode) (w.scanFields c window) with
        opt := (scanEnded s tag e cls cause (min 65535 (e.done + 1)) (resumeOf cls next c.plan.stop o)
          (result.map scanResultCode) (w.scanFields c window)).opt } := by
  have kept : w.entry tag = some { e with done := min 65535 (e.done + 1) } := by
    rw [State.entry, counted]
    exact entry_updateEntry found fun _ => rfl
  have table := filter_updateEntry s tag (f := fun e => { e with done := min 65535 (e.done + 1) }) fun _ => rfl
  rw [deliver_ended user kept (by rw [same]; exact alone)]
  unfold scanEnded
  rw [counted, show (s.countUnit tag).opt.table.filter (fun x => x.tag != tag) = _ from table]
  rfl

/-- A wait fails where focus stays. -/
theorem waitFails_stays (found : s.entry tag = some e) (alone : s.csq.capture = none)
    (stays : c.plan.settings.hold = .stay ∨ c.best = none) (cause : Cause) :
    State.deliver (s.waitFails c cause) =
      scanEnded s.recomputeD tag e .nullified cause e.done
        (.scan { o with start := some c.p, stop := some c.plan.stop }) none (s.recomputeD.scanFields c none) := by
  have fails : s.waitFails c cause = s.recomputeD.finishScan c .nullified cause none none (some c.p) := by
    rw [State.waitFails, user]
    obtain hold | best := stays
    · rw [hold]
    · rw [best]
      cases c.plan.settings.hold <;> rfl
  rw [fails]
  exact deliver_ended (s := s.recomputeD) user found alone .nullified cause none none (some c.p)

omit user in
/-- A wait fails where focus goes back to its best. -/
theorem waitFails_best {b : Best} (planned : ScanUser.planned c.user) (hold : c.plan.settings.hold = .best)
    (best : c.best = some b) (cause : Cause) : s.waitFails c cause = s.travelFinal c b.pos (.nullified cause) := by
  unfold State.waitFails
  split
  · rename_i centre positions asked
    exact absurd asked (planned centre positions)
  · rw [hold, best]

/-- The window a complete scan links (R103). -/
def linked (result : ScanResult) (windows : List (Nat × Nat)) : Option Nat :=
  if result = .lowContrast then none else linkedWindow windows

/-- EXC with the linked window of a complete scan, where it links one (R103). -/
def withWindow (x : Exc) (window : Option Nat) : Exc :=
  match window with
  | some w => { x with window := w }
  | none => x

/-- The arrival of a hit, or of a SCAN that ran out of positions. -/
theorem finalArrival_complete {result : ScanResult} {windows : List (Nat × Nat)} (found : s.entry tag = some e)
    (alone : s.csq.capture = none) (goal : c.goal = some (.complete result windows)) :
    State.deliver (s.finalArrival c) =
      { scanEnded s.recomputeD tag e .complete .none (min 65535 (e.done + 1)) .absent
          (some (scanResultCode result)) (s.recomputeD.scanFields c (linked result windows)) with
        exc := withWindow s.exc (linked result windows) } := by
  let w : State :=
    { s.recomputeD with opt := (s.countUnit tag).opt, exc := withWindow s.exc (linked result windows) }
  have counts : s.countScanUnit c = s.countUnit tag := by
    rw [State.countScanUnit, user] <;> rfl
  have arrives : s.finalArrival c = w.finishScan c .complete .none (some result) (linked result windows) none := by
    rw [State.finalArrival, goal]
    dsimp only
    rw [counts]
    simp only [w, linked]
    generalize (if result = .lowContrast then none else linkedWindow windows) = window
    cases window <;> rfl
  rw [arrives]
  exact deliver_counted (s := s) (w := w) user found alone rfl rfl .complete .none (some result)
    (linked result windows) none

theorem finalArrival_nullified {cause : Cause} (found : s.entry tag = some e) (alone : s.csq.capture = none)
    (goal : c.goal = some (.nullified cause)) :
    State.deliver (s.finalArrival c) =
      scanEnded s.recomputeD tag e .nullified cause e.done
        (.scan { o with start := some c.p, stop := some c.plan.stop }) none (s.recomputeD.scanFields c none) := by
  have arrives : s.finalArrival c = s.recomputeD.finishScan c .nullified cause none none (some c.p) := by
    rw [State.finalArrival, goal]
  rw [arrives]
  exact deliver_ended (s := s.recomputeD) user found alone .nullified cause none none (some c.p)

end

/-! ## A record compared (R64, R94, R99 to R102, R104, R109) -/

/-- A figure that becomes the best. -/
def betterThan (c : Scan) (v : Nat) : Bool :=
  match c.best with
  | none => true
  | some b => decide (b.value < v)

/-- A scan after a figure of its unit. -/
def updated (c : Scan) (v : Nat) (values : List (Nat × Nat)) : Scan :=
  match c.best with
  | none => { c with best := some { value := v, pos := c.p, windows := values } }
  | some b =>
    if b.value < v then
      { c with best := some { value := v, pos := c.p, windows := values }, rise := min 255 (c.rise + 1) }
    else c

theorem update_eq (c : Scan) (v : Nat) (values : List (Nat × Nat)) :
    c.update v values = (updated c v values, betterThan c v) := by
  unfold Scan.update updated betterThan
  cases c.best with
  | none => rfl
  | some b =>
    dsimp only
    by_cases better : b.value < v
    · rw [if_pos better, if_pos better, decide_eq_true better]
    · rw [if_neg better, if_neg better, decide_eq_false better]

/-- What a figure leaves of a scan. -/
theorem updated_keeps (c : Scan) (v : Nat) (values : List (Nat × Nat)) :
    (updated c v values).user = c.user ∧ (updated c v values).plan = c.plan ∧ (updated c v values).index = c.index ∧
      (updated c v values).p = c.p ∧ (updated c v values).begun = c.begun ∧ (updated c v values).stop = c.stop := by
  unfold updated
  split
  · exact ⟨rfl, rfl, rfl, rfl, rfl, rfl⟩
  · split <;> exact ⟨rfl, rfl, rfl, rfl, rfl, rfl⟩

theorem updated_worse {c : Scan} {v : Nat} (worse : betterThan c v = false) (values : List (Nat × Nat)) :
    updated c v values = c := by
  unfold betterThan at worse
  unfold updated
  split at worse
  · exact Bool.noConfusion worse
  · rename_i b best
    exact if_neg (of_decide_eq_false worse)

theorem position_updated (c : Scan) (v : Nat) (values : List (Nat × Nat)) (i : Nat) :
    (updated c v values).position i = c.position i := by
  obtain ⟨user, plan, -⟩ := updated_keeps c v values
  simp only [Scan.position, user, plan]

/-- The condition PEAK is hit by a figure (R100). -/
def Peaks (c : Scan) (v : Nat) : Prop :=
  c.plan.settings.condition = .peak ∧ betterThan c v = false ∧
    ∀ b, c.best = some b →
      2 ≤ c.rise ∧ v * 16 < b.value * (16 - c.plan.settings.fall) ∧ c.plan.settings.minimum ≤ b.value

/-- The condition ABOVE is hit by a figure (R101). -/
def Exceeds (c : Scan) (v : Nat) : Prop := c.plan.settings.condition = .above ∧ c.plan.settings.threshold ≤ v

section
variable {c : Scan} {v : Nat} {values : List (Nat × Nat)}

theorem best_worse (worse : betterThan c v = false) : ∃ b, c.best = some b := by
  unfold betterThan at worse
  split at worse
  · exact Bool.noConfusion worse
  · rename_i b best
    exact ⟨b, best⟩

theorem hit_refine {centre : Nat} {positions : List Nat} (user : c.user = .refine centre positions) :
    (updated c v values).hit (betterThan c v) v values = none := by
  simp only [Scan.hit, (updated_keeps c v values).1, user]

variable {tag : Nat} {o : ScanOperands} (user : c.user = .scan tag o)
include user

theorem hit_peak {b : Best} (peaks : Peaks c v) (best : c.best = some b) :
    (updated c v values).hit (betterThan c v) v values = some (b.pos, b.windows) := by
  obtain ⟨condition, worse, falls⟩ := peaks
  simp only [updated_worse worse, Scan.hit, user, condition, worse, Bool.false_eq_true, if_false, Scan.peakHit, best,
    if_pos (falls b best)]

theorem hit_above (exceeds : Exceeds c v) :
    (updated c v values).hit (betterThan c v) v values = some (c.p, values) := by
  obtain ⟨condition, enough⟩ := exceeds
  obtain ⟨same, plan, -, p, -⟩ := updated_keeps c v values
  simp only [Scan.hit, same, user, plan, condition, if_pos enough, p]

theorem hit_none (flat : ¬ Peaks c v) (low : ¬ Exceeds c v) :
    (updated c v values).hit (betterThan c v) v values = none := by
  obtain ⟨same, plan, -⟩ := updated_keeps c v values
  cases condition : c.plan.settings.condition with
  | above =>
    have below : ¬ c.plan.settings.threshold ≤ v := fun enough => low ⟨condition, enough⟩
    simp only [Scan.hit, same, user, plan, condition, if_neg below]
  | peak =>
    simp only [Scan.hit, same, user, plan, condition]
    split
    · rfl
    · rename_i worse
      have worse := Bool.not_eq_true _ ▸ worse
      obtain ⟨b, best⟩ := best_worse worse
      rw [updated_worse worse, Scan.peakHit, best]
      refine if_neg fun falls => flat ⟨condition, worse, ?_⟩
      rintro b' same'
      obtain rfl := Option.some.inj (best.symm.trans same')
      exact falls

end

section
variable {s : State} {c : Scan} {r : FrameRec} {v : Nat} {values : List (Nat × Nat)}
  (given : windowValues c.plan.settings.mask r.contrasts = values) (sum : figure values = v)
include given sum

theorem compare_hit {pos : Nat} {windows : List (Nat × Nat)}
    (hit : (updated c v values).hit (betterThan c v) v values = some (pos, windows)) :
    s.compareRecord c r = s.travelFinal (updated c v values) pos (.complete .hit windows) := by
  subst given sum
  simp only [State.compareRecord, update_eq, hit]

variable (missed : (updated c v values).hit (betterThan c v) v values = none)
include missed

/-- The positions have run out. -/
theorem compare_last (last : c.plan.planned ≤ c.index + 1) :
    s.compareRecord c r = s.positionsOut (updated c v values) := by
  subst given sum
  obtain ⟨-, plan, index, -⟩ := updated_keeps c (figure (windowValues c.plan.settings.mask r.contrasts))
    (windowValues c.plan.settings.mask r.contrasts)
  simp only [State.compareRecord, update_eq, missed, plan, index, if_pos last]

theorem compare_stopped (more : c.index + 1 < c.plan.planned) {cause : StopCause} (stop : c.stop = some cause) :
    s.compareRecord c r =
      (s.countScanUnit (updated c v values)).recomputeD.finishScan (updated c v values) .partialEnd
        (stopCauseOf cause) none none (some (c.position (c.index + 1))) := by
  subst given sum
  obtain ⟨-, plan, index, -, -, stops⟩ := updated_keeps c (figure (windowValues c.plan.settings.mask r.contrasts))
    (windowValues c.plan.settings.mask r.contrasts)
  simp only [State.compareRecord, update_eq, missed, plan, index, if_neg (Nat.not_le.mpr more), stops, stop,
    position_updated]

theorem compare_next (more : c.index + 1 < c.plan.planned) (runs : c.stop = none) :
    s.compareRecord c r =
      (s.countScanUnit (updated c v values)).travelUnit (updated c v values) (c.index + 1) := by
  subst given sum
  obtain ⟨-, plan, index, -, -, stops⟩ := updated_keeps c (figure (windowValues c.plan.settings.mask r.contrasts))
    (windowValues c.plan.settings.mask r.contrasts)
  simp only [State.compareRecord, update_eq, missed, plan, index, if_neg (Nat.not_le.mpr more), stops, runs]

end

section
variable {s : State} {c : Scan} {b : Best} (best : c.best = some b)
include best

theorem positionsOut_enough (planned : ScanUser.planned c.user) (enough : c.plan.settings.minimum ≤ b.value) :
    s.positionsOut c = s.travelFinal c b.pos (.complete .notSatisfied b.windows) := by
  simp only [State.positionsOut, best, Option.map_some, Option.getD_some, decide_eq_true enough, if_true]
  split
  · rename_i centre positions asked
    exact absurd asked (planned centre positions)
  · rfl

theorem positionsOut_low (planned : ScanUser.planned c.user) (low : b.value < c.plan.settings.minimum)
    (geometry : s.lensGeometry = true) :
    s.positionsOut c =
      s.travelFinal c (s.reading (·.fInf) s.zoomStep).toNat (.complete .lowContrast []) := by
  simp only [State.positionsOut, best, Option.map_some, Option.getD_some, decide_eq_false (Nat.not_le.mpr low),
    Bool.false_eq_true, if_false, State.infinityStep, geometry, if_true]
  split
  · rename_i centre positions asked
    exact absurd asked (planned centre positions)
  · rfl

theorem positionsOut_refine {centre : Nat} {positions : List Nat} (user : c.user = .refine centre positions) :
    s.positionsOut c =
      s.travelFinal c (if c.plan.settings.minimum ≤ b.value then b.pos else centre) .refined := by
  simp only [State.positionsOut, best, Option.map_some, Option.getD_some, user, decide_eq_true_eq]

end

/-! ## The wait for a frame (R64, R99) -/

/-- The record of a number stands after the settle mark, or the mark has left the ring. -/
def AfterMark (s : State) (mark : Option Nat) (n : Nat) : Prop :=
  ∀ k i, mark = some k → framePlace s.fmn.ring k = some i → ∃ j, framePlace s.fmn.ring n = some j ∧ i < j

theorem afterMark_iff (s : State) (mark : Option Nat) (n : Nat) : s.afterMark mark n = true ↔ AfterMark s mark n := by
  unfold State.afterMark AfterMark
  cases mark with
  | none => exact ⟨fun _ _ _ => nofun, fun _ => rfl⟩
  | some k =>
    rw [Option.bind_some]
    cases place : framePlace s.fmn.ring k with
    | none =>
      refine ⟨fun _ k' i same found => ?_, fun _ => rfl⟩
      obtain rfl := Option.some.inj same
      exact absurd (place.symm.trans found) nofun
    | some i =>
      dsimp only
      cases placed : framePlace s.fmn.ring n with
      | none =>
        refine ⟨fun absent => Bool.noConfusion absent, fun after => ?_⟩
        obtain ⟨j, found, -⟩ := after k i rfl place
        cases found
      | some j =>
        refine ⟨fun later k' i' same found => ⟨j, rfl, ?_⟩, fun after => ?_⟩
        · obtain rfl := Option.some.inj same
          obtain rfl := Option.some.inj (place.symm.trans found)
          exact of_decide_eq_true later
        · obtain ⟨j', found, later⟩ := after k i rfl place
          obtain rfl := Option.some.inj found
          exact decide_eq_true later

section
variable {s : State} {c : Scan} {r : FrameRec} (scan : s.fsu.scan = some c) (waits : c.phase = .frameWait)
include scan

theorem fsuOffer_ignores (ineligible : ¬ (r.movingFocus = false ∧ AfterMark s c.mark r.number)) :
    s.fsuOffer r = (s, .none) := by
  rw [State.fsuOffer, scan]
  refine if_neg ?_
  rintro ⟨-, still, after⟩
  exact ineligible ⟨still, (afterMark_iff s c.mark r.number).mp after⟩

include waits
variable (eligible : r.movingFocus = false ∧ AfterMark s c.mark r.number)
include eligible

theorem fsuOffer_takes :
    s.fsuOffer r =
      if r.marked then (if c.plan.settings.skip then (s, .none) else s.waitFails c .markedFrame)
      else s.compareRecord c r := by
  rw [State.fsuOffer, scan]
  exact if_pos ⟨waits, eligible.1, (afterMark_iff s c.mark r.number).mpr eligible.2⟩

theorem fsuOffer_skips (marked : r.marked = true) (skips : c.plan.settings.skip = true) : s.fsuOffer r = (s, .none) := by
  rw [fsuOffer_takes scan waits eligible, if_pos marked, if_pos skips]

theorem fsuOffer_fails (marked : r.marked = true) (counts : c.plan.settings.skip = false) :
    s.fsuOffer r = s.waitFails c .markedFrame := by
  rw [fsuOffer_takes scan waits eligible, if_pos marked, if_neg (Bool.eq_false_iff.mp counts)]

theorem fsuOffer_compares (clear : r.marked = false) : s.fsuOffer r = s.compareRecord c r := by
  rw [fsuOffer_takes scan waits eligible, if_neg (Bool.eq_false_iff.mp clear)]

end

end Sys2Proof.Proofs.Scans
end

section
/-! PROOFS. The record a scan waits for: what its comparison leads to (R64, R99 to R105, R109). -/

namespace Sys2Proof.Proofs.Comparisons
open Sys2Proof Sys2Proof.Machine Sys2Proof.Proofs Sys2Proof.Proofs.CardFacts Sys2Proof.Proofs.ScanStarts
open Sys2Proof.Proofs.Scans Sys2Proof.Proofs.Metering Sys2Proof.Proofs.Preparations

-- one declaration after another: each unfolds operations whose equations another would be waiting for
set_option Elab.async false

/-! ## The offer after EXC's metering (R75, log 10) -/

theorem converge_exc (s : State) (target : Int) :
    (s.converge target).1 = { s with exc := (s.converge target).1.exc } := by
  unfold State.converge
  dsimp only
  (repeat' split) <;> simp [setX_eq]

/-- EXC's metering changes its own registers alone. -/
theorem excOffer_exc (s : State) (r : FrameRec) : (s.excOffer r).1 = { s with exc := (s.excOffer r).1.exc } := by
  unfold State.excOffer
  split
  · split
    · rfl
    · split
      · rfl
      · exact converge_exc s _
  · rfl

/-- Out of PREPARING, a record offered reaches FSU after EXC. -/
theorem offer_reaches {s : State} (idle : s.csq.state ≠ .preparing) (r : FrameRec) :
    s.offer r = State.deliver ((s.excOffer r).1.fsuOffer r) := by
  have metered := excOffer_exc s r
  have other : (s.excOffer r).1.csq.state ≠ .preparing := by
    rw [metered]
    exact idle
  rw [State.offer]
  generalize s.excOffer r = offered at other ⊢
  obtain ⟨m, locked⟩ := offered
  dsimp only at other ⊢
  rw [goOnPreparing_other other, ite_self]

/-! ## What a filed record tells (R64) -/

theorem marked_iff (q : FrameRec) : q.marked = true ↔ q.expChanged = true ∨ q.unsteady = true ∨ q.hostMark = true := by
  rw [FrameRec.marked, Bool.or_eq_true, Bool.or_eq_true, or_assoc]

/-- A record replaced by one of its number keeps its place. -/
theorem findIdx_updateFirst {ring : List FrameRec} {frame : Nat} {q : FrameRec} (same : q.number = frame) (n : Nat) :
    (updateFirst (fun x => x.number == frame) (fun _ => q) ring).findIdx? (fun x => x.number == n) =
      ring.findIdx? fun x => x.number == n := by
  induction ring with
  | nil => rfl
  | cons x rest ih =>
    rw [updateFirst]
    split
    · rename_i here
      have number : q.number = x.number := same.trans (beq_iff_eq.mp here).symm
      rw [List.findIdx?_cons, List.findIdx?_cons, number]
    · rw [List.findIdx?_cons, List.findIdx?_cons, ih]

/-! ## What the comparison leads to -/

/-- A state metered from `t`, in which a scan waits for a frame. -/
structure Metered (t m : State) (c : Scan) (pp : Nat) : Prop where
  opt : m.opt = t.opt
  ldu : m.ldu = t.ldu
  otb : m.otb = t.otb
  count : m.freeCount = t.freeCount
  csq : m.csq = t.csq
  scan : m.fsu.scan = some c
  waits : c.phase = .frameWait
  pp : t.ldu.focus.pp = some pp

section
variable {t m : State} {c : Scan} {pp : Nat} (metered : Metered t m c pp)
include metered

theorem backD_metered : m.backD = t.backD := by
  unfold State.backD State.lensGeometry State.reading State.zoomStep
  rw [metered.ldu, metered.otb, metered.count]

theorem entry_metered (tag : Nat) : m.entry tag = t.entry tag := by
  rw [State.entry, State.entry, metered.opt]

/-- What the ENDING of a SCAN reports. -/
def reported (t : State) (c x : Scan) (pp : Nat) (window : Option Nat) : ScanFields :=
  { finalPP := some pp, start := c.plan.start, stop := c.plan.stop, clampFlag := c.plan.clampFlag,
    countFlag := c.plan.countFlag, best := x.best.map fun b => (b.pos, b.value), rise := x.rise, window := window,
    d := t.backD }

/-- The state after the ending of a SCAN, told of the state before the metering. -/
def scanOver (t m : State) (c x : Scan) (pp tag : Nat) (e : OpEntry) (cls : EndClass) (cause : Cause) (made : Nat)
    (resume : Resume) (result window : Option Nat) (focus : AxisRec) : State :=
  { m with
      fsu := { m.fsu with scan := none }, exc := withWindow m.exc window,
      ldu := { m.ldu with d := t.backD, focus := { focus with owner := none } },
      opt := { table := t.opt.table.filter (fun f => f.tag != tag),
               outbox := t.opt.outbox ++
                 [.ending { tag := tag, kind := e.kind, cls := cls, cause := cause, done := made, resume := resume,
                            result := result, fields := .scan (reported t c x pp window) }] } }

theorem scanEnded_metered {x : Scan} (plan : x.plan = c.plan) (tag : Nat) (e : OpEntry) (cls : EndClass) (cause : Cause)
    (made : Nat) (resume : Resume) (result : Option Nat) :
    scanEnded m.recomputeD tag e cls cause made resume result (m.recomputeD.scanFields x none) =
      scanOver t m c x pp tag e cls cause made resume result none t.ldu.focus := by
  have d := backD_metered metered
  have same := metered.pp
  rw [← metered.ldu] at same
  unfold scanEnded scanOver reported State.recomputeD State.scanFields
  dsimp only
  rw [metered.opt, d, ← metered.ldu, same, plan]
  rfl

/-- A wait that fails where focus stays. -/
theorem fails_stays {tag : Nat} {o : ScanOperands} {e : OpEntry} (user : c.user = .scan tag o)
    (found : t.entry tag = some e) (alone : t.csq.capture = none)
    (stays : c.plan.settings.hold = .stay ∨ c.best = none) (cause : Cause) :
    State.deliver (m.waitFails c cause) =
      scanOver t m c c pp tag e .nullified cause e.done
        (.scan { o with start := some c.p, stop := some c.plan.stop }) none none t.ldu.focus := by
  rw [waitFails_stays user ((entry_metered metered tag).trans found) (by rw [metered.csq]; exact alone) stays]
  exact scanEnded_metered metered rfl tag e _ _ _ _ _

variable {r : FrameRec}

/-- Focus stands ready for the next position. -/
def Ready (t : State) : Prop :=
  t.ldu.focus.state = .held ∧ t.ldu.focus.homing = .none ∧ t.ldu.waitList = [] ∧ t.slotHolders.length < 2 ∧
    ScanOwned t.ldu.focus.owner

theorem focusReady_metered (ready : Ready t) : FocusReady m pp := by
  obtain ⟨held, homing, idle, slots, owner⟩ := ready
  have holders : m.slotHolders = t.slotHolders := by
    rw [State.slotHolders_eq, State.slotHolders_eq, metered.ldu]
  have ldu := metered.ldu
  exact ⟨by rw [ldu]; exact metered.pp, by rw [ldu]; exact held, by rw [ldu]; exact homing, by rw [ldu]; exact idle,
    by rw [holders]; exact slots, by rw [ldu]; exact owner⟩

variable (ready : Ready t) {v : Nat} {values : List (Nat × Nat)}
  (given : windowValues c.plan.settings.mask r.contrasts = values) (sum : figure values = v)

section
variable {tag : Nat} {o : ScanOperands} {e : OpEntry} (user : c.user = .scan tag o)
include user

omit metered in
theorem planned_scan : ScanUser.planned c.user := by
  rw [user]
  exact fun _ _ => nofun

omit metered in
theorem countScanUnit_scan (values : List (Nat × Nat)) : m.countScanUnit (updated c v values) = m.countUnit tag := by
  rw [State.countScanUnit, (updated_keeps c v values).1, user] <;> rfl

include ready given sum

/-- A PEAK hit sends focus to the best. -/
theorem compares_peak {b : Best} (peaks : Peaks c v) (best : c.best = some b) (apart : b.pos ≠ pp) :
    State.deliver (m.compareRecord c r) =
      focusTravels m b.pos pp { c with phase := .finalTravel, goal := some (.complete .hit b.windows) } := by
  rw [compare_hit given sum (hit_peak user peaks best), updated_worse peaks.2.1,
    travelFinal_travels (focusReady_metered metered ready) apart]
  rfl

/-- Short of its minimum or not, a SCAN that has run out of positions sends focus on. -/
theorem compares_last (flat : ¬ Peaks c v) (low : ¬ Exceeds c v) (last : c.plan.planned ≤ c.index + 1) {b : Best}
    (best : (updated c v values).best = some b) :
    (c.plan.settings.minimum ≤ b.value → b.pos ≠ pp →
      State.deliver (m.compareRecord c r) =
        focusTravels m b.pos pp
          { updated c v values with phase := .finalTravel, goal := some (.complete .notSatisfied b.windows) }) ∧
    (b.value < c.plan.settings.minimum → t.lensGeometry = true → (t.reading (·.fInf) t.zoomStep).toNat ≠ pp →
      State.deliver (m.compareRecord c r) =
        focusTravels m (t.reading (·.fInf) t.zoomStep).toNat pp
          { updated c v values with phase := .finalTravel, goal := some (.complete .lowContrast []) }) := by
  obtain ⟨same, plan, -⟩ := updated_keeps c v values
  have planned : ScanUser.planned (updated c v values).user := by
    rw [same]
    exact planned_scan user
  have focus := focusReady_metered metered ready
  have runsOut := compare_last (s := m) given sum (hit_none user flat low) last
  refine ⟨fun enough apart => ?_, fun short geometry apart => ?_⟩
  · rw [runsOut, positionsOut_enough best planned (by rw [plan]; exact enough), travelFinal_travels focus apart]
    rfl
  · have reads : m.reading (·.fInf) m.zoomStep = t.reading (·.fInf) t.zoomStep := by
      unfold State.reading State.zoomStep
      rw [metered.ldu, metered.otb, metered.count]
    have valid : m.lensGeometry = true := by
      rw [State.lensGeometry, metered.ldu, metered.otb]
      exact geometry
    rw [runsOut, positionsOut_low best planned (by rw [plan]; exact short) valid, reads, travelFinal_travels focus apart]
    rfl

/-- The unit counts and the next begins. -/
theorem compares_next (flat : ¬ Peaks c v) (low : ¬ Exceeds c v) (more : c.index + 1 < c.plan.planned)
    (runs : c.stop = none) (begun : c.begun = true) {n : Nat} (next : c.position (c.index + 1) = n) (apart : n ≠ pp) :
    State.deliver (m.compareRecord c r) =
      focusTravels (m.countUnit tag) n pp
        { updated c v values with index := c.index + 1, p := n, phase := .travel } := by
  obtain ⟨-, -, -, -, begins, -⟩ := updated_keeps c v values
  have focus := focusReady_metered metered ready
  have counted : FocusReady (m.countUnit tag) pp :=
    ⟨focus.pp, focus.held, focus.homing, focus.idle, focus.slots, focus.owner⟩
  rw [compare_next given sum (hit_none user flat low) more runs, countScanUnit_scan user,
    travelUnit_travels counted (begins.trans begun) ((position_updated c v values _).trans next) apart]
  rfl

variable (found : t.entry tag = some e) (alone : t.csq.capture = none)
include found alone

/-- An ABOVE hit ends the scan where it stands. -/
theorem compares_above (exceeds : Exceeds c v) (here : c.p = pp) :
    State.deliver (m.compareRecord c r) =
      scanOver t m c (updated c v values) pp tag e .complete .none (min 65535 (e.done + 1)) .absent (some 0)
        (linkedWindow values) { t.ldu.focus with target := some pp } := by
  obtain ⟨same, plan, -⟩ := updated_keeps c v values
  let u : State := { m with ldu := { m.ldu with focus := { m.ldu.focus with target := some pp } } }
  let x : Scan := { updated c v values with phase := .finalTravel, goal := some (.complete .hit values) }
  have arrives := finalArrival_complete (s := u) (c := x) (same.trans user) ((entry_metered metered tag).trans found)
    (by show m.csq.capture = none; rw [metered.csq]; exact alone) rfl
  have pp' : m.ldu.focus.pp = some pp := by
    rw [metered.ldu]
    exact metered.pp
  have back : m.backD = t.backD := backD_metered metered
  have d : u.backD = t.backD := back
  rw [compare_hit given sum (hit_above user exceeds), here,
    travelFinal_here (focusReady_metered metered ready) (.complete .hit values)]
  refine arrives.trans ?_
  unfold scanEnded scanOver reported State.recomputeD State.scanFields
  dsimp only
  rw [d, ← metered.opt, ← metered.ldu, plan]
  simp only [u, pp']
  rfl

omit ready in
/-- A stopped SCAN ends PARTIAL with the unit counted. -/
theorem compares_stopped (flat : ¬ Peaks c v) (low : ¬ Exceeds c v) (more : c.index + 1 < c.plan.planned)
    {cause : StopCause} (stop : c.stop = some cause) {n : Nat}
    (next : c.position (c.index + 1) = n) :
    State.deliver (m.compareRecord c r) =
      scanOver t m c (updated c v values) pp tag e .partialEnd (stopCauseOf cause) (min 65535 (e.done + 1))
        (.scan { o with start := some n, stop := some c.plan.stop }) none none
        t.ldu.focus := by
  obtain ⟨same, plan, -⟩ := updated_keeps c v values
  let w : State := State.recomputeD (m.countUnit tag)
  have ends := deliver_counted (s := m) (w := w) (same.trans user) ((entry_metered metered tag).trans found)
    (by rw [metered.csq]; exact alone) rfl rfl .partialEnd (stopCauseOf cause) none none
    (some n)
  rw [compare_stopped given sum (hit_none user flat low) more stop, countScanUnit_scan user, next]
  refine ends.trans ?_
  have over_ := scanEnded_metered metered plan tag e .partialEnd (stopCauseOf cause) (min 65535 (e.done + 1))
    (resumeOf .partialEnd (some n) (updated c v values).plan.stop o) none
  rw [plan] at over_ ⊢
  exact over_

end

/-- A refine makes no hit test: it runs out of positions, or goes to the next. -/
theorem compares_refine {centre : Nat} {positions : List Nat} (user : c.user = .refine centre positions) {b : Best}
    (best : (updated c v values).best = some b) (ready : Ready t)
    (given : windowValues c.plan.settings.mask r.contrasts = values) (sum : figure values = v) :
    (c.plan.planned ≤ c.index + 1 → (if c.plan.settings.minimum ≤ b.value then b.pos else centre) ≠ pp →
      State.deliver (m.compareRecord c r) =
        focusTravels m (if c.plan.settings.minimum ≤ b.value then b.pos else centre) pp
          { updated c v values with phase := .finalTravel, goal := some .refined }) ∧
    (c.index + 1 < c.plan.planned → c.stop = none → c.begun = true → ∀ n, positions[c.index + 1]? = some n → n ≠ pp →
      State.deliver (m.compareRecord c r) =
        focusTravels m n pp { updated c v values with index := c.index + 1, p := n, phase := .travel }) := by
  obtain ⟨same, plan, -, -, begins, -⟩ := updated_keeps c v values
  have focus := focusReady_metered metered ready
  refine ⟨fun last apart => ?_, fun more runs begun n stands apart => ?_⟩
  · rw [compare_last given sum (hit_refine user) last, positionsOut_refine best (same.trans user), plan,
      travelFinal_travels focus apart]
    rfl
  · have uncounted : m.countScanUnit (updated c v values) = m := by
      rw [State.countScanUnit, same, user] <;> rfl
    have next : (updated c v values).position (c.index + 1) = n := by
      rw [position_updated, Scan.position, user]
      simp only [List.getD_eq_getElem?_getD, stands, Option.getD_some]
    rw [compare_next given sum (hit_refine user) more runs, uncounted,
      travelUnit_travels focus (begins.trans begun) next apart]
    rfl

end

end Sys2Proof.Proofs.Comparisons
end

section
/-! PROOFS. The wait of a SCAN for a frame: its frame starts, its records, a lost step, and the final arrival (R28, R64,
R99 to R109, R153). -/

namespace Sys2Proof.Proofs.FrameWaits
open Sys2Proof Sys2Proof.Machine Sys2Proof.Proofs Sys2Proof.Proofs.CardFacts Sys2Proof.Proofs.ScanStarts
open Sys2Proof.Proofs.Scans Sys2Proof.Proofs.Metering Sys2Proof.Proofs.Preparations Sys2Proof.Proofs.Comparisons
open Sys2Proof.Proofs.LensSteps Sys2Proof.Proofs.LensRequests Sys2Proof.Proofs.Grafts

-- one declaration after another: each unfolds operations whose equations another would be waiting for
set_option Elab.async false

/-! ## The linked window (R103) -/

/-- A window and its value that no other of a list passes; of equal ones it is the lowest. -/
def Largest (l : List (Nat × Nat)) (b : Nat × Nat) : Prop := b ∈ l ∧ ∀ x ∈ l, x.2 < b.2 ∨ (x.2 = b.2 ∧ b.1 ≤ x.1)

theorem foldl_largest (rest : List (Nat × Nat)) :
    ∀ b, (b :: rest).Pairwise (fun a b => a.1 < b.1) →
      Largest (b :: rest) (rest.foldl (fun b x => if b.2 < x.2 then x else b) b) := by
  induction rest with
  | nil => exact fun b _ => ⟨List.mem_singleton.mpr rfl, fun x member => .inr (by simp [List.mem_singleton.mp member])⟩
  | cons y rest ih =>
    intro b rising
    obtain ⟨above, rising'⟩ := List.pairwise_cons.mp rising
    have onward : ((if b.2 < y.2 then y else b) :: rest).Pairwise fun a b => a.1 < b.1 := by
      split
      · exact rising'
      · exact List.pairwise_cons.mpr
          ⟨fun x member => above x (List.mem_cons_of_mem y member), (List.pairwise_cons.mp rising').2⟩
    obtain ⟨member, passes⟩ := ih _ onward
    have first := above y List.mem_cons_self
    rw [List.foldl_cons]
    generalize rest.foldl (fun b x => if b.2 < x.2 then x else b) (if b.2 < y.2 then y else b) = r at member passes ⊢
    have kept := passes _ List.mem_cons_self
    refine ⟨?_, fun x within => ?_⟩
    · obtain rfl | later := List.mem_cons.mp member
      · split
        · exact List.mem_cons_of_mem b List.mem_cons_self
        · exact List.mem_cons_self
      · exact List.mem_cons_of_mem b (List.mem_cons_of_mem y later)
    · obtain rfl | within := List.mem_cons.mp within
      · split at kept <;> omega
      · obtain rfl | within := List.mem_cons.mp within
        · split at kept <;> omega
        · exact passes x (List.mem_cons_of_mem _ within)

theorem linkedWindow_largest {l : List (Nat × Nat)} {w : Nat} (rising : l.Pairwise fun a b => a.1 < b.1)
    (linked : linkedWindow l = some w) : ∃ v, Largest l (w, v) := by
  cases l with
  | nil => cases linked
  | cons b rest =>
    obtain rfl := Option.some.inj linked
    exact ⟨_, foldl_largest rest b rising⟩

/-! ## A frame start that a scan hears (R99) -/

/-- The state a frame start leaves before FSU hears of it, told of a state without a scan. -/
def unscanned (s : State) : State := State.excFrame (State.openFrame { s with fsu := { s.fsu with scan := none } })

section
variable {s : State} {r : FrameRec} (last : s.fmn.ring.getLast? = some r) (unheld : r.offerHeld = false)
include last unheld

theorem offers_nothing (q : FrameRec) (found : s.fmn.ring.getLast? = some q) : q.offerHeld = false := by
  obtain rfl := Option.some.inj (last.symm.trans found)
  exact unheld

/-- The exposure computer does beside a scan what it does without one. -/
theorem frameBegun_scan : s.frameBegun = { unscanned s with fsu := s.fsu } := by
  let s' : State := { s with fsu := { s.fsu with scan := none } }
  obtain ⟨fmn, -, csq, offset⟩ := excFrame_leaves s'.openFrame
  rw [frameBegun_quiet (offers_nothing last unheld)]
  have same : s.openFrame = graft s'.openFrame s.openFrame := rfl
  rw [same, graft_excFrame s'.openFrame s.openFrame rfl]
  have fmn' : s.openFrame.fmn = (unscanned s).fmn := fmn.symm
  have csq' : s.openFrame.csq = (unscanned s).csq := csq.symm
  have offset' : s.openFrame.stu.offset = (unscanned s).stu.offset := offset.symm
  show { unscanned s with fmn := s.openFrame.fmn, fsu := s.fsu, csq := s.openFrame.csq,
                          stu := { (unscanned s).stu with offset := s.openFrame.stu.offset } } = _
  rw [fmn', csq', offset']

theorem frameStart_unscanned (outside : s.csq.state ≠ .interval) :
    exec .frameStart { s with fsu := { s.fsu with scan := none } } = .next (unscanned s) :=
  congrArg Host.Outcome.next
    (frameStart_quiet (s := { s with fsu := { s.fsu with scan := none } }) (offers_nothing last unheld) rfl outside)

omit last unheld in
theorem unscanned_csq : (unscanned s).csq = s.csq :=
  (excFrame_leaves (State.openFrame { s with fsu := { s.fsu with scan := none } })).2.2.1

/-- FSU's part of the frame start, told to its user. -/
theorem frameStart_heard (outside : s.csq.state ≠ .interval) {v : State}
    (heard : State.deliver (State.fsuFrame { unscanned s with fsu := s.fsu } (some r.number)) = v)
    (same : v.csq = s.csq) : exec .frameStart s = .next v := by
  have number : s.openRecord.map (·.number) = some r.number := by rw [State.openRecord, last]; rfl
  refine congrArg Host.Outcome.next ?_
  rw [State.frameStart, number, frameBegun_scan last unheld, heard, State.countInterval, if_neg]
  rw [same]
  exact outside

variable {c : Scan} (scan : s.fsu.scan = some c) (waits : c.phase = .frameWait)
include scan waits

theorem frameExpires_iff {tag : Nat} {o : ScanOperands} (user : c.user = .scan tag o) :
    s.frameExpires = true ↔ AfterMark (unscanned s) c.mark r.number ∧ 7 ≤ c.waitCount := by
  have number : s.openRecord.map (·.number) = some r.number := by rw [State.openRecord, last]; rfl
  have limit : c.waitLimit = 8 := by rw [Scan.waitLimit, user]
  have after := afterMark_iff { unscanned s with fsu := s.fsu } c.mark r.number
  have expires : s.frameExpires =
      (c.phase == .frameWait && State.afterMark { unscanned s with fsu := s.fsu } c.mark r.number &&
        decide (c.waitLimit ≤ c.waitCount + 1)) := by
    have heard : State.waitExpires { unscanned s with fsu := s.fsu } (some r.number) =
        (c.phase == .frameWait && State.afterMark { unscanned s with fsu := s.fsu } c.mark r.number &&
          decide (c.waitLimit ≤ c.waitCount + 1)) := by
      simp only [State.waitExpires, scan]
    rw [State.frameExpires, number, frameBegun_scan last unheld, heard]
  rw [expires, Bool.and_eq_true, Bool.and_eq_true, after, limit, waits, decide_eq_true_eq]
  exact ⟨fun both => ⟨both.1.2, Nat.le_of_succ_le_succ both.2⟩, fun both => ⟨⟨rfl, both.1⟩, Nat.succ_le_succ both.2⟩⟩

omit last unheld waits in
theorem fsuFrame_skips (before : ¬ AfterMark (unscanned s) c.mark r.number) :
    State.fsuFrame { unscanned s with fsu := s.fsu } (some r.number) = ({ unscanned s with fsu := s.fsu }, .none) := by
  have unmet : ¬ (c.phase = .frameWait ∧ State.afterMark { unscanned s with fsu := s.fsu } c.mark r.number = true) := by
    rintro ⟨-, after⟩
    exact before ((afterMark_iff { unscanned s with fsu := s.fsu } c.mark r.number).mp after)
  simp only [State.fsuFrame, scan]
  exact if_neg unmet

omit last unheld in
/-- The frame start counts. -/
theorem fsuFrame_counts (after : AfterMark (unscanned s) c.mark r.number) {tag : Nat} {o : ScanOperands}
    (user : c.user = .scan tag o) :
    State.fsuFrame { unscanned s with fsu := s.fsu } (some r.number) =
      if 7 ≤ c.waitCount then
        State.waitFails { unscanned s with fsu := { s.fsu with scan := some { c with waitCount := c.waitCount + 1 } } }
          { c with waitCount := c.waitCount + 1 } .noStats
      else
        ({ unscanned s with fsu := { s.fsu with scan := some { c with waitCount := c.waitCount + 1 } } }, .none) := by
  have met : c.phase = .frameWait ∧ State.afterMark { unscanned s with fsu := s.fsu } c.mark r.number = true :=
    ⟨waits, (afterMark_iff { unscanned s with fsu := s.fsu } c.mark r.number).mpr after⟩
  have limit : c.waitLimit = 8 := by rw [Scan.waitLimit, user]
  have enough : (8 ≤ c.waitCount + 1) = (7 ≤ c.waitCount) := propext Nat.succ_le_succ_iff
  simp only [State.fsuFrame, scan]
  refine (if_pos met).trans ?_
  rw [limit]
  simp only [enough]
  rfl

end

/-! ## Statistics that come for a closed record (R64, R99, R100) -/

/-- The state in which FSU is offered a filed record, EXC having metered it. -/
def offeredIn (t : State) (r : FrameRec) (f : StatsFeed) : State :=
  ((closedKept t r f).excOffer (closedOf t r f)).1

section
variable {f : StatsFeed} {t : State} {r : FrameRec} {c : Scan} {pp : Nat}

theorem offeredIn_exc (t : State) (r : FrameRec) (f : StatsFeed) :
    offeredIn t r f = { closedKept t r f with exc := (offeredIn t r f).exc } :=
  excOffer_exc _ _

theorem offeredIn_metered (scan : t.fsu.scan = some c) (waits : c.phase = .frameWait)
    (focus : t.ldu.focus.pp = some pp) : Metered t (offeredIn t r f) c pp := by
  have explicit := offeredIn_exc t r f
  exact
    { opt := (congrArg (fun u : State => u.opt) explicit).trans rfl
      ldu := (congrArg (fun u : State => u.ldu) explicit).trans rfl
      otb := (congrArg (fun u : State => u.otb) explicit).trans rfl
      count := (congrArg (fun u : State => u.freeCount) explicit).trans rfl
      csq := (congrArg (fun u : State => u.csq) explicit).trans rfl
      scan := (congrArg (fun u : State => u.fsu.scan) explicit).trans scan
      waits := waits
      pp := focus }

/-- A filed record stands after the settle mark where its frame does. -/
theorem afterMark_offeredIn (found : t.fmn.ring.find? (fun r => r.number == f.frame) = some r) (mark : Option Nat) :
    AfterMark (offeredIn t r f) mark (closedOf t r f).number ↔ AfterMark t mark f.frame := by
  have number : r.number = f.frame :=
    beq_iff_eq.mp (List.find?_some (p := fun r : FrameRec => r.number == f.frame) found)
  have ring : (offeredIn t r f).fmn.ring =
      updateFirst (fun x => x.number == f.frame) (fun _ => closedOf t r f) t.fmn.ring :=
    (congrArg (fun u : State => u.fmn.ring) (offeredIn_exc t r f)).trans rfl
  have place (n : Nat) : framePlace (offeredIn t r f).fmn.ring n = framePlace t.fmn.ring n := by
    rw [framePlace, ring]
    exact findIdx_updateFirst (q := closedOf t r f) number n
  rw [AfterMark, AfterMark, show (closedOf t r f).number = f.frame from number]
  simp only [place]

theorem marked_closedOf :
    (closedOf t r f).marked = true ↔ (closedOf t r f).expChanged = true ∨ r.unsteady = true ∨ f.hostMark ≠ 0 := by
  rw [marked_iff]
  show _ ∨ _ ∨ (f.hostMark != 0) = true ↔ _
  rw [bne_iff_ne]
  rfl

/-- The positions of a SCAN are those of its plan (R97). -/
theorem position_scan {tag : Nat} {o : ScanOperands} (user : c.user = .scan tag o) (i : Nat) :
    c.position i =
      if c.plan.up then c.plan.start + i * c.plan.settings.step else c.plan.start - i * c.plan.settings.step := by
  rw [Scan.position, user]

/-- Statistics of a closed record, out of PREPARING. -/
theorem stats_heard {s : State} (taken : s.takeHanded (.stats f) = some t)
    (found : t.fmn.ring.find? (fun r => r.number == f.frame) = some r) (fresh : r.stats = false)
    (closed : t.fmn.ring.getLast?.map (·.number) ≠ some r.number) (idle : t.csq.state ≠ .preparing) {v : State}
    (told : State.deliver ((offeredIn t r f).fsuOffer (closedOf t r f)) = v) : exec (.stats f) s = .next v := by
  rw [stats_offered_closed taken found fresh closed, offer_reaches (s := closedKept t r f) idle]
  exact congrArg Host.Outcome.next told

end

/-! ## A step lost on the way (R28, R106) -/

/-- A report to FMN writes the frame records alone (R57). -/
theorem reportStep_fmn (s : State) (a : Axis) : ∃ fmn, s.reportStep a = { s with fmn := fmn } := by
  unfold State.reportStep State.markOpen
  split
  · exact ⟨_, rfl⟩
  · exact ⟨_, rfl⟩

section
variable {s : State} {c : Scan} {tag p q : Nat} {o : ScanOperands} {e : OpEntry} (scan : s.fsu.scan = some c)
  (user : c.user = .scan tag o) (found : s.entry tag = some e) (alone : s.csq.capture = none)
  (owner : s.ldu.focus.owner = some (.op .scan tag)) (moving : s.ldu.focus.state = .moving)
  (homing : s.ldu.focus.homing = .none) (after : s.ldu.focus.after = .goOn) (pp : s.ldu.focus.pp = some p)
  (settle : s.ldu.focus.setup.settle ≠ 0) (idle : s.ldu.waitList = [])
  (next : (if s.ldu.focus.stepUp then p + 1 else p - 1) = q) (lost : lostAt .focus s.ldu.flags.focus q = true)
include scan user found alone owner moving homing after pp settle idle next lost

/-- A SCAN whose focus loses a step ends TERMINATED in that event. -/
theorem stepCompleted_scanLost :
    let alarmed := (s.reportStep .focus).attention .focus .lostStep q
    s.stepCompleted .focus =
      { alarmed with
          fsu := { alarmed.fsu with scan := none },
          ldu := { alarmed.ldu with focus := { alarmed.ldu.focus with
            pp := none, target := none, state := .settling, timer := some s.ldu.focus.setup.settle,
            owner := none } },
          opt := { table := s.opt.table.filter (fun f => f.tag != tag),
                   outbox := alarmed.opt.outbox ++
                     [.ending
                       { tag := tag, kind := e.kind, cls := .terminated, cause := .lostStep, done := e.done,
                         resume := .absent, result := none,
                         fields := .scan
                           { finalPP := none, start := c.plan.start, stop := c.plan.stop,
                             clampFlag := c.plan.clampFlag, countFlag := c.plan.countFlag,
                             best := c.best.map fun b => (b.pos, b.value), rise := c.rise, window := none,
                             d := s.ldu.d } }] } } := by
  obtain ⟨fmn, reports⟩ := reportStep_fmn s .focus
  let o' := attend s.opt .focus .lostStep q
  let settling : AxisRec :=
    { s.ldu.focus with pp := none, target := none, state := .settling, timer := some s.ldu.focus.setup.settle }
  let t : State := { s with fmn := fmn, opt := o', ldu := { s.ldu with focus := settling } }
  have settles : AxisRec.settle { s.ldu.focus with pp := none, target := none } = settling := by
    unfold AxisRec.settle
    dsimp only [settling]
    rw [homing, after]
  have opened : lostUnderMove s .focus s.ldu.focus q = t := by
    rw [lostUnderMove, settles, reports, attention_eq]
    rfl
  have completes : s.completeStep .focus = (t, .lost) := by
    rw [← opened]
    exact (completeStep_moving (a := .focus) moving).trans
      (moveStep_lost (.inr rfl) rfl owner homing after pp idle next lost)
  have entry : t.entry tag = some e := by
    rw [State.entry, show t.opt.table = s.opt.table from attend_table _ _ _ _]
    exact found
  have told : t.reportLost .focus =
      scanEnded t tag e .terminated .lostStep e.done .absent none (t.scanFields c none) := by
    have lostScan : t.scanLost c = t.finishScan c .terminated .lostStep none none none := by
      rw [State.scanLost, user]
    have ends := deliver_ended (s := t) user entry alone .terminated .lostStep none none none
    rw [← lostScan] at ends
    have hears : t.reportLost .focus = State.deliver (t.scanLost c) := by
      simp only [State.reportLost, show (t.axis .focus).owner = some (.op .scan tag) from owner,
        show t.fsu.scan = some c from scan]
    exact hears.trans ends
  have still : (t.reportLost .focus).settleZero s .focus = t.reportLost .focus := by
    rw [told]
    refine settleZero_still (fun _ => ?_) fun b other waits => ?_
    · show some s.ldu.focus.setup.settle ≠ some 0
      simpa using settle
    · cases b with
      | focus => exact absurd rfl other
      | zoom =>
        show s.ldu.zoom.state ≠ .settling
        rw [show s.ldu.zoom.state = .awaitingSlot from waits]
        decide
      | iris =>
        show s.ldu.iris.state ≠ .settling
        rw [show s.ldu.iris.state = .awaitingSlot from waits]
        decide
  rw [State.stepCompleted, completes]
  refine still.trans (told.trans ?_)
  rw [reports, attention_eq]
  unfold scanEnded
  rw [show t.opt.table = s.opt.table from attend_table _ _ _ _]
  rfl

end

/-! ## The arrival at the final position (R103, R105, R109) -/

/-- The state with the focus HELD. -/
def heldFocus (s : State) : State := { s with ldu := { s.ldu with focus := s.ldu.focus.hold } }

/-- Focus settles where its scan has sent it last. -/
theorem settle_arrives {s : State} {c : Scan} {v : Nat} (scan : s.fsu.scan = some c) (travels : c.phase = .finalTravel)
    (settling : s.ldu.focus.state = .settling) (timer : s.ldu.focus.timer.isSome = true) (pp : s.ldu.focus.pp = some v)
    (target : s.ldu.focus.target = some v) (owned : ScanOwned s.ldu.focus.owner) :
    exec (.settleTimeout .focus) s = .next (State.deliver (State.finalArrival (heldFocus s) c)) := by
  have arrived : ((heldFocus s).axis .focus).arrived = true := by
    show (s.ldu.focus.pp.isSome && s.ldu.focus.target == s.ldu.focus.pp) = true
    rw [pp, target]
    simp
  have arrives : (heldFocus s).scanArrived = State.finalArrival (heldFocus s) c := by
    simp only [State.scanArrived, show (heldFocus s).fsu.scan = some c from scan, travels]
  rw [exec_settleTimeout (a := .focus) settling timer]
  refine congrArg Host.Outcome.next ?_
  show (heldFocus s).axisHeld .focus = _
  rw [← arrives]
  obtain ⟨tag, owner⟩ | ⟨kind, owner⟩ := owned
  · simp only [State.axisHeld, show ((heldFocus s).axis .focus).owner = some (.op .scan tag) from owner, arrived,
      if_true]
  · simp only [State.axisHeld, show ((heldFocus s).axis .focus).owner = some (.capture kind) from owner, arrived,
      and_self, if_true]

/-- A refine reports in an interval that goes on. -/
theorem finalArrival_refined {s : State} {c : Scan} {x : Capture} {p : Program} (goal : c.goal = some .refined)
    (capture : s.csq.capture = some x) (counting : s.csq.state = .interval) (program : x.program = some p)
    (short : x.frames < p.interval) (clean : x.failure = none) (runs : s.stopping x.tag = false) :
    State.deliver (s.finalArrival c) =
      { s with
          fsu := { s.fsu with scan := none },
          csq := { s.csq with capture := some { x with refine := .reported } } } := by
  let t : State :=
    { s with
        fsu := { s.fsu with scan := none },
        csq := { s.csq with capture := some { x with refine := .reported } } }
  have reports (n w k : Nat) : (s.setScan none).refineReported (.refined n w k) =
      if t.csq.state = .interval then
        (if t.noFurther { x with refine := .reported } then t.enterFinishing else t.checkInterval)
      else t.checkFinish := by
    have noted : ((s.setScan none).onCapture fun c => { c with refine := .reported }) = t :=
      CaptureFacts.onCapture_eq (s := s.setScan none) capture _
    simp only [State.refineReported, noted]
    rfl
  have onward : t.noFurther { x with refine := .reported } = false := by
    show (x.failure.isSome || s.stopping x.tag) = false
    rw [clean, runs]
    rfl
  have unfinished : Capture.intervalOver { x with refine := .reported } = false := by
    rw [Bool.eq_false_iff]
    intro ends
    have enough := ((Intervals.intervalOver_iff (c := { x with refine := .reported }) program).mp ends).1
    exact absurd enough (Nat.not_le.mpr short)
  have stays := Exposures.checkInterval_goesOn (s := t) rfl unfinished
  rw [State.finalArrival, goal]
  refine (reports (s.ldu.focus.pp.getD c.p) ((c.best.map (·.value)).getD 0) (c.index + 1)).trans
    ((if_pos counting).trans ?_)
  rw [onward]
  exact (if_neg Bool.false_ne_true).trans stays

/-- Settles O33: the frame starts of the wait, the records compared, the step lost on the way, and the arrival. -/
theorem frameWaitExpires : Obligations.FrameWaitExpires := by
  unfold Obligations.FrameWaitExpires
  refine ⟨?_, fun l w rising linked => ?_, ?_, ?_, ?_⟩
  · intro s c tag o r scan user waits last unheld outside
    have csq := unscanned_csq (s := s)
    have expires := frameExpires_iff last unheld scan waits user
    have heard {v : State}
        (told : State.deliver (State.fsuFrame { unscanned s with fsu := s.fsu } (some r.number)) = v)
        (same : v.csq = s.csq) := frameStart_heard last unheld outside told same
    have runsOut {v : State} (after : AfterMark (unscanned s) c.mark r.number) (many : 7 ≤ c.waitCount)
        (frames : exec .frameStart s = .next v) : exec .frameWaitExpiry s = .next v ∧ exec .frameStart s = .next v :=
      ⟨(congrArg Host.Outcome.next (if_pos (expires.mpr ⟨after, many⟩))).trans frames, frames⟩
    refine ⟨unscanned s, frameStart_unscanned last unheld outside, fun before => ?_, fun after few => ?_,
      fun after many stays alone e found => ?_, fun after many hold b p best pp apart held homing owner idle slots => ?_⟩
    · have kept : ({ s.fsu with scan := some c } : Fsu) = s.fsu := by rw [← scan]
      refine ⟨congrArg Host.Outcome.next (if_neg fun ends => before (expires.mp ends).1), ?_⟩
      show exec .frameStart s = .next { unscanned s with fsu := { s.fsu with scan := some c } }
      rw [kept]
      exact heard (by rw [fsuFrame_skips scan before]; rfl) csq
    · refine ⟨congrArg Host.Outcome.next (if_neg fun ends => Nat.not_le.mpr few (expires.mp ends).2), heard ?_ csq⟩
      rw [fsuFrame_counts scan waits after user, if_neg (Nat.not_le.mpr few)]
      rfl
    · refine runsOut after many (heard ?_ csq)
      rw [fsuFrame_counts scan waits after user, if_pos many]
      exact waitFails_stays
        (s := { unscanned s with fsu := { s.fsu with scan := some { c with waitCount := c.waitCount + 1 } } })
        (c := { c with waitCount := c.waitCount + 1 }) user found (by rw [csq]; exact alone) stays .noStats
    · let d : Scan := { c with waitCount := c.waitCount + 1 }
      have ready : FocusReady { unscanned s with fsu := { s.fsu with scan := some d } } p :=
        ⟨pp, held, homing, idle, slots, .inl ⟨tag, owner⟩⟩
      refine runsOut after many (heard ?_ csq)
      rw [fsuFrame_counts scan waits after user, if_pos many,
        waitFails_best (c := d) (planned_scan user) hold best, travelFinal_travels ready apart]
      rfl
  · obtain ⟨v, largest⟩ := linkedWindow_largest rising linked
    exact ⟨v, largest⟩
  · intro f s t r c pp taken found fresh closed scan waits idle focus
    have metered := offeredIn_metered (r := r) (f := f) scan waits focus
    have goes {v : State} := stats_heard (v := v) taken found fresh closed idle
    have after := afterMark_offeredIn found c.mark
    have marks := marked_closedOf (t := t) (r := r) (f := f)
    have takes (eligible : r.movingFocus = false ∧ AfterMark t c.mark f.frame) :
        (closedOf t r f).movingFocus = false ∧ AfterMark (offeredIn t r f) c.mark (closedOf t r f).number :=
      ⟨eligible.1, after.mpr eligible.2⟩
    have counts {p : Prop} (clear : ¬ p) (same : (closedOf t r f).marked = true ↔ p) :
        (closedOf t r f).marked = false := Bool.eq_false_iff.mpr fun marked => clear (same.mp marked)
    refine ⟨fun bad => goes ?_, fun eligible marked skips => goes ?_, fun tag o e user entry alone =>
      ⟨fun eligible marked counted stays => goes ?_, fun eligible clear held homing noWait slots owner => ?_, ?_⟩⟩
    · rw [fsuOffer_ignores (r := closedOf t r f) metered.scan fun eligible => bad ⟨eligible.1, after.mp eligible.2⟩]
      rfl
    · rw [fsuOffer_skips metered.scan waits (takes eligible) (marks.mpr marked) skips]
      rfl
    · rw [fsuOffer_fails metered.scan waits (takes eligible) (marks.mpr marked) counted]
      exact fails_stays metered user entry alone stays .markedFrame
    · have compares := fsuOffer_compares metered.scan waits (takes eligible) (counts clear marks)
      have ready : Ready t := ⟨held, homing, noWait, slots, .inl ⟨tag, owner⟩⟩
      refine ⟨fun b peaks best apart => goes ?_, fun exceeds here => goes ?_, fun flat low last b best =>
        ⟨fun enough apart => goes ?_, fun short geometry apart => goes ?_⟩, fun flat low more =>
        ⟨fun runs begun apart => goes ?_, fun cause stop => goes ?_⟩⟩
      all_goals rw [compares]
      · exact compares_peak metered ready rfl rfl user peaks best apart
      · exact compares_above metered ready rfl rfl user entry alone exceeds here
      · exact (compares_last (r := closedOf t r f) metered ready rfl rfl user flat low last best).1 enough apart
      · exact (compares_last (r := closedOf t r f) metered ready rfl rfl user flat low last best).2 short geometry apart
      · exact compares_next (r := closedOf t r f) metered ready rfl rfl user flat low more runs begun (position_scan user _) apart
      · have ends := compares_stopped metered (r := closedOf t r f) rfl rfl user entry alone flat low more stop
          (position_scan user _)
        cases cause <;> exact ends
    · intro centre positions k user eligible clear held homing noWait slots owner b best
      have compares := fsuOffer_compares metered.scan waits (takes eligible) (counts clear marks)
      have ready : Ready t := ⟨held, homing, noWait, slots, .inr ⟨k, owner⟩⟩
      refine ⟨fun last apart => goes ?_, fun more runs begun n stands apart => goes ?_⟩
      all_goals rw [compares]
      · exact (compares_refine (r := closedOf t r f) metered user best ready rfl rfl).1 last apart
      · exact (compares_refine (r := closedOf t r f) metered user best ready rfl rfl).2 more runs begun n stands apart
  · intro tag p o flags s c e scan user found alone owner moving homing after pp settle idle q level far
    have lost : lostAt .focus (flagLevel flags .focus) q = true := (lostAt_iff _ _ _).mpr ⟨level, far⟩
    rw [exec_axisStepComplete (a := .focus) flags (.inl moving)]
    exact congrArg Host.Outcome.next
      (stepCompleted_scanLost (s := s.readFlags flags) scan user found alone owner moving homing after pp settle idle
        rfl lost)
  · intro s c v scan travels settling timer pp target
    have arrival {u : State} (owned : ScanOwned s.ldu.focus.owner)
        (told : State.deliver (State.finalArrival (heldFocus s) c) = u) : exec (.settleTimeout .focus) s = .next u := by
      rw [settle_arrives scan travels settling timer pp target owned, told]
    have fields (window : Option Nat) : (heldFocus s).recomputeD.scanFields c window =
        { finalPP := some v, start := c.plan.start, stop := c.plan.stop, clampFlag := c.plan.clampFlag,
          countFlag := c.plan.countFlag, best := c.best.map fun b => (b.pos, b.value), rise := c.rise,
          window := window, d := s.backD } := by
      rw [← pp]
      rfl
    refine ⟨fun tag o e result windows user owner found alone goal => arrival (.inl ⟨tag, owner⟩) ?_,
      fun tag o e cause user owner found alone goal => arrival (.inl ⟨tag, owner⟩) ?_,
      fun k centre positions x p user goal owner capture counting program short clean runs =>
        arrival (.inr ⟨k, owner⟩) ?_⟩
    · have ends := finalArrival_complete (s := heldFocus s) user found alone goal
      rw [fields] at ends
      refine ends.trans ?_
      cases result <;> rfl
    · have ends := finalArrival_nullified (s := heldFocus s) user found alone goal
      rw [fields] at ends
      exact ends
    · exact finalArrival_refined (s := heldFocus s) goal capture counting program short clean runs

end Sys2Proof.Proofs.FrameWaits
end

section
/-! PROOFS. RESTART: how it is answered, the state it leaves, and what it outlives (R17, R38, R65, R90, R95, R126, R138,
R157, R170, R174, R193, R201). -/

namespace Sys2Proof.Proofs.Restarts
open Sys2Proof Sys2Proof.Machine Sys2Proof.Proofs Sys2Proof.Proofs.LensSteps Sys2Proof.Proofs.Steadying
open Sys2Proof.Proofs.CardFacts Sys2Proof.Proofs.FrameWaits

-- one declaration after another: each unfolds operations whose equations another would be waiting for
set_option Elab.async false

/-! ## The action of each block -/

section
variable (s : State)

/-- The state of the stage's table at a RESTART, the window closed (R117). -/
def restartRow : StuState :=
  if s.stu.fault then .fault
  else if s.stu.mode = .off then .off
  else if s.activeKind = .review ∨ s.stu.mode = .shotOnly then .hold
  else if s.stu.offset = none then .uncalibrated
  else .active

/-- STU's registers after a RESTART (R126). -/
def restartedStu : Stu :=
  { s.stu with
    state := restartRow s, yaw := resting (restartRow s) s.stu.yaw, pitch := resting (restartRow s) s.stu.pitch,
    window := false, cal := none }

theorem restartStu_eq : s.restartStu = { s with stu := restartedStu s } := by
  have row : State.stuRow { s with stu := { s.stu with window := false } } = restartRow s := by
    simp only [State.stuRow, Option.isNone_iff_eq_none, and_true]
    rfl
  unfold State.restartStu
  rw [row]
  simp only [State.onSteady, rest_locks]
  rfl

/-- The mechanical shutter closes at a RESTART (R157). -/
def closesNow : Bool :=
  decide (s.csq.state = .exposing) && decide (s.csq.capture.map (·.shutter) = some .mechanical)

/-- CSQ's registers after a RESTART (R157). -/
def restartedCsq : Csq :=
  { s.csq with
    state := .idle, capture := none, pendingIntake := [], xstart := false,
    xclose := s.csq.xclose || closesNow s, closeTimer := s.csq.closeTimer || closesNow s }

theorem restartCsq_eq : s.restartCsq = { s with csq := restartedCsq s } := by
  have shutter : (match s.csq.capture with | some c => c.shutter == .mechanical | none => false) =
      decide (s.csq.capture.map (·.shutter) = some .mechanical) := by
    cases s.csq.capture with
    | none => rfl
    | some c =>
      show (c.shutter == .mechanical) = decide (some c.shutter = some .mechanical)
      cases c.shutter <;> rfl
  have exposing : (s.csq.state == .exposing) = decide (s.csq.state = .exposing) := by
    cases s.csq.state <;> rfl
  unfold State.restartCsq restartedCsq closesNow
  rw [← shutter, ← exposing] <;> rfl

/-- The bytes a FIFO stands for. -/
def fifoBytes (fifo : List FifoItem) : Nat := (fifo.map fun i => match i with | .byte _ => 1 | .gap lost => lost).sum

/-- The engine after a RESTART (R170). -/
def restartedEngine : Engine :=
  match s.pbf.engine with
  | .data id =>
    (match s.record id with
     | some r => drainFor (r.length.getD 0 - r.received - fifoBytes s.pbf.fifo)
     | none => .seek false false)
  | .drain n => drainFor (n - fifoBytes s.pbf.fifo)
  | .header _ => .seek false false
  | .seek afterA5 raised => .seek afterA5 raised

/-- PBF's registers after a RESTART (R170). -/
def restartedPbf : Pbf :=
  { s.pbf with
    records := s.pbf.records.filter (fun r => !r.arriving),
    freePages := s.pbf.freePages ++ (s.pbf.records.filter PicRecord.arriving).flatMap fun r => r.pages ++ r.reserved,
    request := false, fifo := [], engine := restartedEngine s }

theorem restartPbf_eq : s.restartPbf = { s with pbf := restartedPbf s } := rfl

/-- A continuation HOLD waits no more. -/
def unheld (k : Continuation) : Continuation := if k = .hold then .none else k

/-- CSU's registers after a RESTART, but for the store's state (R174, R193). -/
def restartedCard (c : Csu) : Csu :=
  { c with
    opening := none, awaiting := if c.opening = none then c.awaiting else none,
    capacity := if c.opening = none then c.capacity else none,
    placement := c.placement.map fun p => { p with deferred := unheld p.deferred } }

/-- CSU's registers after a RESTART (R193). -/
def restartedCsu (c : Csu) : Csu :=
  match c.store with
  | .writing => { restartedCard c with restarted := true }
  | .faulted =>
    { restartedCard c with fault := c.fault.map fun f => { f with continuation := unheld f.continuation } }
  | _ => { restartedCard c with store := .disabled }

/-- An opening is given up with what it has learnt (R174). -/
def openingDropped (c : Csu) : Csu :=
  { c with
    opening := none, awaiting := if c.opening = none then c.awaiting else none,
    capacity := if c.opening = none then c.capacity else none }

theorem openingDropped_eq :
    (if s.csu.opening.isSome then s.onCsu fun c => { c with opening := none, awaiting := none, capacity := none }
      else s) = { s with csu := openingDropped s.csu } := by
  unfold openingDropped
  split
  · rename_i opens
    have busy : ¬ s.csu.opening = none := Option.isSome_iff_ne_none.mp opens
    rw [if_neg busy, if_neg busy]
    rfl
  · rename_i closed
    have idle : s.csu.opening = none := Option.not_isSome_iff_eq_none.mp closed
    rw [if_pos idle, if_pos idle, ← idle]

theorem restartCsu_eq : s.restartCsu = { s with csu := restartedCsu s.csu } := by
  have forgotten : (fun p : Placement => if p.deferred = .hold then { p with deferred := .none } else p) =
      fun p => { p with deferred := unheld p.deferred } := by
    funext p
    unfold unheld
    split <;> rfl
  have forgets : State.forgetHold { s with csu := openingDropped s.csu } = { s with csu := restartedCard s.csu } := by
    rw [State.forgetHold, forgotten]
    rfl
  have card := openingDropped_eq s
  unfold State.restartCsu
  dsimp only
  rw [card, forgets]
  show (match s.csu.store with | .writing => _ | .faulted => _ | _ => _) = _
  unfold restartedCsu
  cases s.csu.store <;> rfl

/-- LDU's registers after a RESTART (R38). -/
def restartedLdu : Ldu :=
  { s.ldu with
    zoom := s.ldu.zoom.restart, focus := s.ldu.focus.restart, iris := s.ldu.iris.restart, waitList := [],
    pendingIris := none, irisWriter := none, ops := [] }

/-- The whole state after a RESTART (R201). -/
def restarted : State :=
  { s with
      lif := { s.lif with assembler := .hunt, queue := [], linkError := false, handed := [], replies := [],
                          restart := .none },
      opt := { table := [], outbox := [.ready .restart] }, ldu := restartedLdu s, fmn := { s.fmn with ring := [] },
      exc := { s.exc with x := none, lock := .none, ring := [], clamp := .none, latest := none },
      fsu := { s.fsu with scan := none }, stu := restartedStu s, pcs := { s.pcs with op := none },
      csq := restartedCsq s, pbf := restartedPbf s, csu := restartedCsu s.csu }

theorem carryOutRestart_eq : s.carryOutRestart = restarted s := by
  rw [State.carryOutRestart, restartStu_eq, restartCsq_eq, restartPbf_eq, restartCsu_eq]
  rfl

/-- The end of the DONE that answers a RESTART, no other reply owed. -/
theorem exec_restartDone {r : Reply} {bytes : List Byte} (tx : s.lif.tx = some { item := .reply r, bytes := bytes })
    (answered : s.lif.restart = .answered) (last : s.lif.replies = []) :
    exec .packetTransmissionEnd s =
      .next
        { restarted s with
            lif := { s.lif with assembler := .hunt, queue := [], linkError := false, handed := [], tx := none,
                                restart := .none } } := by
  have ends : s.endPacket = State.carryOutRestart { s with lif := { s.lif with tx := none } } := by
    rw [State.endPacket, tx]
    exact if_pos ⟨answered, last⟩
  have replies : ({ s.lif with
      assembler := .hunt, queue := [], linkError := false, handed := [], replies := [], tx := none,
      restart := .none } : Lif) =
      { s.lif with assembler := .hunt, queue := [], linkError := false, handed := [], tx := none,
                   restart := .none } := by
    rw [← last]
  rw [← replies]
  exact congrArg Host.Outcome.next (ends.trans (carryOutRestart_eq _))

end

/-! ## The step carried past a RESTART (R28, R38, R53) -/

section
variable {u : State} {a : Axis} {r : AxisRec} (stands : u.axis a = r)
include stands

theorem afterStep_holds (after : r.after = .hold) : u.afterStep a = u.setAxis a r.hold := by
  subst stands
  simp only [State.afterStep, after]

variable (free : r.owner = none)
include free

theorem countStep_free : u.countStep a = u := by
  simp only [State.countStep, stands, free]

theorem loseStep_holds (after : r.after = .hold) (q : Nat) :
    u.loseStep a q =
      State.referenceLost
        ((u.setAxis a (AxisRec.hold { r with pp := none, target := none })).attention (axisSource a) .lostStep q)
        a := by
  let w := State.referenceLost
    ((u.setAxis a (AxisRec.hold { r with pp := none, target := none })).attention (axisSource a) .lostStep q) a
  have unowned : (w.axis a).owner = none := by
    rw [referenceLost_axis, attention_axis, State.axis_setAxis_same]
    exact free
  have narrow : u.wideMove a = false := by simp only [State.wideMove, stands, free]
  have unmarked : w.markPart a .failed = w := by simp only [State.markPart, unowned]
  have alone : w.lensLost a = w := by simp only [State.lensLost, unowned]
  have loses : u.loseStep a q = (w.markPart a .failed).lensLost a := by
    simp only [State.loseStep, stands, narrow, after, Bool.false_eq_true, if_false, if_true]
    rfl
  rw [loses, unmarked, alone]

end

/-- The axis comes to rest with a record of its last step. -/
def restsAt (s : State) (a : Axis) (q : AxisRec) : State := (s.reportStep a).setAxis a q.hold

section
variable {s : State} {a : Axis} {r : AxisRec} (stands : s.axis a = r) (free : r.owner = none) (after : r.after = .hold)
  (idle : s.ldu.waitList = []) (still : s.fsu.scan = none)
include idle

theorem restsAt_idle (q : AxisRec) : (restsAt s a q).arbitrate = restsAt s a q :=
  State.arbitrate_nil _
    ((State.setAxis_waitList _ a _).trans ((congrArg Ldu.waitList (reportStep_others s a).1).trans idle))

include stands free after

/-- A homing step carried past a RESTART ends in HELD. -/
theorem homingStep_rests :
    s.homingStep a = restsAt s a { r with homingCount := r.homingCount + 1 } := by
  have uncounted : (s.reportStep a).countStep a = s.reportStep a := by
    simp only [State.countStep, reportStep_axis, stands, free]
  have rests : s.homingStep a =
      (((s.reportStep a).setAxis a { r with homingCount := r.homingCount + 1 }).setAxis a
        (AxisRec.hold { r with homingCount := r.homingCount + 1 })).arbitrate := by
    simp only [State.homingStep, stands, uncounted, ite_self]
    exact if_pos after
  rw [rests, State.setAxis_setAxis]
  exact restsAt_idle idle _

variable {p q : Nat} (plain : r.homing = .none) (pp : r.pp = some p)
  (next : (if r.stepUp then p + 1 else p - 1) = q)
include plain pp next

/-- A step carried past a RESTART that is not lost ends in HELD. -/
theorem moveStep_rests (kept : lostAt a (flagLevel s.ldu.flags a) q = false) :
    s.moveStep a = (restsAt s a { r with pp := some q }, .stepped) := by
  have claimed := State.axis_setAxis_same (s.reportStep a) a { r with pp := some q }
  have rests : State.afterStep (State.countStep ((s.reportStep a).setAxis a { r with pp := some q }) a) a =
      restsAt s a { r with pp := some q } := by
    rw [countStep_free claimed free, afterStep_holds claimed after, State.setAxis_setAxis, restsAt]
  have unasked : ¬ (a = .zoom ∧
      State.isFollowPoint (restsAt s a { r with pp := some q }) q (decide (r.after = .settle)) = true) := by
    rintro ⟨rfl, follow⟩
    have unowned : (restsAt s .zoom { r with pp := some q }).ldu.zoom.owner = none := free
    rw [State.isFollowPoint, unowned] at follow
    exact Bool.false_ne_true follow
  rw [moveStep_kept stands (by rw [plain]; decide) pp next kept, rests]
  exact congrArg (fun v : State => (v, StepResult.stepped))
    ((congrArg State.arbitrate (if_neg unasked)).trans (restsAt_idle idle _))

/-- A step carried past a RESTART that is lost leaves the axis HELD, and who reads its position hears of it. -/
theorem moveStep_restsLost (lost : lostAt a (flagLevel s.ldu.flags a) q = true) :
    s.moveStep a =
      (State.referenceLost
        ((restsAt s a { r with pp := none, target := none }).attention (axisSource a) .lostStep q) a, .lost) := by
  let w := State.referenceLost
    ((restsAt s a { r with pp := none, target := none }).attention (axisSource a) .lostStep q) a
  have claimed := State.axis_setAxis_same (s.reportStep a) a { r with pp := some q }
  have loses : State.loseStep ((s.reportStep a).setAxis a { r with pp := some q }) a q = w := by
    rw [loseStep_holds claimed free after, State.setAxis_setAxis] <;> rfl
  have quiet : w.ldu.waitList = [] := by
    rw [(State.referenceLost_frame _ a).2.2.2.1, (State.attention_frame _ _ _ _).2.2.1, restsAt,
      State.setAxis_waitList, (reportStep_others s a).1]
    exact idle
  have unasked : ¬ r.homing = .pending := by rw [plain]; decide
  subst stands next
  simp only [State.moveStep, pp, Option.getD_some, if_neg unasked, lost, if_true]
  exact congrArg (fun v : State => (v, StepResult.lost))
    ((congrArg State.arbitrate loses).trans (State.arbitrate_nil _ quiet))

end

/-! ## What the end of that step leads to -/

section
variable {s : State} {a : Axis} (q : AxisRec)

theorem restsAt_axis (b : Axis) : (restsAt s a q).axis b = if b = a then q.hold else s.axis b := by
  split
  · rename_i same
    rw [same, restsAt, State.axis_setAxis_same]
  · rename_i other
    rw [restsAt, State.axis_setAxis_ne _ _ other, reportStep_axis]

/-- Nothing settles with the axis at rest. -/
theorem settleZero_rests {t : State} (same : ∀ b, t.axis b = (restsAt s a q).axis b) : t.settleZero s a = t := by
  refine settleZero_still (fun settling => ?_) fun b other waits => ?_
  · rw [same, restsAt_axis, if_pos rfl] at settling
    cases settling
  · rw [same, restsAt_axis, if_neg other, waits]
    decide

variable (still : s.fsu.scan = none)
include still

theorem stepCompleted_rests (completes : s.completeStep a = (restsAt s a q, .stepped)) :
    s.stepCompleted a = restsAt s a q := by
  have quiet (r : AxisRec) : (restsAt s a q).scanStepped r = restsAt s a q := by
    have scan : (restsAt s a q).fsu.scan = none := by
      rw [restsAt, State.setAxis_fsu, (reportStep_others s a).2.1]
      exact still
    rw [State.scanStepped, scan]
  rw [State.stepCompleted, completes]
  show State.settleZero (if a = .focus then (restsAt s a q).scanStepped s.ldu.focus else restsAt s a q) s a = _
  rw [quiet, ite_self]
  exact settleZero_rests q fun _ => rfl

omit still in
theorem stepCompleted_restsLost {detail : Nat} (free : q.owner = none) (iris : s.ldu.irisWriter = none)
    (completes : s.completeStep a =
      (State.referenceLost ((restsAt s a q).attention (axisSource a) .lostStep detail) a, .lost)) :
    s.stepCompleted a = State.referenceLost ((restsAt s a q).attention (axisSource a) .lostStep detail) a := by
  let t := State.referenceLost ((restsAt s a q).attention (axisSource a) .lostStep detail) a
  have same (b : Axis) : t.axis b = (restsAt s a q).axis b := (referenceLost_axis _ a b).trans (attention_axis _ _ _ _ b)
  have unowned : (t.axis a).owner = none := by
    rw [same, restsAt_axis, if_pos rfl]
    exact free
  have unwritten : t.ldu.irisWriter = none := by
    have ldu : t.ldu = (restsAt s a q).ldu :=
      (State.referenceLost_frame _ a).2.2.2.1.trans (State.attention_frame _ _ _ _).2.2.1
    rw [ldu]
    have writer : (restsAt s a q).ldu.irisWriter = (s.reportStep a).ldu.irisWriter := by cases a <;> rfl
    rw [writer, (reportStep_others s a).1]
    exact iris
  have unheard : t.reportLost a = t := by
    simp only [State.reportLost, unowned, unwritten, reduceCtorEq, and_false, if_false]
  rw [State.stepCompleted, completes]
  show State.settleZero (t.reportLost a) s a = t
  rw [unheard]
  exact settleZero_rests q same

end

/-- Who reads an axis's position hears of its loss (R53, R68). -/
theorem referenceLost_eq (w : State) (a : Axis) :
    w.referenceLost a =
      match a with
      | .zoom =>
        if w.excLost.stu.state = .active ∨ w.excLost.stu.state = .panning then w.excLost.onSteady SteadyAxis.centre
        else w.excLost
      | .focus => w
      | .iris => w.excLost := by
  cases a with
  | zoom =>
    show w.excLost.centreStu = _
    have runs (state : StuState) : state.runs = true ↔ state = .active ∨ state = .panning := by
      cases state <;> decide
    simp only [State.centreStu, runs]
  | focus => rfl
  | iris => rfl

/-- Settles O9: the taking, the answer, the state left, the step carried past it, and the closing. -/
theorem restartCarriedOut : Obligations.RestartCarriedOut := by
  unfold Obligations.RestartCarriedOut
  refine ⟨Link.headPacketTaken.1, fun tag s t reaches mayTake => ?_, fun s r bytes tx answered last => ?_, ?_, ?_⟩
  · exact congrArg Host.Outcome.next ((if_pos mayTake).trans (State.onRequest_reaches reaches _))
  · exact exec_restartDone s tx answered last
  · intro a flags s r stands free after idle still iris
    have reads : (s.readFlags flags).axis a = r := by cases a <;> exact stands
    have asked (steps : r.state = .moving ∨ r.state = .homing) :=
      exec_axisStepComplete (s := s) (a := a) flags (by rw [stands]; exact steps)
    refine ⟨fun homing => ?_, fun p moving plain pp => ⟨fun kept => ?_, fun lost => ?_⟩⟩
    · have completes : (s.readFlags flags).completeStep a =
          (restsAt (s.readFlags flags) a { r with homingCount := r.homingCount + 1 }, .stepped) := by
        rw [State.completeStep, reads, homing]
        exact congrArg (fun t : State => (t, StepResult.stepped)) (homingStep_rests reads free after idle)
      rw [asked (.inr homing), stepCompleted_rests (s := s.readFlags flags) _ still completes]
      rfl
    all_goals have completes := completeStep_moving (s := s.readFlags flags) (a := a) (by rw [reads]; exact moving)
    · have clear := (Bool.not_eq_true _).mp (mt (lostAt_iff a (flagLevel flags a) _).mp kept)
      rw [asked (.inl moving),
        stepCompleted_rests (s := s.readFlags flags) _ still (completes.trans (moveStep_rests reads free after idle plain pp rfl clear))]
      rfl
    · have loses := (lostAt_iff a (flagLevel flags a) _).mpr lost
      rw [asked (.inl moving),
        stepCompleted_restsLost (s := s.readFlags flags) { r with pp := none, target := none } free iris
          (completes.trans (moveStep_restsLost reads free after idle plain pp rfl loses)), referenceLost_eq]
      cases a <;> rfl
  · intro s closing idle
    refine congrArg Host.Outcome.next ((if_pos closing).trans ?_)
    rw [idle]
    rfl

end Sys2Proof.Proofs.Restarts
end
